-- ==== Sys2Proof/Word.lean ====
section
/-! DEFINITION. The word types of the WB316: 32-bit register words and 8-bit characters. -/

namespace Sys2Proof

/-- A register word of the host port (00_scope.md: "Registers are 32-bit words"). -/
abbrev Word := BitVec 32

/-- The eight data bits of a character, or one payload byte of a frame or packet. -/
abbrev Byte := BitVec 8

/-- A word address of the host port (00_scope.md: "word addresses are 14-bit"). -/
abbrev Addr := BitVec 14

/-- The travel count and every deadline expressed in it (R22). -/
abbrev Travel := BitVec 32

end Sys2Proof
end

