-- ==== Sys2Proof/Config.lean ====
section
/-! DEFINITION. What the part fixes: identification values, capacities and clock ratios, and the free values
that stand for what the manual leaves open. -/

namespace Sys2Proof

/-- HP_ID (R16). -/
def Config.hpId : Word := 0x57423136#32

/-- HP_REV (R16). -/
def Config.hpRev : Word := 0x0001#32

/-- Microticks of the readiness period (R6). -/
def Config.readiness : Nat := 256

/-- Reference clock periods of a microtick (R28). -/
def Config.microtick : Nat := 25

/-- Reference clock periods from one position event to the next, at least (R21). -/
def Config.eventSpacing : Nat := 40

/-- Places of the step accumulator (R21). -/
def Config.accumulator : Nat := 4

/-- Entries of the sensor delay ring (R37). -/
def Config.ring : Nat := 32

/-- Entries of the item ledger (R73). -/
def Config.ledger : Nat := 512

/-- Records of the retired window (R80). -/
def Config.window : Nat := 32

/-- Entries of the verdict channel's receive FIFO (R92). -/
def Config.fifo : Nat := 256

/-- Records of the disposition log (R119). -/
def Config.log : Nat := 128

/-- Places of the route queue (R145). -/
def Config.routeQueue : Nat := 8

/-- Places of the tag queue (R145). -/
def Config.tagQueue : Nat := 64

/-- Places of the notice queue (R145). -/
def Config.noticeQueue : Nat := 32

/-- The tag queue level at which the Tag queue high hold is active (R63). -/
def Config.tagHigh : Nat := 56

/-- The route queue level at which the Route queue high hold is active (R63). -/
def Config.routeHigh : Nat := 6

/-- Counters of each bank (section 13.2). -/
def Config.counters : Nat := 116

/-- FREE VALUE (log 10). What LP_SINCE_INDEX holds after an increment at 8191 that no rule resets: the register
is 13 bits wide (section 2.1) and R26 does not say what follows its largest value. The argument is the draw's number. -/
opaque Config.sinceIndexBeyond : Nat → BitVec 13

/-- FREE VALUE (log 11). Whether, at a cycle start at which a reference generator is due, the generator makes its
occurrence test (R45) before its proposal (R46); both stand at step 6 and no rule orders them. The argument is
the draw's number. -/
opaque Config.referenceTestFirst : Nat → Bool

end Sys2Proof
end

