-- ==== Sys2Proof/Syntax.lean ====
section
/-! DEFINITION. The commands of the WB316: one constructor for each row of spec/opcode_table.json, with the
row's operands, and the closed sets of names the operands use. -/

namespace Sys2Proof

/-- A station group, its fire line and its buffer model (00_scope.md, terms). -/
inductive Group where
  | a | b | c | d
  deriving DecidableEq, Repr

/-- A periodic generator (section 3.4). -/
inductive PerGen where
  | p1 | p2
  deriving DecidableEq, Repr

/-- A reference generator (section 3.5). -/
inductive RefGen where
  | a | b | c
  deriving DecidableEq, Repr

/-- A resync sequence (chapter 11). -/
inductive SeqId where
  | station | full
  deriving DecidableEq, Repr

/-- An anchored slot, in the order of priority of R139. -/
inductive SlotId where
  | cycleMark | fullReset | stationReset | refA | refB | refC | user
  deriving DecidableEq, Repr

/-- A gate line (R115). -/
inductive GateLine where
  | reject | divert
  deriving DecidableEq, Repr

/-- A table reached through a pointer and a data port (section 1.5). -/
inductive TableId where
  | pattern | route | station
  deriving DecidableEq, Repr

/-- One of the two selective clear registers (R180). -/
inductive ClearBank where
  | mask0 | mask1
  deriving DecidableEq, Repr

/-- A character received on a serial line: eight data bits, the marker bit and the level sampled at the stop bit
(R90, R125). A stop bit sampled low is a framing error. -/
structure LineChar where
  data : Byte
  marker : Bool
  stop : Bool
  deriving DecidableEq, Repr

/-- The levels of the input pins that a position event samples: MARK (R36), BUSY_IN0 and BUSY_IN1 (R58) and
LANE_ST0 to LANE_ST7 (R67). -/
structure Pins where
  mark : Bool
  busy0 : Bool
  busy1 : Bool
  lane : Byte
  deriving DecidableEq, Repr

/-- One record of a verdict packet (R95). `code` is the verdict code as received, valid or not (R104). -/
structure VerdictRecord where
  epoch : BitVec 4
  itemId : BitVec 24
  code : BitVec 4
  detail : Byte
  deriving DecidableEq, Repr

/-- The commands of the block. Each constructor is one row of spec/opcode_table.json; the docstring names the row
and its rule.

A row that is a write of one register carries either the value of its own field, and the word holds the other fields
as they stand, or (`others`) the other bits of the word, and the word has the row's own bit set (log 8). A word with
any value at any address is `registerWrite`. -/
inductive Instr where
  /-- PIN_RESET (R177): RESET_N is asserted and released. -/
  | pinReset
  /-- READINESS_END (R6). -/
  | readinessEnd
  /-- REGISTER_WRITE (R8): a completed write word. -/
  | registerWrite (addr : Addr) (value : Word)
  /-- UNMAPPED_READ (R13): a completed read word at an address that is no Port. -/
  | unmappedRead (addr : Addr)
  /-- INSTALL_LOCK (R9): a word to HP_CTRL with INSTALL_LOCK written as 1. -/
  | installLock (others : Word)
  /-- REFUSED_CLEAR (R16): a word to HP_CTRL with REFUSED_CLEAR written as 1. -/
  | refusedClear (others : Word)
  /-- TABLE_DATA_READ (R15). -/
  | tableDataRead (table : TableId)
  /-- TABLE_DATA_WRITE (R15). -/
  | tableDataWrite (table : TableId) (value : Word)
  /-- LOG_POP (R122): a read word of GD_LOG_POP0. -/
  | logPop
  /-- RAW_READ (R94): a read word of VC_RAW. -/
  | rawRead
  /-- START (R168): a word to RC_COMMAND with START set. -/
  | start (others : Word)
  /-- STOP (R169): a word to RC_COMMAND with STOP set. -/
  | stop (others : Word)
  /-- ABORT (R170): a word to RC_COMMAND with ABORT set. -/
  | abort (others : Word)
  /-- RECOVER (R171): a word to RC_COMMAND with RECOVER set. -/
  | recover (others : Word)
  /-- SNAPSHOT (R179): a word to RC_ACTION with SNAPSHOT set. -/
  | snapshot (others : Word)
  /-- CLEAR_COUNTERS (R180): a word to RC_ACTION with CLEAR_COUNTERS set. -/
  | clearCounters (others : Word)
  /-- SELECTIVE_CLEAR (R180): a word to CT_CLEAR_MASK0 or CT_CLEAR_MASK1. -/
  | selectiveClear (bank : ClearBank) (groups : Word)
  /-- CLEAR_LOG (R123): a word to RC_ACTION with CLEAR_LOG set. -/
  | clearLog (others : Word)
  /-- CLEAR_RX (R108): a word to RC_ACTION with CLEAR_RX set. -/
  | clearRx (others : Word)
  /-- DEVICE_RESET (R176): a word to RC_ACTION with DEVICE_RESET set. -/
  | deviceReset (others : Word)
  /-- EVENT_CLEAR (R174): a word to RC_EVENT_CLEAR. -/
  | eventClear (flags : Word)
  /-- INT_POLARITY_CHANGE (R175): a word to RC_CFG. -/
  | intPolarityChange (activeLow : Bool)
  /-- COUNT_RESTART (R149): a word to RC_DEMAND. -/
  | countRestart (set : Bool)
  /-- USER_COMMAND_REQUEST (R140, R144): a word to SL_DEMAND. -/
  | userCommandRequest (set : Bool)
  /-- SLOT_CANCEL (R144): a word to SL_SLOT_CANCEL. -/
  | slotCancel (slots : Word)
  /-- FLUSH (R157): a word to BR_DEMAND with FLUSH set. -/
  | flush
  /-- SR_REQUEST (R159): a word to SQ_DEMAND. -/
  | srRequest (set : Bool)
  /-- FR_REQUEST (R159): a word to SQ_DEMAND. -/
  | frRequest (set : Bool)
  /-- CAPTURE_NOW (R52): a word to CS_DEMAND. -/
  | captureNow (set : Bool)
  /-- PERIODIC_REQUEST (R44): a word to CS_DEMAND. -/
  | periodicRequest (gen : PerGen) (set : Bool)
  /-- REFERENCE_REQUEST (R45): a word to CS_DEMAND. -/
  | referenceRequest (gen : RefGen) (set : Bool)
  /-- RANDOM_ENABLE (R50): a word to CS_RANDOM_ENABLE. -/
  | randomEnable (set : Bool)
  /-- GENERATOR_ENABLE (R18): a word to LP_GEN_ENABLE. -/
  | generatorEnable (set : Bool)
  /-- SOURCE_CHANGE (R19): a word to LP_CFG; `internal` is the value of SOURCE. -/
  | sourceChange (internal : Bool)
  /-- INDEX_USE_CHANGE (R19): a word to LP_CFG. -/
  | indexUseChange (use : Bool)
  /-- STALL_LIMIT_WRITE (R29): a word to LP_STALL_MS. -/
  | stallLimitWrite (ms : BitVec 16)
  /-- LINK_ENABLE_CHANGE (R129): a word to SL_CFG. -/
  | linkEnableChange (set : Bool)
  /-- RAW_MODE_CHANGE (R94): a word to VC_CFG. -/
  | rawModeChange (set : Bool)
  /-- PARSER_PAUSE (R93): a word to VC_CFG. -/
  | parserPause (set : Bool)
  /-- SW_FLOW_CLEAR (R105): a word to VC_FLOW_CFG with SW_FLOW written as 0. -/
  | swFlowClear
  /-- HW_FLOW_CLEAR (R107): a word to VC_FLOW_CFG with HW_FLOW written as 0. -/
  | hwFlowClear
  /-- SILENCE_LIMIT_WRITE (R109): a word to VC_SILENCE_MS. -/
  | silenceLimitWrite (ms : BitVec 16)
  /-- ENCODER_STEP (R17, R20): a rising edge of ENC_STEP with ENC_DIR at the level `forward`. -/
  | encoderStep (forward : Bool)
  /-- INDEX_EDGE (R24): a rising edge of ENC_INDEX. -/
  | indexEdge
  /-- GENERATOR_STEP (R18). -/
  | generatorStep
  /-- SENSE_EDGE (R34): a rising edge of SENSE. -/
  | senseEdge
  /-- POSITION_EVENT (R30): with the pin levels at the event's edge. -/
  | positionEvent (pins : Pins)
  /-- CYCLE_START (R23). -/
  | cycleStart
  /-- MISSING_INDEX (R26). -/
  | missingIndex
  /-- SENSOR_DUE (R38). -/
  | sensorDue
  /-- BRACKET_PROPOSAL (R41). -/
  | bracketProposal
  /-- REFERENCE_DUE (R46). -/
  | referenceDue (gen : RefGen)
  /-- FIRE_PULSE_END (R66). -/
  | firePulseEnd (group : Group)
  /-- MODEL_DRAIN (R70). -/
  | modelDrain (group : Group)
  /-- GATE_RETIREMENT (R111). -/
  | gateRetirement
  /-- GATE_PULSE_END (R115). -/
  | gatePulseEnd (line : GateLine)
  /-- STALL_EXPIRY (R29). -/
  | stallExpiry
  /-- QUIESCE_END (R162). -/
  | quiesceEnd (seq : SeqId)
  /-- RECOVER_END (R164). -/
  | recoverEnd (seq : SeqId)
  /-- RUN_DRAINED (R169). -/
  | runDrained
  /-- VC_CHARACTER (R92): a character completes on VC_RX; `idle` is the idle time before its start edge that the
  part's own measure (`vc.idle`) has not counted, in reference clock periods (R91, log 12). -/
  | vcCharacter (char : LineChar) (idle : Nat)
  /-- PARSE_ENTRY (R93). -/
  | parseEntry
  /-- TRUNCATED_GAP (R100). -/
  | truncatedGap
  /-- PACKET_ACCEPT (R103): a good packet with its sequence number and its records. -/
  | packetAccept (seqNo : Byte) (records : List VerdictRecord)
  /-- VC_TX_COMPLETE (R106). -/
  | vcTxComplete
  /-- SILENCE_EXPIRY (R109). -/
  | silenceExpiry
  /-- FRAME_SELECTION (R146): the selection of the edge of the commands since the last selection or tick (log 29). -/
  | frameSelection
  /-- FRAME_END (R124). -/
  | frameEnd
  /-- SPACING_END (R129). -/
  | spacingEnd
  /-- POLL_TIMER_EXPIRY (R132). -/
  | pollTimerExpiry
  /-- STATUS_REPLY (R135): the fourth reply character. -/
  | statusReply (char : LineChar)
  /-- REPLY_TIMEOUT (R134). -/
  | replyTimeout
  /-- SHORT_REPLY (R134). -/
  | shortReply
  /-- UNSOLICITED_CHARACTER (R136). -/
  | unsolicitedCharacter (char : LineChar)
  /-- FULL_RESYNC_START (R160). -/
  | fullResyncStart
  /-- STATION_RESYNC_START (R160). -/
  | stationResyncStart
  /-- SLOT_GUARD_OPENING (R141). -/
  | slotGuardOpening (slot : SlotId)
  /-- SLOT_ANCHOR (R142). -/
  | slotAnchor (slot : SlotId)
  /-- PERIODIC_OCCURRENCE (R43). -/
  | periodicOccurrence (gen : PerGen)
  /-- BRACKET_START (R40). -/
  | bracketStart
  /-- TRANSACTION_HEADER (R1): the three header bytes. -/
  | transactionHeader (byte0 byte1 byte2 : Byte)
  /-- TRANSACTION_END (R4). -/
  | transactionEnd
  /-- UNMAPPED_WRITE (R13): a completed write word. -/
  | unmappedWrite (addr : Addr) (value : Word)
  /-- REPLY_CHARACTER (R134): one of the first three reply characters. -/
  | replyCharacter (char : LineChar)
  deriving DecidableEq, Repr

end Sys2Proof
end

