-- ==== Sys2Proof/Decode.lean ====
section
/-! DEFINITION. The command that a word spells by the bits of the opcode table. -/

namespace Sys2Proof

/-- No row of spec/opcode_table.json gives bits: a command is an act at the part's pins or inside it, not a word of
an instruction memory, so no word spells one (log 26). -/
def decodeTableWord (_nbits _w : Nat) : Option Instr := none

end Sys2Proof
end

