-- ==== Sys2Proof/Machine/Registers.lean ====
section
/-! DEFINITION. The address map of the host port (section 13.6): every mapped register under its own name, its
address, the class of each of its bits and its reset value. -/

namespace Sys2Proof.Machine

/-- Every mapped register of section 13.6, in address order. The live and shadow counters have addresses of their
own (`liveBase`, `shadowBase`). -/
inductive Reg where
  | hpId | hpRev | hpStatus | hpCtrl | hpRefused
  | lpCfg | lpCycleLen | lpIndexPos | lpIndexTol | lpGenPeriod | lpGenEnable | lpStallMs | lpTravel
  | lpCycle | lpDebt | lpSinceIndex | lpPhase | lpStatus
  | csCfg | csSenseDebounce | csSenseDelay | csBracketWidth | csBracketStep | csP1Cfg | csP2Cfg
  | csP1Burst | csP2Burst | csPerEnable | csRefaCfg | csRefbCfg | csRefcCfg | csRefaDelay | csRefbDelay
  | csRefcDelay | csRefEnable | csDemand | csPatternEnable | csPatternPtr | csPatternData | csRandomEnable
  | csSampleSeed | csAuditSeed | csSampleThresh | csAuditThresh | csSampleValue | csAuditValue
  | csClassCfg0 | csClassCfg1 | csStatus
  | adHoldEn | adSafetyEn | adQuotaEn | adPause | adBusyLevel | adSpacing | adQuota | adFireWidth
  | adModelaCfg | adModelbCfg | adModelcCfg | adModeldCfg | adModelStatus | adItem | adQuotaCount
  | adSpacingCount | adHoldStatus
  | lgCfg | lgGateDistance | lgHigh | lgStatus | lgOldestWait | lgHeadGate
  | vcDivisor | vcCfg | vcFlowCfg | vcAddr | vcGapCt | vcFlowLevels | vcPauseChar | vcResumeChar
  | vcSilenceMs | vcRaw | vcStatus | vcLastError
  | gdUncapturedPolicy | gdDefaultPolicy | gdOverride | gdPulsePos | gdNoticeEn | gdLogMode | gdLogAlert
  | gdStatus | gdLogPop0 | gdLogPop1 | gdLogPop2
  | slCfg | slDiv | slDeTiming | slPollUs | slReplyCt | slRetry | slUserWord | slStationPtr | slStationData
  | slStatus | slGuard | slMarkAnchor | slUserAnchor | slDemand | slSlotCancel | slSlotStatus
  | slQueueStatus
  | brBatch | brCount | brFallback | brDemand | brRoutePtr | brRouteData | brStatus
  | sqSrCfg | sqSrPeriod | sqSrQuiesce | sqSrExtra | sqSrRecover | sqFrCfg | sqFrQuiesce | sqFrExtra
  | sqFrRecover | sqDemand | sqStatus | sqPositions
  | rcCommand | rcStatus | rcFaultMask | rcFault | rcEventPending | rcEventClear | rcEventEnable
  | rcTopCause | rcCfg | rcDemand | rcAction
  | ctClearMask0 | ctClearMask1 | ctSnapTravel | ctSnapCount
  deriving DecidableEq, Repr

/-- What the register tables say of one register: its address, which of its bits are of class Install, Setup,
Live, Request and Action (00_scope.md, parameter access classes), whether the address is a Port (R5), and what its
stored bits hold after reset. Bits of no class are read only or unused. -/
structure RegInfo where
  addr : Nat
  install : Word := 0#32
  setup : Word := 0#32
  live : Word := 0#32
  request : Word := 0#32
  action : Word := 0#32
  port : Bool := false
  reset : Word := 0#32
  deriving DecidableEq, Repr

/-- Base of the live counters (section 13.2). -/
def liveBase : Nat := 0x0400

/-- Base of the shadow counters (section 13.2). -/
def shadowBase : Nat := 0x0500

/-- The register tables of chapters 1 to 13, one line a register. Fields without bit positions are packed from
bit 0 in the order named (00_scope.md, numbers and registers). -/
def Reg.info : Reg → RegInfo
  | .hpId => { addr := 0x0000 }
  | .hpRev => { addr := 0x0001 }
  | .hpStatus => { addr := 0x0002 }
  | .hpCtrl => { addr := 0x0003, live := 0x1#32, action := 0x2#32 }
  | .hpRefused => { addr := 0x0004 }
  | .lpCfg => { addr := 0x0040, install := 0x7#32 }
  | .lpCycleLen => { addr := 0x0041, setup := 0x1FFF#32, reset := 0x100#32 }
  | .lpIndexPos => { addr := 0x0042, setup := 0xFFF#32 }
  | .lpIndexTol => { addr := 0x0043, setup := 0xFFF#32, reset := 0x8#32 }
  | .lpGenPeriod => { addr := 0x0044, live := 0xFFFF#32, reset := 0x3E8#32 }
  | .lpGenEnable => { addr := 0x0045, live := 0x1#32 }
  | .lpStallMs => { addr := 0x0046, live := 0xFFFF#32 }
  | .lpTravel => { addr := 0x0047 }
  | .lpCycle => { addr := 0x0048 }
  | .lpDebt => { addr := 0x0049 }
  | .lpSinceIndex => { addr := 0x004A }
  | .lpPhase => { addr := 0x004B }
  | .lpStatus => { addr := 0x004C }
  | .csCfg => { addr := 0x0080, live := 0x1#32 }
  | .csSenseDebounce => { addr := 0x0081, setup := 0xFF#32 }
  | .csSenseDelay => { addr := 0x0082, install := 0xFFF#32 }
  | .csBracketWidth => { addr := 0x0083, setup := 0x7#32 }
  | .csBracketStep => { addr := 0x0084, setup := 0xF#32, reset := 0x1#32 }
  | .csP1Cfg => { addr := 0x0085, setup := 0xFFFFFFF#32, reset := 0x1#32 }
  | .csP2Cfg => { addr := 0x0086, setup := 0xFFFFFFF#32, reset := 0x1#32 }
  | .csP1Burst => { addr := 0x0087, setup := 0x7F#32, reset := 0x1#32 }
  | .csP2Burst => { addr := 0x0088, setup := 0x7F#32, reset := 0x1#32 }
  | .csPerEnable => { addr := 0x0089, live := 0x3#32 }
  | .csRefaCfg => { addr := 0x008A, setup := 0xFFFFFFF#32, reset := 0x1#32 }
  | .csRefbCfg => { addr := 0x008B, setup := 0xFFFFFFF#32, reset := 0x1#32 }
  | .csRefcCfg => { addr := 0x008C, setup := 0xFFFFFFF#32, reset := 0x1#32 }
  | .csRefaDelay => { addr := 0x008D, setup := 0xFFFFFF#32, reset := 0x1#32 }
  | .csRefbDelay => { addr := 0x008E, setup := 0xFFFFFF#32, reset := 0x1#32 }
  | .csRefcDelay => { addr := 0x008F, setup := 0xFFFFFF#32, reset := 0x1#32 }
  | .csRefEnable => { addr := 0x0090, live := 0x7#32 }
  | .csDemand => { addr := 0x0091, request := 0x3F#32 }
  | .csPatternEnable => { addr := 0x0092, live := 0x1#32 }
  | .csPatternPtr => { addr := 0x0093, live := 0xFFF#32 }
  | .csPatternData => { addr := 0x0094, port := true }
  | .csRandomEnable => { addr := 0x0095, live := 0x1#32 }
  | .csSampleSeed => { addr := 0x0096, setup := 0xFFFFFFFF#32 }
  | .csAuditSeed => { addr := 0x0097, setup := 0xFFFFFFFF#32 }
  | .csSampleThresh => { addr := 0x0098, live := 0xFFFFFFFF#32 }
  | .csAuditThresh => { addr := 0x0099, live := 0xFFFFFFFF#32 }
  | .csSampleValue => { addr := 0x009A }
  | .csAuditValue => { addr := 0x009B }
  | .csClassCfg0 => { addr := 0x009C, setup := 0x1F1F1F1F#32 }
  | .csClassCfg1 => { addr := 0x009D, setup := 0x1F1F1F#32 }
  | .csStatus => { addr := 0x009E }
  | .adHoldEn => { addr := 0x00C0, live := 0x3FF#32 }
  | .adSafetyEn => { addr := 0x00C1, live := 0x1#32, reset := 0x1#32 }
  | .adQuotaEn => { addr := 0x00C2, live := 0x1#32 }
  | .adPause => { addr := 0x00C3, live := 0x1#32 }
  | .adBusyLevel => { addr := 0x00C4, setup := 0x3#32, reset := 0x2#32 }
  | .adSpacing => { addr := 0x00C5, live := 0xFFFF#32 }
  | .adQuota => { addr := 0x00C6, setup := 0xFFFFFFFF#32 }
  | .adFireWidth => { addr := 0x00C7, setup := 0xFF#32, reset := 0xA#32 }
  | .adModelaCfg => { addr := 0x00C8, setup := 0xFFFFFFF#32, reset := 0x21003E8#32 }
  | .adModelbCfg => { addr := 0x00C9, setup := 0xFFFFFFF#32, reset := 0x21003E8#32 }
  | .adModelcCfg => { addr := 0x00CA, setup := 0xFFFFFFF#32, reset := 0x21003E8#32 }
  | .adModeldCfg => { addr := 0x00CB, setup := 0xFFFFFFF#32, reset := 0x21003E8#32 }
  | .adModelStatus => { addr := 0x00CC }
  | .adItem => { addr := 0x00CD }
  | .adQuotaCount => { addr := 0x00CE }
  | .adSpacingCount => { addr := 0x00CF }
  | .adHoldStatus => { addr := 0x00D0 }
  | .lgCfg => { addr := 0x0100, setup := 0x3#32 }
  | .lgGateDistance => { addr := 0x0101, install := 0xFFFF#32, reset := 0x100#32 }
  | .lgHigh => { addr := 0x0102, setup := 0x3FF#32, reset := 0x1C0#32 }
  | .lgStatus => { addr := 0x0103 }
  | .lgOldestWait => { addr := 0x0104 }
  | .lgHeadGate => { addr := 0x0105 }
  | .vcDivisor => { addr := 0x0140, install := 0xFFFF#32, reset := 0xE#32 }
  | .vcCfg => { addr := 0x0141, live := 0x3#32 }
  | .vcFlowCfg => { addr := 0x0142, setup := 0xF#32 }
  | .vcAddr => { addr := 0x0143, setup := 0xFF#32, reset := 0x1#32 }
  | .vcGapCt => { addr := 0x0144, setup := 0x1F#32, reset := 0x4#32 }
  | .vcFlowLevels => { addr := 0x0145, setup := 0xFFFF#32, reset := 0x40C0#32 }
  | .vcPauseChar => { addr := 0x0146, setup := 0xFF#32, reset := 0xF0#32 }
  | .vcResumeChar => { addr := 0x0147, setup := 0xFF#32, reset := 0xF1#32 }
  | .vcSilenceMs => { addr := 0x0148, live := 0xFFFF#32 }
  | .vcRaw => { addr := 0x0149, port := true }
  | .vcStatus => { addr := 0x014A }
  | .vcLastError => { addr := 0x014B }
  | .gdUncapturedPolicy => { addr := 0x0180, live := 0x3#32, reset := 0x2#32 }
  | .gdDefaultPolicy => { addr := 0x0181, live := 0x3#32, reset := 0x2#32 }
  | .gdOverride => { addr := 0x0182, live := 0x3#32 }
  | .gdPulsePos => { addr := 0x0183, setup := 0xFF#32, reset := 0x8#32 }
  | .gdNoticeEn => { addr := 0x0184, live := 0x1#32 }
  | .gdLogMode => { addr := 0x0185, live := 0x3#32, reset := 0x2#32 }
  | .gdLogAlert => { addr := 0x0186, setup := 0xFF#32, reset := 0x60#32 }
  | .gdStatus => { addr := 0x0187 }
  | .gdLogPop0 => { addr := 0x0188, port := true }
  | .gdLogPop1 => { addr := 0x0189 }
  | .gdLogPop2 => { addr := 0x018A }
  | .slCfg => { addr := 0x01C0, live := 0x3#32 }
  | .slDiv => { addr := 0x01C1, install := 0x1FFF#32, reset := 0x64#32 }
  | .slDeTiming => { addr := 0x01C2, install := 0xFF#32, reset := 0x11#32 }
  | .slPollUs => { addr := 0x01C3, live := 0xFFFF#32, reset := 0x3E8#32 }
  | .slReplyCt => { addr := 0x01C4, setup := 0x1F#32, reset := 0x4#32 }
  | .slRetry => { addr := 0x01C5, setup := 0x7#32, reset := 0x2#32 }
  | .slUserWord => { addr := 0x01C6, live := 0xFFFFF#32 }
  | .slStationPtr => { addr := 0x01C7, live := 0xF#32 }
  | .slStationData => { addr := 0x01C8, port := true }
  | .slStatus => { addr := 0x01C9 }
  | .slGuard => { addr := 0x01CA, setup := 0xFF#32, reset := 0x8#32 }
  | .slMarkAnchor => { addr := 0x01CB, setup := 0xFFF#32 }
  | .slUserAnchor => { addr := 0x01CC, setup := 0xFFF#32 }
  | .slDemand => { addr := 0x01CD, request := 0x1#32 }
  | .slSlotCancel => { addr := 0x01CE, action := 0x7#32 }
  | .slSlotStatus => { addr := 0x01CF }
  | .slQueueStatus => { addr := 0x01D0 }
  | .brBatch => { addr := 0x0200, setup := 0x7F#32, reset := 0x8#32 }
  | .brCount => { addr := 0x0201, setup := 0x1FF#32, reset := 0x1#32 }
  | .brFallback => { addr := 0x0202, live := 0xFF#32 }
  | .brDemand => { addr := 0x0203, action := 0x1#32 }
  | .brRoutePtr => { addr := 0x0204, live := 0xFF#32 }
  | .brRouteData => { addr := 0x0205, port := true }
  | .brStatus => { addr := 0x0206 }
  | .sqSrCfg => { addr := 0x0240, setup := 0xFFFF0FFF#32 }
  | .sqSrPeriod => { addr := 0x0241, setup := 0xFFFF#32 }
  | .sqSrQuiesce => { addr := 0x0242, setup := 0xFFFF#32, reset := 0x40#32 }
  | .sqSrExtra => { addr := 0x0243, setup := 0xFFFF#32, reset := 0x400#32 }
  | .sqSrRecover => { addr := 0x0244, setup := 0xFFFF#32, reset := 0x20#32 }
  | .sqFrCfg => { addr := 0x0245, setup := 0xFFF0FFF#32 }
  | .sqFrQuiesce => { addr := 0x0246, setup := 0xFFFF#32, reset := 0x80#32 }
  | .sqFrExtra => { addr := 0x0247, setup := 0xFFFF#32, reset := 0x800#32 }
  | .sqFrRecover => { addr := 0x0248, setup := 0xFFFF#32, reset := 0x40#32 }
  | .sqDemand => { addr := 0x0249, request := 0x3#32 }
  | .sqStatus => { addr := 0x024A }
  | .sqPositions => { addr := 0x024B }
  | .rcCommand => { addr := 0x0280, action := 0xF#32 }
  | .rcStatus => { addr := 0x0281 }
  | .rcFaultMask => { addr := 0x0282, live := 0x7C#32 }
  | .rcFault => { addr := 0x0283 }
  | .rcEventPending => { addr := 0x0284 }
  | .rcEventClear => { addr := 0x0285, action := 0xFFFFE#32 }
  | .rcEventEnable => { addr := 0x0286, live := 0xFFFFE#32 }
  | .rcTopCause => { addr := 0x0287 }
  | .rcCfg => { addr := 0x0288, install := 0x1#32 }
  | .rcDemand => { addr := 0x0289, request := 0x1#32 }
  | .rcAction => { addr := 0x028A, action := 0x1F#32 }
  | .ctClearMask0 => { addr := 0x02C0, action := 0xFFFFFFFF#32 }
  | .ctClearMask1 => { addr := 0x02C1, action := 0x3FFFFF#32 }
  | .ctSnapTravel => { addr := 0x02C2 }
  | .ctSnapCount => { addr := 0x02C3 }


/-- The registers of block HP_, in address order (section 13.6). -/
def Reg.blockHp : List Reg :=
  [.hpId, .hpRev, .hpStatus, .hpCtrl, .hpRefused]

/-- The registers of block LP_, in address order (section 13.6). -/
def Reg.blockLp : List Reg :=
  [.lpCfg, .lpCycleLen, .lpIndexPos, .lpIndexTol, .lpGenPeriod, .lpGenEnable, .lpStallMs,
    .lpTravel, .lpCycle, .lpDebt, .lpSinceIndex, .lpPhase, .lpStatus]

/-- The registers of block CS_, in address order (section 13.6). -/
def Reg.blockCs : List Reg :=
  [.csCfg, .csSenseDebounce, .csSenseDelay, .csBracketWidth, .csBracketStep, .csP1Cfg, .csP2Cfg,
    .csP1Burst, .csP2Burst, .csPerEnable, .csRefaCfg, .csRefbCfg, .csRefcCfg, .csRefaDelay,
    .csRefbDelay, .csRefcDelay, .csRefEnable, .csDemand, .csPatternEnable, .csPatternPtr,
    .csPatternData, .csRandomEnable, .csSampleSeed, .csAuditSeed, .csSampleThresh, .csAuditThresh,
    .csSampleValue, .csAuditValue, .csClassCfg0, .csClassCfg1, .csStatus]

/-- The registers of block AD_, in address order (section 13.6). -/
def Reg.blockAd : List Reg :=
  [.adHoldEn, .adSafetyEn, .adQuotaEn, .adPause, .adBusyLevel, .adSpacing, .adQuota, .adFireWidth,
    .adModelaCfg, .adModelbCfg, .adModelcCfg, .adModeldCfg, .adModelStatus, .adItem, .adQuotaCount,
    .adSpacingCount, .adHoldStatus]

/-- The registers of block LG_, in address order (section 13.6). -/
def Reg.blockLg : List Reg :=
  [.lgCfg, .lgGateDistance, .lgHigh, .lgStatus, .lgOldestWait, .lgHeadGate]

/-- The registers of block VC_, in address order (section 13.6). -/
def Reg.blockVc : List Reg :=
  [.vcDivisor, .vcCfg, .vcFlowCfg, .vcAddr, .vcGapCt, .vcFlowLevels, .vcPauseChar, .vcResumeChar,
    .vcSilenceMs, .vcRaw, .vcStatus, .vcLastError]

/-- The registers of block GD_, in address order (section 13.6). -/
def Reg.blockGd : List Reg :=
  [.gdUncapturedPolicy, .gdDefaultPolicy, .gdOverride, .gdPulsePos, .gdNoticeEn, .gdLogMode,
    .gdLogAlert, .gdStatus, .gdLogPop0, .gdLogPop1, .gdLogPop2]

/-- The registers of block SL_, in address order (section 13.6). -/
def Reg.blockSl : List Reg :=
  [.slCfg, .slDiv, .slDeTiming, .slPollUs, .slReplyCt, .slRetry, .slUserWord, .slStationPtr,
    .slStationData, .slStatus, .slGuard, .slMarkAnchor, .slUserAnchor, .slDemand, .slSlotCancel,
    .slSlotStatus, .slQueueStatus]

/-- The registers of block BR_, in address order (section 13.6). -/
def Reg.blockBr : List Reg :=
  [.brBatch, .brCount, .brFallback, .brDemand, .brRoutePtr, .brRouteData, .brStatus]

/-- The registers of block SQ_, in address order (section 13.6). -/
def Reg.blockSq : List Reg :=
  [.sqSrCfg, .sqSrPeriod, .sqSrQuiesce, .sqSrExtra, .sqSrRecover, .sqFrCfg, .sqFrQuiesce,
    .sqFrExtra, .sqFrRecover, .sqDemand, .sqStatus, .sqPositions]

/-- The registers of block RC_, in address order (section 13.6). -/
def Reg.blockRc : List Reg :=
  [.rcCommand, .rcStatus, .rcFaultMask, .rcFault, .rcEventPending, .rcEventClear, .rcEventEnable,
    .rcTopCause, .rcCfg, .rcDemand, .rcAction]

/-- The registers of block CT_, in address order (section 13.6). -/
def Reg.blockCt : List Reg :=
  [.ctClearMask0, .ctClearMask1, .ctSnapTravel, .ctSnapCount]

/-- Every mapped register, for the decoder of an address. -/
def Reg.all : List Reg :=
  ([Reg.blockHp, Reg.blockLp, Reg.blockCs, Reg.blockAd, Reg.blockLg, Reg.blockVc, Reg.blockGd, Reg.blockSl, Reg.blockBr, Reg.blockSq, Reg.blockRc, Reg.blockCt] : List (List Reg)).flatten

/-- Bits that a write of the register stores in `State.regs`. -/
def Reg.stored (r : Reg) : Word := r.info.install ||| r.info.setup ||| r.info.live

/-- The register at a word address, if one is mapped there (R13). -/
def regAt (a : Addr) : Option Reg := Reg.all.find? (fun r => r.info.addr == a.toNat)

/-- The address of a register, as the port carries it. -/
def Reg.address (r : Reg) : Addr := BitVec.ofNat 14 r.info.addr

/-- The live counter at a word address: its offset in the bank. -/
def liveAt (a : Addr) : Option Nat :=
  if liveBase ≤ a.toNat ∧ a.toNat < liveBase + Config.counters then some (a.toNat - liveBase) else none

/-- The shadow counter at a word address: its offset in the bank. -/
def shadowAt (a : Addr) : Option Nat :=
  if shadowBase ≤ a.toNat ∧ a.toNat < shadowBase + Config.counters then some (a.toNat - shadowBase) else none

/-- The address holds a register (R13). -/
def mapped (a : Addr) : Bool := (regAt a).isSome || (liveAt a).isSome || (shadowAt a).isSome

/-- Ports: an access leaves the burst at its address (R5). -/
def isPort (a : Addr) : Bool :=
  match regAt a with
  | some r => r.info.port
  | none => false

/-- A mapped address every field of which is read only (R13): GD_LOG_POP0 and VC_RAW among them. -/
def readOnly (a : Addr) : Bool :=
  match regAt a with
  | some r =>
    !(r == .csPatternData || r == .brRouteData || r == .slStationData) &&
      (r.stored ||| r.info.request ||| r.info.action == 0#32)
  | none => mapped a

/-- What the configuration register at an address holds after reset. -/
def regReset (a : Nat) : Word :=
  match Reg.all.find? (fun r => r.info.addr == a) with
  | some r => r.info.reset
  | none => 0#32

end Sys2Proof.Machine
end

