-- ==== Sys2Proof/Machine/State.lean ====
section
/-! DEFINITION. The state of the WB316 as plain data, block by block, with the machine right after reset, and the
reasons a step can stop. -/

namespace Sys2Proof.Machine

/-! ### Reasons to stop -/

/-- The block has no event that stops it: an error is an event flag, a counter, a refusal record or the run state
Faulted, all of them effects on State (R12, R172, R174). No meaning answers with a fault. -/
inductive Fault where
  deriving DecidableEq, Repr

/-- Reasons for which a command has no meaning. -/
inductive Refusal where
  /-- No meaning has been written for the command's row; raised by `exec` in such a row's arm (no arm does).
  Safe: the machine stops where the part goes on. -/
  | notModelled (mnemonic : String)
  /-- PACKET_ACCEPT of a packet without 1 to 16 records, which no parser can hand on (R97); raised by
  `execPacketAccept`. Safe: the part never sees such a packet (log 20). -/
  | malformedPacket
  deriving DecidableEq, Repr

/-! ### Shared shapes -/

/-- An addressed memory of words in canonical form: addresses strictly rising, no entry equal to what an unlisted
address reads as (`tableWf` in Machine/Ops.lean). -/
abbrev Table := List (Nat × Word)

/-- The seven capture classes (section 3.8). -/
inductive CaptureClass where
  | sensor | host | random | pattern | periodic | bracket | reference
  deriving DecidableEq, Repr

/-- A gate outcome (section 7.2). -/
inductive Disposition where
  | none | pass | reject | divert
  deriving DecidableEq, Repr

/-- The reason an outcome was chosen (section 7.5). -/
inductive Source where
  | verdict | default | policy | audit | override | aux | lateVerdict | abandoned
  deriving DecidableEq, Repr

/-- The identity of an item: epoch and item ID (00_scope.md, item identity). -/
structure Ident where
  epoch : BitVec 4
  itemId : BitVec 24
  deriving DecidableEq, Repr

/-- The events of section 12.5, in the order of their numbers. -/
inductive Event where
  | fault | blindItem | phaseError | lineAnomaly | verdictSilent | stationLost | ledgerHigh | lateVerdict
  | unknownVerdict | verdictAnomaly | packetError | rxOverrun | linkAnomaly | routeExhausted | logAlert
  | runEnded | stationFound | quotaReached | accessRefused
  deriving DecidableEq, Repr

/-! ### Host port (chapter 1) -/

/-- What the port took from the device at the start of a read word (R2): the value, whether the port was ready
(R6), and whether the element that a Port read would remove was there and still is. -/
structure WordStart where
  value : Word
  ready : Bool
  element : Bool
  deriving DecidableEq, Repr

/-- An open transaction: its direction, the declared words not yet completed, its current address, and the read word
in progress once its value is taken (R1, R2, R5). -/
structure Transaction where
  read : Bool
  left : Nat
  addr : Addr
  word : Option WordStart
  deriving DecidableEq, Repr

/-- The host port's own state: READY and the microticks left of the readiness period (R6), the install lock (R9),
HP_REFUSED (R12), whether SPI_CS_N has fallen and the header is under way (R1), the transaction once its header is
accepted (R1), whether the line is ignored until SPI_CS_N has risen after a reset (R7), and the read word last shifted
out whole on SPI_SDO (R2). A transaction with no word left stays open until SPI_CS_N rises (R1). -/
structure Port where
  ready : Bool
  readyLeft : Nat
  installLock : Bool
  refused : Word
  heading : Bool
  txn : Option Transaction
  ignoring : Bool
  sdo : Word
  deriving DecidableEq, Repr

/-! ### Line position (chapter 2) -/

/-- LP_PHASE.KIND. -/
inductive PhaseKind where
  | none | mismatch | missing
  deriving DecidableEq, Repr

/-- The Line Position Unit (sections 2.1 to 2.6). A timer that runs is `some` count of microticks. -/
structure Line where
  travel : Travel
  cycleIndex : Nat
  cycleNumber : BitVec 16
  debt : Nat
  sinceIndex : Nat
  phaseKind : PhaseKind
  phaseOffset : BitVec 16
  lineMoving : Bool
  reverseSat : Bool
  indexPending : Bool
  acc : Nat
  genTimer : Option Nat
  stallTimer : Option Nat
  deriving DecidableEq, Repr

/-- The part's time base: the microtick divider (R28) and the reference clock periods since the last position
event, saturating at 40 (R21). -/
structure Clock where
  divider : Nat
  sincePosition : Nat
  deriving DecidableEq, Repr

/-! ### Input lines (R1, R17, R34, R90, R125) -/

/-- The levels of the input lines that the part samples at every reference clock edge: SPI_CS_N (R1), ENC_STEP, ENC_DIR
and ENC_INDEX (R17), SENSE (R34), VC_RX (R90) and LINK_RX (R125). -/
structure Lines where
  csN : Bool
  encStep : Bool
  encDir : Bool
  encIndex : Bool
  sense : Bool
  vcRx : Bool
  linkRx : Bool
  deriving DecidableEq, Repr

/-- What one edge finds on the input pins: the levels, and whether the turnaround byte of a read transaction ends there,
so that the port begins to shift out the first word (R2). -/
structure Sample where
  pins : Pins
  lines : Lines
  turned : Bool
  deriving DecidableEq, Repr

/-- What ENC_STEP, ENC_INDEX and SENSE were sampled at the edge before; `none` while recognition starts with fresh
samples (R19, R33, R34). -/
structure Sampled where
  encStep : Option Bool
  encIndex : Option Bool
  sense : Option Bool
  deriving DecidableEq, Repr

/-- A character under way at a serial receiver (R90): the bit time and the gap flag as its start edge found them, the
reference clock periods until the next sample, whether the start is confirmed, and the bits sampled so far. -/
structure Reception where
  bitTime : Nat
  gap : Bool
  left : Nat
  confirmed : Bool
  bits : List Bool
  deriving DecidableEq, Repr

/-- A serial receiver (R90, R125): the level of its line at the edge before, `none` while it starts with fresh samples,
and the character under way. -/
structure Receiver where
  last : Option Bool
  char : Option Reception
  deriving DecidableEq, Repr

/-! ### Capture sources (chapter 3) -/

/-- An entry of the sensor delay ring (R36). -/
structure RingEntry where
  due : Travel
  marked : Bool
  window : Option Travel
  decided : Bool
  deriving DecidableEq, Repr

/-- An active bracket run: next proposal travel, proposals left, and the step taken at its start (section 3.3). -/
structure BracketRun where
  next : Travel
  left : Nat
  step : Nat
  deriving DecidableEq, Repr

/-- The states of a reference generator (section 3.5). -/
inductive RefState where
  | idle | requested | pending
  deriving DecidableEq, Repr

/-- A reference generator: its state, its capture travel while Pending, the mark of step 5 (R46), and the
cancellation fixed at a sequence start (R47). -/
structure Reference where
  state : RefState
  capture : Travel
  due : Bool
  cancelled : Bool
  deriving DecidableEq, Repr

/-- The Capture Sources block. `captureNow` to `reqRefC` are the bits of CS_DEMAND. -/
structure Sources where
  sensePending : Bool
  debounce : Nat
  ring : List RingEntry
  bracket : Option BracketRun
  p1Left : Nat
  p2Left : Nat
  refA : Reference
  refB : Reference
  refC : Reference
  captureNow : Bool
  reqP1 : Bool
  reqP2 : Bool
  reqRefA : Bool
  reqRefB : Bool
  reqRefC : Bool
  sample : Word
  audit : Word
  deriving DecidableEq, Repr

/-- A candidate of the position event (R53). -/
structure Candidate where
  cls : CaptureClass
  mask : BitVec 4
  item : Bool
  audit : Bool
  deriving DecidableEq, Repr

/-! ### Admission and firing (chapter 4) -/

/-- A buffer model: occupancy, drain timer (`some` microticks left) and hold flag (R69, R70). -/
structure Model where
  occ : Nat
  drain : Option Nat
  hold : Bool
  deriving DecidableEq, Repr

/-- The Admission block. A fire line is active exactly while its pulse timer runs (R66). -/
structure Admission where
  modelA : Model
  modelB : Model
  modelC : Model
  modelD : Model
  fireA : Option Nat
  fireB : Option Nat
  fireC : Option Nat
  fireD : Option Nat
  nextId : BitVec 24
  epoch : BitVec 4
  quotaCount : Word
  spacing : Nat
  holdStatus : Word
  deriving DecidableEq, Repr

/-! ### Item ledger (chapter 5) -/

/-- A stored verdict (section 5.2). -/
structure Verdict where
  code : Disposition
  detail : Byte
  outOfOrder : Bool
  deriving DecidableEq, Repr

/-- A ledger entry (section 5.2). An Uncaptured entry is one without an identity. -/
structure Entry where
  ident : Option Ident
  cls : CaptureClass
  item : Bool
  audit : Bool
  expects : Bool
  captureTravel : Travel
  cycleLow : Byte
  gateTravel : Travel
  mask : BitVec 4
  lane : Byte
  verdict : Option Verdict
  deriving DecidableEq, Repr

/-- A record of the retired window (R80). -/
structure WindowRecord where
  ident : Ident
  outcome : Disposition
  deriving DecidableEq, Repr

/-- The Item Ledger: entries in creation order (R73), the retired window oldest first (R80), the ledger-high
flag (R78). -/
structure Ledger where
  entries : List Entry
  window : List WindowRecord
  high : Bool
  deriving DecidableEq, Repr

/-! ### Verdict channel (chapter 6) -/

/-- An entry of the receive FIFO (R92). -/
structure FifoEntry where
  data : Byte
  marker : Bool
  error : Bool
  gap : Bool
  deriving DecidableEq, Repr

/-- VC_STATUS.PARSER (R95). -/
inductive ParserPhase where
  | hunting | header | records | check
  deriving DecidableEq, Repr

/-- The parser and its packet buffer (R95, R96): the sequence number once stored, the count, the record characters,
the running sum and the poisoned flag. -/
structure Parser where
  phase : ParserPhase
  seqNo : Option Byte
  count : Nat
  chars : List Byte
  sum : Byte
  poisoned : Bool
  deriving DecidableEq, Repr

/-- The two characters of VC_TX (R105). -/
inductive FlowChar where
  | pause | resume
  deriving DecidableEq, Repr

/-- A character on VC_TX: which one, its data as taken at its start, its bit time and the reference clock periods
until its completion (R106). -/
structure TxChar where
  char : FlowChar
  data : Byte
  bitTime : Nat
  left : Nat
  deriving DecidableEq, Repr

/-- The Verdict Channel. `rx` is the receiver of VC_RX (R90), `idle` the idle-time measure of R91 in reference clock
periods, `silence` the silence watchdog's count of microticks while it runs (R109). -/
structure Channel where
  rx : Receiver
  fifo : List FifoEntry
  idle : Nat
  parser : Parser
  seqValid : Bool
  lastSeq : Byte
  flowPaused : Bool
  resend : Nat
  stall : Bool
  tx : Option TxChar
  waiting : Option FlowChar
  silent : Bool
  silence : Option Nat
  lastError : Nat
  deriving DecidableEq, Repr

/-! ### Gate dispatch and the disposition log (chapter 7) -/

/-- A record of the disposition log: its three words (section 7.5). -/
structure LogRecord where
  word0 : Word
  word1 : Word
  word2 : Word
  deriving DecidableEq, Repr

/-- Gate dispatch and the log: the two countdowns (a line is active while its countdown is not 0, R115), the log
oldest first, the three words of the latch (R122) and the alert flag. -/
structure Gate where
  rejLeft : Nat
  divLeft : Nat
  log : List LogRecord
  latch0 : Word
  latch1 : Word
  latch2 : Word
  alert : Bool
  deriving DecidableEq, Repr

/-! ### Station link and scheduler (chapters 8 and 9) -/

/-- SL_STATUS.LINK (R129). -/
inductive LinkState where
  | idle | sending | reply | spacing
  deriving DecidableEq, Repr

/-- STATE of a station table entry (section 8.5). -/
inductive StationState where
  | disabled | unknown | present | suspect | absent
  deriving DecidableEq, Repr

/-- An entry of the station table (section 8.5). ENABLE is set exactly when the state is not Disabled (R130). -/
structure Station where
  group : Group
  state : StationState
  misses : Nat
  busy : BitVec 2
  faults : BitVec 6
  replies : Byte
  deriving DecidableEq, Repr

/-- States of an anchored slot (R139). -/
inductive SlotState where
  | idle | armed | guarding | due | sending
  deriving DecidableEq, Repr

/-- An anchored slot: its state, REPEAT, the re-request mark (R140), for a Cycle Mark slot re-requested at its own guard
opening whether that opening and the anchor after it have passed (R141), and for a Due slot whether it waits for an
anchor that has changed under it (R139, log 30). -/
structure Slot where
  state : SlotState
  again : Bool
  rerequest : Bool
  openingPassed : Bool
  anchorPassed : Bool
  waits : Bool
  deriving DecidableEq, Repr

/-- The seven slots in the order of priority of R139. -/
structure Slots where
  cycleMark : Slot
  fullReset : Slot
  stationReset : Slot
  refA : Slot
  refB : Slot
  refC : Slot
  user : Slot
  deriving DecidableEq, Repr

/-- A frame of the Station Link: kind and address of the header, and the payload characters (R126). The check
character follows from them (R127). -/
structure Frame where
  kind : BitVec 4
  addr : BitVec 4
  payload : List Byte
  deriving DecidableEq, Repr

/-- What the selection of R146 finds made startable at an earlier edge: the Due slots that wait for no new anchor, and
which of the three queues hold an entry. -/
structure Startable where
  slots : List SlotId
  route : Bool
  tag : Bool
  notice : Bool
  deriving DecidableEq, Repr

/-- The place of a row among the events of one reference clock edge, in the order of R32, and within its kinds in the
orders of log 40 (inputs), R93 (verdict channel) and R146 (Station Link). `position` is POSITION_EVENT, `step` a row for
a single step of a position event (log 3), and `late` what comes after the selection of its edge: the timer expiries and
the host words. -/
inductive Place where
  | position | step | encoder | index | sense | generator | txEnd | parse | accept | linkChar | linkEnd | selection
  | late
  deriving DecidableEq, Repr

/-- The Station Link and the Link Scheduler. `left` counts the reference clock periods until the frame end, the end of
the reply window or of the time for the next reply character, or the end of Spacing (R124, R129, R134); `bitTime` is the
link's bit time in force, `lead` and `lag` those of the frame (R124). `rx` is the receiver of LINK_RX (R125). `polled`,
`pollSent` and `discard` belong to the poll transaction (R130, R134). `earlier` is what stood startable at the end of
the edge before, and `place` the place of the last row at its edge, both the model's own (log 29). -/
structure Link where
  rx : Receiver
  earlier : Startable
  place : Place
  link : LinkState
  left : Nat
  bitTime : Nat
  lead : Nat
  lag : Nat
  frame : Option Frame
  polled : Nat
  pollSent : Byte
  discard : Bool
  reply : List LineChar
  lastPolled : Nat
  turn : Nat
  pollSeq : Byte
  pollDue : Bool
  missReason : Nat
  pollTimer : Option Nat
  stations : List Station
  slots : Slots
  userRequest : Bool
  routeQ : List (List Byte)
  tagQ : List (List Byte)
  noticeQ : List (List Byte)
  deriving DecidableEq, Repr

/-! ### Batch routing, sequences and run control (chapters 10 to 12) -/

/-- Batch Routing: c, u, the batch number, OPEN and the epoch of the open batch (R152, R153). -/
structure Routing where
  pointer : Nat
  uses : Nat
  batchNo : Byte
  openCount : Nat
  openEpoch : BitVec 4
  deriving DecidableEq, Repr

/-- The states of a resync sequence (chapter 11). -/
inductive SeqState where
  | idle | quiescing | signalling | recovering
  deriving DecidableEq, Repr

/-- A resync sequence: its state and its position count (section 11.1). -/
structure Sequence where
  state : SeqState
  count : Nat
  deriving DecidableEq, Repr

/-- The two sequences, the bits of SQ_DEMAND and SR_COUNT (chapter 11). -/
structure Sequences where
  sr : Sequence
  fr : Sequence
  demandSr : Bool
  demandFr : Bool
  srCount : BitVec 16
  deriving DecidableEq, Repr

/-- The run states (section 12.2). -/
inductive RunState where
  | halted | running | draining | faulted
  deriving DecidableEq, Repr

/-- Run Control and Events: the fields of RC_STATUS and RC_FAULT, the pending flags, COUNT_RESTART, and whether the
soft reset is armed (R176). `deferred` holds the masked events raised so far inside the position event in progress
(R172); it is empty between position events. -/
structure RunControl where
  state : RunState
  lastCmd : Nat
  lastResult : Nat
  reason : Nat
  field : Nat
  softCause : Bool
  faultFirst : Nat
  faultCauses : Word
  deferred : List Event
  flags : Word
  countRestart : Bool
  resetArmed : Bool
  deriving DecidableEq, Repr

/-! ### The machine -/

/-- The whole machine. `pending` is the queue of waiting commands, `inputs` the levels that the next edges of the
clock find on the input pins, in order (log 28); `pins` and `lines` are the levels in force; `sampled` is what the
edge before sampled (R17, R34); `candidates` the candidates proposed and not yet merged (log 4); `freeCount` the
counter that free values are drawn with (logs 10 and 11). `regs` holds the Install, Setup and Live registers by
address, `counters` and `shadows` the two counter banks by offset. -/
structure State where
  pending : List Instr
  port : Port
  regs : Table
  pattern : Table
  route : Table
  lp : Line
  clk : Clock
  cs : Sources
  candidates : List Candidate
  ad : Admission
  lg : Ledger
  vc : Channel
  gd : Gate
  sl : Link
  br : Routing
  sq : Sequences
  rc : RunControl
  counters : Table
  shadows : Table
  snapTravel : Word
  snapCount : Word
  pins : Pins
  lines : Lines
  sampled : Sampled
  inputs : List Sample
  freeCount : Nat
  deriving DecidableEq, Repr

/-! ### The state after reset -/

/-- R6, R9, R12: not ready, lock clear, no refusal, no transaction and none abandoned. -/
def Port.reset : Port :=
  { ready := false, readyLeft := 256, installLock := false, refused := 0#32, heading := false,
    txn := none, ignoring := false, sdo := 0#32 }

/-- R33. -/
def Line.reset : Line :=
  { travel := 0#32, cycleIndex := 0, cycleNumber := 0#16, debt := 0, sinceIndex := 0, phaseKind := .none,
    phaseOffset := 0#16, lineMoving := false, reverseSat := false, indexPending := false, acc := 0,
    genTimer := none, stallTimer := none }

/-- R28, R21: the divider restarts; the first position after reset waits for nothing. -/
def Clock.reset : Clock := { divider := 0, sincePosition := 40 }

/-- R19, R33, R34: fresh samples. -/
def Sampled.fresh : Sampled := { encStep := none, encIndex := none, sense := none }

/-- R90, R110, R125: a receiver that is idle with fresh samples. -/
def Receiver.fresh : Receiver := { last := none, char := none }

/-- The levels of lines on which nothing happens (log 9). -/
def Lines.quiet : Lines :=
  { csN := true, encStep := false, encDir := false, encIndex := false, sense := false, vcRx := true,
    linkRx := true }

/-- A reference generator that is Idle. -/
def Reference.idle : Reference := { state := .idle, capture := 0#32, due := false, cancelled := false }

/-- R54. -/
def Sources.reset : Sources :=
  { sensePending := false, debounce := 255, ring := [], bracket := none, p1Left := 0, p2Left := 0,
    refA := Reference.idle, refB := Reference.idle, refC := Reference.idle, captureNow := false,
    reqP1 := false, reqP2 := false, reqRefA := false, reqRefB := false, reqRefC := false,
    sample := 0#32, audit := 0#32 }

/-- A buffer model that is empty. -/
def Model.empty : Model := { occ := 0, drain := none, hold := false }

/-- R72; AD_HOLD_STATUS reads its State bit (R64). -/
def Admission.reset : Admission :=
  { modelA := Model.empty, modelB := Model.empty, modelC := Model.empty, modelD := Model.empty,
    fireA := none, fireB := none, fireC := none, fireD := none, nextId := 0#24, epoch := 0#4,
    quotaCount := 0#32, spacing := 65535, holdStatus := 0x00040000#32 }

/-- R89. -/
def Ledger.reset : Ledger := { entries := [], window := [], high := false }

/-- A parser that is Hunting with its buffer cleared. -/
def Parser.cleared : Parser :=
  { phase := .hunting, seqNo := none, count := 0, chars := [], sum := 0#8, poisoned := false }

/-- R110. -/
def Channel.reset : Channel :=
  { rx := Receiver.fresh, fifo := [], idle := 0, parser := Parser.cleared, seqValid := false, lastSeq := 0#8,
    flowPaused := false,
    resend := 0, stall := false, tx := none, waiting := none, silent := false, silence := none, lastError := 0 }

/-- R115, R123. -/
def Gate.reset : Gate :=
  { rejLeft := 0, divLeft := 0, log := [], latch0 := 0#32, latch1 := 0#32, latch2 := 0#32, alert := false }

/-- A station table entry of zeros: Disabled, group A (R138). -/
def Station.zero : Station :=
  { group := .a, state := .disabled, misses := 0, busy := 0#2, faults := 0#6, replies := 0#8 }

/-- An Idle slot with nothing set (R151). -/
def Slot.idle : Slot :=
  { state := .idle, again := false, rerequest := false, openingPassed := false, anchorPassed := false,
    waits := false }

/-- R151. -/
def Slots.reset : Slots :=
  { cycleMark := Slot.idle, fullReset := Slot.idle, stationReset := Slot.idle, refA := Slot.idle,
    refB := Slot.idle, refC := Slot.idle, user := Slot.idle }

/-- Nothing to start. -/
def Startable.none : Startable := { slots := [], route := false, tag := false, notice := false }

/-- R138, R151; the bit time is that of SL_DIV's reset value (R124). -/
def Link.reset : Link :=
  { rx := Receiver.fresh, earlier := Startable.none, place := .late, link := .idle, left := 0, bitTime := 100,
    lead := 0, lag := 0, frame := none, polled := 0, pollSent := 0#8,
    discard := false, reply := [], lastPolled := 0, turn := 0, pollSeq := 0#8, pollDue := false,
    missReason := 0, pollTimer := none, stations := List.replicate 15 Station.zero, slots := Slots.reset,
    userRequest := false, routeQ := [], tagQ := [], noticeQ := [] }

/-- R158; the open batch's recorded epoch, which R158 names for Start alone, is 0 too (log 44). -/
def Routing.reset : Routing :=
  { pointer := 0, uses := 0, batchNo := 0#8, openCount := 0, openEpoch := 0#4 }

/-- R166. -/
def Sequences.reset : Sequences :=
  { sr := { state := .idle, count := 0 }, fr := { state := .idle, count := 0 }, demandSr := false,
    demandFr := false, srCount := 0#16 }

/-- R177, after a pin reset. -/
def RunControl.reset : RunControl :=
  { state := .halted, lastCmd := 0, lastResult := 0, reason := 0, field := 0, softCause := false,
    faultFirst := 0, faultCauses := 0#32, deferred := [], flags := 0#32, countRestart := false,
    resetArmed := false }

/-- The machine right after a pin reset whose RESET_N has been released (R177), with an empty queue. The pin levels
are the model's (log 9). -/
def State.reset : State :=
  { pending := [], port := Port.reset, regs := [], pattern := [], route := [], lp := Line.reset,
    clk := Clock.reset, cs := Sources.reset, candidates := [], ad := Admission.reset, lg := Ledger.reset,
    vc := Channel.reset, gd := Gate.reset, sl := Link.reset, br := Routing.reset, sq := Sequences.reset,
    rc := RunControl.reset, counters := [], shadows := [], snapTravel := 0#32, snapCount := 0#32,
    pins := { mark := false, busy0 := false, busy1 := false, lane := 0#8 }, lines := Lines.quiet,
    sampled := Sampled.fresh, inputs := [], freeCount := 0 }

end Sys2Proof.Machine
end

