-- ==== Sys2Proof/Machine/Receiver.lean ====
section
/-! DEFINITION. A serial receiver at one edge of the reference clock (R90, R125): start edge, confirmation, bits and
completion. -/

namespace Sys2Proof.Machine

/-- A line sampled high that was sampled low at the edge before (R17, R34). -/
def risen (before : Option Bool) (now : Bool) : Bool := before == some false && now

/-- A line sampled low that was sampled high at the edge before (R90). -/
def fallen (before : Option Bool) (now : Bool) : Bool := before == some true && !now

/-- The character whose eight data bits, least significant first, and marker bit were sampled, and its stop bit
(R90). -/
def charOf (bits : List Bool) (stop : Bool) : LineChar :=
  { data := BitVec.ofNat 8 ((bits.take 8).foldr (fun b v => b.toNat + 2 * v) 0), marker := bits.getD 8 false,
    stop := stop }

/-- A start edge: the confirmation comes half a bit time later (R90, item 1); half of an odd bit time is rounded down
(log 12). -/
def Reception.begun (bitTime : Nat) (gap : Bool) : Reception :=
  { bitTime := bitTime, gap := gap, left := bitTime / 2, confirmed := false, bits := [] }

/-- A character under way at an edge at which its line is sampled `level` (R90, items 2 to 4): what is then under way,
and the character with its gap flag when this edge completes it. -/
def Reception.sample (c : Reception) (level : Bool) : Option Reception × Option (LineChar × Bool) :=
  if 1 < c.left then (some { c with left := c.left - 1 }, none)
  else if c.confirmed then
    if c.bits.length < 9 then (some { c with left := c.bitTime, bits := c.bits ++ [level] }, none)
    else (none, some (charOf c.bits level, c.gap))
  else if level then (none, none)
  else (some { c with left := c.bitTime, confirmed := true }, none)

/-- A receiver at an edge at which its line is sampled `level` (R90); `bitTime` and `gap` are what a start edge at this
edge takes. -/
def Receiver.edge (r : Receiver) (level : Bool) (bitTime : Nat) (gap : Bool) : Receiver × Option (LineChar × Bool) :=
  match r.char with
  | none =>
    ({ last := some level, char := if fallen r.last level then some (Reception.begun bitTime gap) else none }, none)
  | some c => ({ last := some level, char := (c.sample level).1 }, (c.sample level).2)

/-- A receiver right after a completion whose stop bit was sampled `level` (R90). -/
def Receiver.rested (level : Bool) : Receiver := { last := some level, char := none }

end Sys2Proof.Machine
end

