-- ==== Sys2Proof/Machine/Bits.lean ====
section
/-! DEFINITION. Bit fields of register words, bytes of identities, and the zero-sum check. -/

namespace Sys2Proof.Machine

/-- The field of `width` bits whose lowest bit is `lsb`, as a number. -/
def field (w : Word) (lsb width : Nat) : Nat := (w.extractLsb' lsb width).toNat

/-- Bit `i` of a word. -/
def bit (w : Word) (i : Nat) : Bool := w.getLsbD i

/-- A number placed in a word with its lowest bit at `lsb`. -/
def place (n lsb : Nat) : Word := BitVec.ofNat 32 n <<< lsb

/-- A flag placed at bit `i` of a word. -/
def flagAt (b : Bool) (i : Nat) : Word := if b then 1#32 <<< i else 0#32

/-- The bits of `mask` taken from `v`, all others from `w`. -/
def merge (mask v w : Word) : Word := (w &&& ~~~mask) ||| (v &&& mask)

/-- Bit `i` of a group mask, bit 0 standing for group A (R53). -/
def groupBit : Group → Nat
  | .a => 0
  | .b => 1
  | .c => 2
  | .d => 3

/-- The group of a code 0 to 3 (section 8.5). -/
def groupOf : Nat → Group
  | 0 => .a
  | 1 => .b
  | 2 => .c
  | _ => .d

/-- The four groups in the order A to D. -/
def allGroups : List Group := [.a, .b, .c, .d]

/-- The group is named in a group mask. -/
def inMask (mask : BitVec 4) (g : Group) : Bool := mask.getLsbD (groupBit g)

/-- Class codes of section 3.8; they are the priorities too. -/
def CaptureClass.code : CaptureClass → Nat
  | .sensor => 1
  | .host => 2
  | .random => 3
  | .pattern => 4
  | .periodic => 5
  | .bracket => 6
  | .reference => 7

/-- Outcome codes of section 7.5. -/
def Disposition.code : Disposition → Nat
  | .none => 0
  | .pass => 1
  | .reject => 2
  | .divert => 3

/-- Source codes of section 7.5. -/
def Source.code : Source → Nat
  | .verdict => 0
  | .default => 1
  | .policy => 2
  | .audit => 3
  | .override => 4
  | .aux => 5
  | .lateVerdict => 6
  | .abandoned => 7

/-- Event numbers of section 12.5. -/
def Event.num : Event → Nat
  | .fault => 1
  | .blindItem => 2
  | .phaseError => 3
  | .lineAnomaly => 4
  | .verdictSilent => 5
  | .stationLost => 6
  | .ledgerHigh => 7
  | .lateVerdict => 8
  | .unknownVerdict => 9
  | .verdictAnomaly => 10
  | .packetError => 11
  | .rxOverrun => 12
  | .linkAnomaly => 13
  | .routeExhausted => 14
  | .logAlert => 15
  | .runEnded => 16
  | .stationFound => 17
  | .quotaReached => 18
  | .accessRefused => 19

/-- Run state codes of RC_STATUS and of the Cycle Mark (section 12.1, R128). -/
def RunState.code : RunState → Nat
  | .halted => 0
  | .running => 1
  | .draining => 2
  | .faulted => 3

/-- The sum modulo 256 of data bytes. -/
def byteSum (l : List Byte) : Byte := l.foldl (· + ·) 0#8

/-- The zero-sum check of a list of bytes: it makes the sum with it 0 (00_scope.md, checks; R127). -/
def zeroSumCheck (l : List Byte) : Byte := 0#8 - byteSum l

/-- A deadline has been reached (R22). -/
def reached (travel deadline : Travel) : Bool := (travel - deadline).toNat < 2147483648

/-- A due travel `a` is later than `b` (R37). -/
def later (a b : Travel) : Bool := 0 < (a - b).toNat && (a - b).toNat < 2147483648

/-- The characters of an identity as the capture tag lays them out from its second byte (R128): epoch and ID
23..20, ID 19..12, ID 11..4, ID 3..0 in the high nibble. -/
def identBytes (i : Ident) : Byte × Byte × Byte × Byte :=
  (i.epoch ++ i.itemId.extractLsb' 20 4, i.itemId.extractLsb' 12 8, i.itemId.extractLsb' 4 8,
    i.itemId.extractLsb' 0 4 ++ 0#4)

/-- The header byte of a frame: kind in bits 7..4, address in bits 3..0 (R126). -/
def Frame.header (f : Frame) : Byte := f.kind ++ f.addr

/-- All data bytes of a frame in order, the check last (R126, R127). -/
def Frame.bytes (f : Frame) : List Byte :=
  (f.header :: f.payload) ++ [zeroSumCheck (f.header :: f.payload)]

end Sys2Proof.Machine
end

