-- ==== Sys2Proof/Machine/Ops.lean ====
section
/-! DEFINITION. The shared operations over the addressed memories, the registers, the counters and the event flags. -/

namespace Sys2Proof.Machine

/-! ### Addressed memories -/

/-- What an address reads as; `d` is what an unlisted address reads as. -/
def readTable (d : Word) : Table → Nat → Word
  | [], _ => d
  | (k, v) :: t, a => if k = a then v else readTable d t a

/-- A write, keeping the canonical form: an entry equal to `d` is not listed. -/
def writeTable (d : Word) : Table → Nat → Word → Table
  | [], a, v => if v = d then [] else [(a, v)]
  | (k, w) :: t, a, v =>
    if a < k then (if v = d then (k, w) :: t else (a, v) :: (k, w) :: t)
    else if a = k then (if v = d then t else (k, v) :: t)
    else (k, w) :: writeTable d t a v

/-- The canonical form: addresses strictly rising, every one above `lo`, and no entry equal to what its address
reads as when it is not listed. -/
def tableWfFrom (d : Nat → Word) : Option Nat → Table → Bool
  | _, [] => true
  | lo, (k, v) :: t =>
    (match lo with
      | none => true
      | some l => decide (l < k)) && decide (v ≠ d k) && tableWfFrom d (some k) t

/-- The canonical form of a whole memory. -/
def tableWf (d : Nat → Word) (t : Table) : Bool := tableWfFrom d none t

/-- What an unlisted address of the tables and the counter banks reads as (R15, R181). -/
def zeroDefault (_ : Nat) : Word := 0#32

/-! ### Registers -/

/-- The stored bits of a register. -/
def State.reg (s : State) (r : Reg) : Word := readTable r.info.reset s.regs r.info.addr

/-- A register's stored bits replaced. -/
def State.setReg (s : State) (r : Reg) (v : Word) : State :=
  { s with regs := writeTable r.info.reset s.regs r.info.addr v }

/-! ### Counters -/

/-- The live counters by name (section 13.2). `holdPosition` is indexed by the bit of AD_HOLD_STATUS, `framesSent`
by the frame kind. -/
inductive Ctr where
  | positionEvents | cycleStarts | phaseErrors | stepOverrun | sensorIgnored | senseBounce | sensorOverrun
  | sensorSlip | sensorAbandoned | bracketBusy | bracketSkip | periodicSkipped | refSkipped | refCancelled
  | admitted (c : CaptureClass) | held (c : CaptureClass) | unfiredAdmission | fireOverlap (g : Group)
  | modelSaturate | gateBlind | heldPositions | holdPosition (i : Nat) | idReuse | matched | duplicate
  | duplicateConflict | unsolicited | lateVerdicts | unknownVerdicts | sequenceError | abandonCount
  | framingErrors | rxOverrun | huntSkipped | foreignPackets | packetsCleared | packetErrors | sequenceGap
  | packetsAccepted | invalidRecord | pauseSent | resumeSent | rxDiscarded | dispositions (o : Disposition)
  | defaulted | gateOverlap | noticeLost | logLost | polls | linkReplies | misses | unknownToAbsent
  | linkCollision | unsolicitedChars | requestMerged | yields | lateStart | anchorOverrun | tagLost
  | linkDiscards | framesSent (kind : Nat) | batches | flushEmpty | routeExhausted | routeLost | srStarts
  | frStarts | srPreempted | forcedResync | resyncAborted | accessRefusals | commandRefusals
  deriving DecidableEq, Repr

/-- Offsets of section 13.2. -/
def Ctr.offset : Ctr → Nat
  | .positionEvents => 0x00
  | .cycleStarts => 0x01
  | .phaseErrors => 0x02
  | .stepOverrun => 0x03
  | .sensorIgnored => 0x04
  | .senseBounce => 0x05
  | .sensorOverrun => 0x06
  | .sensorSlip => 0x07
  | .sensorAbandoned => 0x08
  | .bracketBusy => 0x09
  | .bracketSkip => 0x0A
  | .periodicSkipped => 0x0B
  | .refSkipped => 0x0C
  | .refCancelled => 0x0D
  | .admitted c => 0x0D + c.code
  | .held c => 0x14 + c.code
  | .unfiredAdmission => 0x1C
  | .fireOverlap g => 0x1D + groupBit g
  | .modelSaturate => 0x21
  | .gateBlind => 0x22
  | .heldPositions => 0x23
  | .holdPosition i => 0x24 + i
  | .idReuse => 0x37
  | .matched => 0x38
  | .duplicate => 0x39
  | .duplicateConflict => 0x3A
  | .unsolicited => 0x3B
  | .lateVerdicts => 0x3C
  | .unknownVerdicts => 0x3D
  | .sequenceError => 0x3E
  | .abandonCount => 0x3F
  | .framingErrors => 0x40
  | .rxOverrun => 0x41
  | .huntSkipped => 0x42
  | .foreignPackets => 0x43
  | .packetsCleared => 0x44
  | .packetErrors => 0x45
  | .sequenceGap => 0x46
  | .packetsAccepted => 0x47
  | .invalidRecord => 0x48
  | .pauseSent => 0x49
  | .resumeSent => 0x4A
  | .rxDiscarded => 0x4B
  | .dispositions o => 0x4C + o.code
  | .defaulted => 0x50
  | .gateOverlap => 0x51
  | .noticeLost => 0x52
  | .logLost => 0x53
  | .polls => 0x54
  | .linkReplies => 0x55
  | .misses => 0x56
  | .unknownToAbsent => 0x57
  | .linkCollision => 0x58
  | .unsolicitedChars => 0x59
  | .requestMerged => 0x5A
  | .yields => 0x5B
  | .lateStart => 0x5C
  | .anchorOverrun => 0x5D
  | .tagLost => 0x5E
  | .linkDiscards => 0x5F
  | .framesSent k => 0x5F + k
  | .batches => 0x69
  | .flushEmpty => 0x6A
  | .routeExhausted => 0x6B
  | .routeLost => 0x6C
  | .srStarts => 0x6D
  | .frStarts => 0x6E
  | .srPreempted => 0x6F
  | .forcedResync => 0x70
  | .resyncAborted => 0x71
  | .accessRefusals => 0x72
  | .commandRefusals => 0x73

/-- The groups of section 13.2: first offset and number of words, in the order of the group numbers. -/
def counterGroups : List (Nat × Nat) :=
  [(0x00, 1), (0x01, 1), (0x02, 1), (0x03, 1), (0x04, 1), (0x05, 1), (0x06, 1), (0x07, 1), (0x08, 1), (0x09, 1),
    (0x0A, 1), (0x0B, 1), (0x0C, 1), (0x0D, 1), (0x0E, 7), (0x15, 7), (0x1C, 1), (0x1D, 4), (0x21, 1), (0x22, 1),
    (0x23, 1), (0x24, 19), (0x37, 1), (0x38, 1), (0x39, 1), (0x3A, 1), (0x3B, 1), (0x3C, 1), (0x3D, 1), (0x3E, 1),
    (0x3F, 1), (0x40, 1), (0x41, 1), (0x42, 1), (0x43, 1), (0x44, 1), (0x45, 1), (0x46, 1), (0x47, 1), (0x48, 1),
    (0x49, 2), (0x4B, 1), (0x4C, 4), (0x50, 1), (0x51, 1), (0x52, 1), (0x53, 1), (0x54, 6), (0x5A, 4), (0x5E, 2),
    (0x60, 9), (0x69, 4), (0x6D, 5), (0x72, 2)]

/-- The counter at offset `o` lies in one of the groups whose bits are set in `mask`, group `first` being bit 0. -/
def inGroups (first : Nat) (mask : Word) (o : Nat) : Bool :=
  ((counterGroups.drop first).take 32).zipIdx.any fun (g, i) =>
    bit mask i && decide (g.1 ≤ o) && decide (o < g.1 + g.2)

/-- A live counter's value (R178). -/
def State.counter (s : State) (c : Ctr) : Word := readTable 0#32 s.counters c.offset

/-- A counter moved on by `n`, wrapping modulo 2^32 (R178). -/
def State.bumpBy (s : State) (c : Ctr) (n : Nat) : State :=
  { s with counters := writeTable 0#32 s.counters c.offset (s.counter c + BitVec.ofNat 32 n) }

/-- One cause of a counter (R178). -/
def State.bump (s : State) (c : Ctr) : State := s.bumpBy c 1

/-! ### Events -/

/-- Raising an event sets its pending flag, enabled or not (R174). -/
def State.raise (s : State) (e : Event) : State :=
  { s with rc := { s.rc with flags := s.rc.flags ||| (1#32 <<< Event.num e) } }

/-- RC_TOP_CAUSE: the lowest-numbered event that is pending and enabled, or 0 (R175). -/
def State.topCause (s : State) : Nat :=
  ((List.range 20).find? fun i => bit (s.rc.flags &&& s.reg .rcEventEnable) i).getD 0

end Sys2Proof.Machine
end

