-- ==== Sys2Proof/Machine/Settings.lean ====
section
/-! DEFINITION. What the configuration registers mean to the blocks: each field as used, after the adjustment its
chapter makes to stored values outside the meaningful range. -/

namespace Sys2Proof.Machine

/-- A whole field of a register as a number. -/
def State.fieldOf (s : State) (r : Reg) (lsb width : Nat) : Nat := field (s.reg r) lsb width

/-- A flag of a register. -/
def State.flagOf (s : State) (r : Reg) (i : Nat) : Bool := bit (s.reg r) i

/-- `v` brought into `lo` to `hi`. -/
def clampTo (lo hi v : Nat) : Nat := max lo (min hi v)

/-! ### Line position (section 2.1) -/

/-- P as used (R23). -/
def State.cycleLen (s : State) : Nat := clampTo 16 4096 (s.fieldOf .lpCycleLen 0 13)
/-- LP_CFG.SOURCE is Internal (R17). -/
def State.sourceInternal (s : State) : Bool := s.flagOf .lpCfg 0
/-- LP_CFG.INDEX_USE (R24). -/
def State.indexUse (s : State) : Bool := s.flagOf .lpCfg 1
/-- LP_CFG.PHASE_MODE is Realign (R27). -/
def State.realigns (s : State) : Bool := s.flagOf .lpCfg 2
/-- The expected index, LP_INDEX_POS modulo P (R25). -/
def State.expectedIndex (s : State) : Nat := s.fieldOf .lpIndexPos 0 12 % s.cycleLen
/-- LP_INDEX_TOL (R26). -/
def State.indexTol (s : State) : Nat := s.fieldOf .lpIndexTol 0 12
/-- LP_GEN_PERIOD as used: 0 and 1 as 2 (R18). -/
def State.genPeriod (s : State) : Nat := max 2 (s.fieldOf .lpGenPeriod 0 16)
/-- LP_GEN_ENABLE (R18). -/
def State.genEnabled (s : State) : Bool := s.flagOf .lpGenEnable 0
/-- LP_STALL_MS (R29). -/
def State.stallMs (s : State) : Nat := s.fieldOf .lpStallMs 0 16

/-! ### Capture sources (section 3.1) -/

/-- An anchor or start index as compared with the cycle index: reduced modulo P (section 3.1, R139). -/
def State.indexMod (s : State) (v : Nat) : Nat := v % s.cycleLen

/-- CS_CFG.SENSE_INTAKE (R34). -/
def State.senseIntake (s : State) : Bool := s.flagOf .csCfg 0
/-- CS_SENSE_DEBOUNCE (R35). -/
def State.debounceSpan (s : State) : Nat := s.fieldOf .csSenseDebounce 0 8
/-- CS_SENSE_DELAY (R36). -/
def State.senseDelay (s : State) : Nat := s.fieldOf .csSenseDelay 0 12
/-- W (R36). -/
def State.bracketWidth (s : State) : Nat := s.fieldOf .csBracketWidth 0 3
/-- S, 0 used as 1 (section 3.1). -/
def State.bracketStep (s : State) : Nat := max 1 (s.fieldOf .csBracketStep 0 4)

/-- The configuration register of a periodic generator. -/
def perCfg : PerGen → Reg
  | .p1 => .csP1Cfg
  | .p2 => .csP2Cfg

/-- The burst register of a periodic generator. -/
def perBurstReg : PerGen → Reg
  | .p1 => .csP1Burst
  | .p2 => .csP2Burst

/-- A periodic generator's bit in CS_PER_ENABLE. -/
def perBit : PerGen → Nat
  | .p1 => 0
  | .p2 => 1

/-- A reference generator's bit in CS_REF_ENABLE and SL_SLOT_CANCEL. -/
def refBit : RefGen → Nat
  | .a => 0
  | .b => 1
  | .c => 2

/-- The configuration register of a reference generator. -/
def refCfg : RefGen → Reg
  | .a => .csRefaCfg
  | .b => .csRefbCfg
  | .c => .csRefcCfg

/-- The delay register of a reference generator. -/
def refDelayReg : RefGen → Reg
  | .a => .csRefaDelay
  | .b => .csRefbDelay
  | .c => .csRefcDelay

/-- The slot that a reference generator owns (section 3.5). -/
def refSlot : RefGen → SlotId
  | .a => .refA
  | .b => .refB
  | .c => .refC

/-- The three reference generators in the order A, B, C. -/
def allRefs : List RefGen := [.a, .b, .c]

/-- PERIOD of a generator's configuration register, 0 used as 1 (section 3.1). -/
def State.periodOf (s : State) (r : Reg) : Nat := max 1 (s.fieldOf r 0 16)
/-- ANCHOR of a generator's configuration register, modulo P (section 3.1). -/
def State.anchorOf (s : State) (r : Reg) : Nat := s.indexMod (s.fieldOf r 16 12)
/-- BURST as used: 0 as 1, above 64 as 64 (section 3.1). -/
def State.burst (s : State) (g : PerGen) : Nat := clampTo 1 64 (s.fieldOf (perBurstReg g) 0 7)
/-- A periodic generator's enable (R43). -/
def State.perEnabled (s : State) (g : PerGen) : Bool := s.flagOf .csPerEnable (perBit g)
/-- A reference generator's enable (R45). -/
def State.refEnabled (s : State) (g : RefGen) : Bool := s.flagOf .csRefEnable (refBit g)
/-- DELAY of a reference generator, 0 used as 1 (section 3.1). -/
def State.refDelay (s : State) (g : RefGen) : Nat := max 1 (s.fieldOf (refDelayReg g) 0 16)
/-- CODE of a reference generator (R46). -/
def State.refCode (s : State) (g : RefGen) : Byte := (s.reg (refDelayReg g)).extractLsb' 16 8
/-- CS_PATTERN_ENABLE (R48). -/
def State.patternEnabled (s : State) : Bool := s.flagOf .csPatternEnable 0
/-- CS_RANDOM_ENABLE (R50). -/
def State.randomEnabled (s : State) : Bool := s.flagOf .csRandomEnable 0

/-- The configuration byte of a class (R53). -/
def State.classByte (s : State) : CaptureClass → Byte
  | .sensor => (s.reg .csClassCfg0).extractLsb' 0 8
  | .host => (s.reg .csClassCfg0).extractLsb' 8 8
  | .random => (s.reg .csClassCfg0).extractLsb' 16 8
  | .pattern => (s.reg .csClassCfg0).extractLsb' 24 8
  | .periodic => (s.reg .csClassCfg1).extractLsb' 0 8
  | .bracket => (s.reg .csClassCfg1).extractLsb' 8 8
  | .reference => (s.reg .csClassCfg1).extractLsb' 16 8

/-- The group mask of a class (R53). -/
def State.classMask (s : State) (c : CaptureClass) : BitVec 4 := (s.classByte c).extractLsb' 0 4
/-- VERDICT_EXPECTED of a class (R53). -/
def State.classExpects (s : State) (c : CaptureClass) : Bool := (s.classByte c).getLsbD 4

/-! ### Admission (section 4.1) -/

/-- The configuration register of a group's buffer model. -/
def groupModelCfg : Group → Reg
  | .a => .adModelaCfg
  | .b => .adModelbCfg
  | .c => .adModelcCfg
  | .d => .adModeldCfg

/-- AD_BUSY_LEVEL, 0 used as 1 (section 4.1). -/
def State.busyLevel (s : State) : Nat := max 1 (s.fieldOf .adBusyLevel 0 2)
/-- AD_SPACING (R61). -/
def State.minSpacing (s : State) : Nat := s.fieldOf .adSpacing 0 16
/-- AD_FIRE_WIDTH, 0 used as 1 (section 4.1). -/
def State.fireWidth (s : State) : Nat := max 1 (s.fieldOf .adFireWidth 0 8)
/-- DRAIN_US, 0 used as 1 (section 4.1). -/
def State.drainUs (s : State) (g : Group) : Nat := max 1 (s.fieldOf (groupModelCfg g) 0 16)
/-- HIGH of a model (R69). -/
def State.modelHigh (s : State) (g : Group) : Nat := s.fieldOf (groupModelCfg g) 16 6
/-- LOW of a model (R69). -/
def State.modelLow (s : State) (g : Group) : Nat := s.fieldOf (groupModelCfg g) 22 6
/-- AD_QUOTA_EN (R62). -/
def State.quotaEnabled (s : State) : Bool := s.flagOf .adQuotaEn 0

/-! ### Ledger (section 5.1) -/

/-- LG_CFG.ORDERED (R88). -/
def State.ordered (s : State) : Bool := s.flagOf .lgCfg 0
/-- LG_CFG.SEQ_KEEP (R88). -/
def State.seqKeep (s : State) : Bool := s.flagOf .lgCfg 1
/-- LG_GATE_DISTANCE, 0 used as 1 (section 5.1). -/
def State.gateDistance (s : State) : Nat := max 1 (s.fieldOf .lgGateDistance 0 16)
/-- LG_HIGH, 0 used as 1, compared as stored when it is 512 or more (section 5.1), so that a full ledger reaches 512 and
no value above it (log 34). -/
def State.ledgerHigh (s : State) : Nat := max 1 (s.fieldOf .lgHigh 0 10)

/-! ### Verdict channel (section 6.1) -/

/-- The bit time of the verdict channel in reference clock periods (R90); a divisor of 0 is used as 1. -/
def State.vcBitTime (s : State) : Nat := 16 * max 1 (s.fieldOf .vcDivisor 0 16)
/-- VC_CFG.RAW (R94). -/
def State.rawMode (s : State) : Bool := s.flagOf .vcCfg 0
/-- VC_CFG.PAUSE (R93). -/
def State.parserPaused (s : State) : Bool := s.flagOf .vcCfg 1
/-- The parser is suspended (R93). -/
def State.suspended (s : State) : Bool := s.rawMode || s.parserPaused
/-- VC_FLOW_CFG.SW_FLOW (R105). -/
def State.swFlow (s : State) : Bool := s.flagOf .vcFlowCfg 0
/-- VC_FLOW_CFG.HW_FLOW (R107). -/
def State.hwFlow (s : State) : Bool := s.flagOf .vcFlowCfg 1

/-- K, the re-send count selected by RESEND (R105). -/
def State.resendK (s : State) : Nat :=
  match s.fieldOf .vcFlowCfg 2 2 with
  | 0 => 1
  | 1 => 4
  | 2 => 8
  | _ => 16

/-- VC_ADDR (R96). -/
def State.vcAddr (s : State) : Byte := (s.reg .vcAddr).extractLsb' 0 8
/-- The gap limit in reference clock periods: VC_GAP_CT (below 2 used as 2) character times of 11 bit times (R91).
DESIGN CHOICE, unsafe (log 49): neither R90 nor R100 says which bit time the on-line check uses between a VC_DIVISOR
accepted while a character is received and the next start edge. Here it is the new one, from the word on. -/
def State.gapLimit (s : State) : Nat := max 2 (s.fieldOf .vcGapCt 0 5) * 11 * s.vcBitTime
/-- UPPER (R105). -/
def State.upperLevel (s : State) : Nat := s.fieldOf .vcFlowLevels 0 8
/-- LOWER (R105). -/
def State.lowerLevel (s : State) : Nat := s.fieldOf .vcFlowLevels 8 8
/-- VC_SILENCE_MS (R109). -/
def State.silenceMs (s : State) : Nat := s.fieldOf .vcSilenceMs 0 16

/-- The data of a flow control character (R105). -/
def State.flowData (s : State) : FlowChar → Byte
  | .pause => (s.reg .vcPauseChar).extractLsb' 0 8
  | .resume => (s.reg .vcResumeChar).extractLsb' 0 8

/-! ### Gate dispatch (section 7.1) -/

/-- A policy field as an outcome: 1 Pass, 2 Reject, 3 Divert, and 0 used as Reject (section 7.1). -/
def policyOf : Nat → Disposition
  | 1 => .pass
  | 3 => .divert
  | _ => .reject

/-- GD_UNCAPTURED_POLICY (R112). -/
def State.uncapturedPolicy (s : State) : Disposition := policyOf (s.fieldOf .gdUncapturedPolicy 0 2)
/-- GD_DEFAULT_POLICY (R112). -/
def State.defaultPolicy (s : State) : Disposition := policyOf (s.fieldOf .gdDefaultPolicy 0 2)

/-- The outcome that GD_OVERRIDE forces, if any; 3 is used as Off (section 7.1). -/
def State.overrideOutcome (s : State) : Option Disposition :=
  match s.fieldOf .gdOverride 0 2 with
  | 1 => some .pass
  | 2 => some .reject
  | _ => none

/-- GD_PULSE_POS, 0 used as 1 (section 7.1). -/
def State.pulseLength (s : State) : Nat := max 1 (s.fieldOf .gdPulsePos 0 8)
/-- GD_NOTICE_EN (R118). -/
def State.noticesEnabled (s : State) : Bool := s.flagOf .gdNoticeEn 0
/-- GD_LOG_ALERT: 0 used as 1, above 128 as 128 (section 7.1). -/
def State.logAlertLevel (s : State) : Nat := clampTo 1 128 (s.fieldOf .gdLogAlert 0 8)

/-! ### Station link and scheduler (sections 8.1 and 9.1) -/

/-- SL_CFG.LINK_EN (R129). -/
def State.linkEnabled (s : State) : Bool := s.flagOf .slCfg 0
/-- SL_CFG.ABSENT_HOLDS (R59). -/
def State.absentHolds (s : State) : Bool := s.flagOf .slCfg 1
/-- SL_DIV as used: 8 to 4096 reference clock periods (section 8.1). -/
def State.linkBitTime (s : State) : Nat := clampTo 8 4096 (s.fieldOf .slDiv 0 13)
/-- SL_DE_TIMING.LEAD (R124). -/
def State.deLead (s : State) : Nat := s.fieldOf .slDeTiming 0 4
/-- SL_DE_TIMING.LAG (R124). -/
def State.deLag (s : State) : Nat := s.fieldOf .slDeTiming 4 4
/-- SL_POLL_US, below 50 used as 50 (section 8.1). -/
def State.pollUs (s : State) : Nat := max 50 (s.fieldOf .slPollUs 0 16)
/-- SL_REPLY_CT, below 2 used as 2 (section 8.1). -/
def State.replyChars (s : State) : Nat := max 2 (s.fieldOf .slReplyCt 0 5)
/-- SL_RETRY (R131). -/
def State.retry (s : State) : Nat := s.fieldOf .slRetry 0 3
/-- SL_GUARD modulo P (R139). -/
def State.guardSpan (s : State) : Nat := s.fieldOf .slGuard 0 8 % s.cycleLen

/-! ### Batch routing (section 10.1) -/

/-- K: 0 used as 1, above 64 as 64 (section 10.1). -/
def State.batchSize (s : State) : Nat := clampTo 1 64 (s.fieldOf .brBatch 0 7)
/-- BR_COUNT: 0 used as 1, above 256 as 256 (section 10.1). -/
def State.routeCount (s : State) : Nat := clampTo 1 256 (s.fieldOf .brCount 0 9)

/-! ### Sequences (section 11.1) -/

/-- START of a sequence, modulo P (section 11.1). -/
def State.seqStart (s : State) : SeqId → Nat
  | .station => s.indexMod (s.fieldOf .sqSrCfg 0 12)
  | .full => s.indexMod (s.fieldOf .sqFrCfg 0 12)

/-- QUIESCE (R162). -/
def State.seqQuiesce (s : State) : SeqId → Nat
  | .station => s.fieldOf .sqSrQuiesce 0 16
  | .full => s.fieldOf .sqFrQuiesce 0 16

/-- EXTRA (R162). -/
def State.seqExtra (s : State) : SeqId → Nat
  | .station => s.fieldOf .sqSrExtra 0 16
  | .full => s.fieldOf .sqFrExtra 0 16

/-- RECOVER (R164). -/
def State.seqRecover (s : State) : SeqId → Nat
  | .station => s.fieldOf .sqSrRecover 0 16
  | .full => s.fieldOf .sqFrRecover 0 16

/-- GROUPS of SQ_SR_CFG (R163). -/
def State.srGroups (s : State) : BitVec 4 := (s.reg .sqSrCfg).extractLsb' 28 4

/-- The anchor of a slot, modulo P (R139). -/
def State.slotAnchor (s : State) : SlotId → Nat
  | .cycleMark => s.indexMod (s.fieldOf .slMarkAnchor 0 12)
  | .fullReset => s.indexMod (s.fieldOf .sqFrCfg 16 12)
  | .stationReset => s.indexMod (s.fieldOf .sqSrCfg 16 12)
  | .refA => s.anchorOf .csRefaCfg
  | .refB => s.anchorOf .csRefbCfg
  | .refC => s.anchorOf .csRefcCfg
  | .user => s.indexMod (s.fieldOf .slUserAnchor 0 12)

/-- The guard opening of a slot: (anchor - SL_GUARD) modulo P (R139). -/
def State.slotOpening (s : State) (i : SlotId) : Nat :=
  (s.slotAnchor i + s.cycleLen - s.guardSpan) % s.cycleLen

end Sys2Proof.Machine
end

