-- ==== Sys2Proof/Machine/Parts.lean ====
section
/-! DEFINITION. Reading and replacing one member of a series: a reference generator, a buffer model, a fire line, a
slot, a station, a burst count, a request bit, a sequence. -/

namespace Sys2Proof.Machine

/-- The first element with a property and the list without it. -/
def takeFirst {α : Type} (p : α → Bool) : List α → Option (α × List α)
  | [] => none
  | x :: xs => if p x then some (x, xs) else (takeFirst p xs).map fun (y, ys) => (y, x :: ys)

/-- The first element with a property replaced by its image. -/
def updateFirst {α : Type} (p : α → Bool) (f : α → α) : List α → List α
  | [] => []
  | x :: xs => if p x then f x :: xs else x :: updateFirst p f xs

/-- `f` applied `n` times. -/
def iterate {α : Type} (f : α → α) : Nat → α → α
  | 0, x => x
  | n + 1, x => iterate f n (f x)

/-- A reference generator. -/
def State.ref (s : State) : RefGen → Reference
  | .a => s.cs.refA
  | .b => s.cs.refB
  | .c => s.cs.refC

/-- A reference generator replaced. -/
def State.setRef (s : State) (g : RefGen) (x : Reference) : State :=
  match g with
  | .a => { s with cs := { s.cs with refA := x } }
  | .b => { s with cs := { s.cs with refB := x } }
  | .c => { s with cs := { s.cs with refC := x } }

/-- A reference generator's request bit in CS_DEMAND. -/
def State.refRequest (s : State) : RefGen → Bool
  | .a => s.cs.reqRefA
  | .b => s.cs.reqRefB
  | .c => s.cs.reqRefC

/-- A reference generator's request bit replaced. -/
def State.setRefRequest (s : State) (g : RefGen) (b : Bool) : State :=
  match g with
  | .a => { s with cs := { s.cs with reqRefA := b } }
  | .b => { s with cs := { s.cs with reqRefB := b } }
  | .c => { s with cs := { s.cs with reqRefC := b } }

/-- A periodic generator's burst count. -/
def State.burstLeft (s : State) : PerGen → Nat
  | .p1 => s.cs.p1Left
  | .p2 => s.cs.p2Left

/-- A periodic generator's burst count replaced. -/
def State.setBurstLeft (s : State) (g : PerGen) (n : Nat) : State :=
  match g with
  | .p1 => { s with cs := { s.cs with p1Left := n } }
  | .p2 => { s with cs := { s.cs with p2Left := n } }

/-- A periodic generator's request bit in CS_DEMAND. -/
def State.perRequest (s : State) : PerGen → Bool
  | .p1 => s.cs.reqP1
  | .p2 => s.cs.reqP2

/-- A periodic generator's request bit replaced. -/
def State.setPerRequest (s : State) (g : PerGen) (b : Bool) : State :=
  match g with
  | .p1 => { s with cs := { s.cs with reqP1 := b } }
  | .p2 => { s with cs := { s.cs with reqP2 := b } }

/-- A group's buffer model. -/
def State.model (s : State) : Group → Model
  | .a => s.ad.modelA
  | .b => s.ad.modelB
  | .c => s.ad.modelC
  | .d => s.ad.modelD

/-- A group's buffer model replaced. -/
def State.setModel (s : State) (g : Group) (x : Model) : State :=
  match g with
  | .a => { s with ad := { s.ad with modelA := x } }
  | .b => { s with ad := { s.ad with modelB := x } }
  | .c => { s with ad := { s.ad with modelC := x } }
  | .d => { s with ad := { s.ad with modelD := x } }

/-- A group's fire line: `some` microticks left while it is active. -/
def State.fire (s : State) : Group → Option Nat
  | .a => s.ad.fireA
  | .b => s.ad.fireB
  | .c => s.ad.fireC
  | .d => s.ad.fireD

/-- A group's fire line replaced. -/
def State.setFire (s : State) (g : Group) (x : Option Nat) : State :=
  match g with
  | .a => { s with ad := { s.ad with fireA := x } }
  | .b => { s with ad := { s.ad with fireB := x } }
  | .c => { s with ad := { s.ad with fireC := x } }
  | .d => { s with ad := { s.ad with fireD := x } }

/-- An anchored slot. -/
def State.slot (s : State) : SlotId → Slot
  | .cycleMark => s.sl.slots.cycleMark
  | .fullReset => s.sl.slots.fullReset
  | .stationReset => s.sl.slots.stationReset
  | .refA => s.sl.slots.refA
  | .refB => s.sl.slots.refB
  | .refC => s.sl.slots.refC
  | .user => s.sl.slots.user

/-- One slot of the seven replaced. -/
def Slots.put (t : Slots) (i : SlotId) (x : Slot) : Slots :=
  match i with
  | .cycleMark => { t with cycleMark := x }
  | .fullReset => { t with fullReset := x }
  | .stationReset => { t with stationReset := x }
  | .refA => { t with refA := x }
  | .refB => { t with refB := x }
  | .refC => { t with refC := x }
  | .user => { t with user := x }

/-- An anchored slot replaced. -/
def State.setSlot (s : State) (i : SlotId) (x : Slot) : State :=
  { s with sl := { s.sl with slots := s.sl.slots.put i x } }

/-- A resync sequence. -/
def State.seq (s : State) : SeqId → Sequence
  | .station => s.sq.sr
  | .full => s.sq.fr

/-- A resync sequence replaced. -/
def State.setSeq (s : State) (i : SeqId) (x : Sequence) : State :=
  match i with
  | .station => { s with sq := { s.sq with sr := x } }
  | .full => { s with sq := { s.sq with fr := x } }

/-- A resync sequence is active: it is not Idle (R60). -/
def State.seqActive (s : State) : Bool := s.sq.sr.state != .idle || s.sq.fr.state != .idle

/-- The station table entry at an index 0 to 14. -/
def State.station (s : State) (i : Nat) : Station := s.sl.stations.getD i Station.zero

/-- The station table entry at an index replaced. -/
def State.setStation (s : State) (i : Nat) (x : Station) : State :=
  { s with sl := { s.sl with stations := s.sl.stations.set i x } }

end Sys2Proof.Machine
end

