-- ==== Sys2Proof/Machine/Routing.lean ====
section
/-! DEFINITION. Batch routing (chapter 10): counting batches, the choice of a destination, flushes. -/

namespace Sys2Proof.Machine

/-- An entry of the route table (section 10.1). -/
def State.routeEntry (s : State) (i : Nat) : Word := readTable 0#32 s.route i

/-- VETO of a route entry. -/
def State.routeVeto (s : State) (i : Nat) : Bool := bit (s.routeEntry i) 15

/-- DEST of a route entry. -/
def State.routeDest (s : State) (i : Nat) : Byte := (s.routeEntry i).extractLsb' 0 8

/-- SHARE of a route entry. -/
def State.routeShare (s : State) (i : Nat) : Nat := field (s.routeEntry i) 8 4

/-- The search of an advance (R155): the entries after c, modulo BR_COUNT, ending with c; the first without a
veto, if there is one. -/
def State.routeAdvance (s : State) : Option Nat :=
  ((List.range s.routeCount).map fun k => (s.br.pointer + 1 + k) % s.routeCount).find? fun i => !s.routeVeto i

/-- The message placed at the tail of the route queue, or lost to a full queue (R156). -/
def State.pushRoute (s : State) (m : List Byte) : State :=
  if s.sl.routeQ.length < Config.routeQueue then
    { s with sl := { s.sl with routeQ := s.sl.routeQ ++ [m] } }
  else (s.bump .routeLost).raise .linkAnomaly

/-- The payload of a Batch Route message (R156). -/
def routePayload (dest batch : Byte) (count : Nat) (flush fallback : Bool) (index : Nat) (epoch : BitVec 4) :
    List Byte :=
  [dest, batch, BitVec.ofNat 8 count, 0#6 ++ BitVec.ofBool fallback ++ BitVec.ofBool flush, BitVec.ofNat 8 index,
    0#4 ++ epoch]

/-- Steps 2 and 3 of R154 for the entry in use: u increments, and the pointer advances when the share is used up. -/
def State.useRoute (s : State) : State :=
  let uses := s.br.uses + 1
  if s.routeShare s.br.pointer ≤ uses then
    match s.routeAdvance with
    | some c => { s with br := { s.br with pointer := c, uses := 0 } }
    | none => { s with br := { s.br with uses := uses } }
  else { s with br := { s.br with uses := uses } }

/-- A close of the open batch (R152, R154 to R156): `count` captures, `flush` set for a flush. -/
def State.closeBatch (s : State) (flush : Bool) (count : Nat) : State :=
  let batch := s.br.batchNo
  let epoch := s.br.openEpoch
  let s := ({ s with br := { s.br with batchNo := batch + 1#8, openCount := 0 } }).bump .batches
  if s.routeVeto s.br.pointer then
    match s.routeAdvance with
    | none =>
      (((s.bump .routeExhausted).raise .routeExhausted).pushRoute
        (routePayload ((s.reg .brFallback).extractLsb' 0 8) batch count flush true s.br.pointer epoch))
    | some c =>
      let s := { s with br := { s.br with pointer := c, uses := 0 } }
      s.useRoute.pushRoute (routePayload (s.routeDest c) batch count flush false c epoch)
  else
    s.useRoute.pushRoute
      (routePayload (s.routeDest s.br.pointer) batch count flush false s.br.pointer epoch)

/-- A flush (R157). -/
def State.flushRoute (s : State) : State :=
  if s.br.openCount = 0 then s.bump .flushEmpty else s.closeBatch true s.br.openCount

/-- An admission counted into the open batch, which closes when it holds K (R152). -/
def State.countIntoBatch (s : State) (epoch : BitVec 4) : State :=
  let s := { s with br := { s.br with openCount := s.br.openCount + 1, openEpoch := epoch } }
  if s.br.openCount = s.batchSize then s.closeBatch false s.batchSize else s

/-- R158, the Start part. -/
def State.resetRouting (s : State) : State := { s with br := Routing.reset }

end Sys2Proof.Machine
end

