-- ==== Sys2Proof/Machine/Faults.lean ====
section
/-! DEFINITION. Fault entry (R172), the drained test (R169) and the silence watchdog's running condition (R109):
the parts of run control that other blocks' events reach. -/

namespace Sys2Proof.Machine

/-- The bit of an event in RC_FAULT_MASK; CAUSES is kept at the same bits. -/
def causeBit (e : Event) : Word := 1#32 <<< Event.num e

/-- The event's bit is set in RC_FAULT_MASK (R172). -/
def State.masked (s : State) (e : Event) : Bool := s.flagOf .rcFaultMask (Event.num e)

/-- Entry into Faulted (R172): the state, FIRST and CAUSES, the Fault event, the route flush, in this order. `all`
are the causes, `first` the one raised first. -/
def State.enterFault (s : State) (first : Event) (all : List Event) : State :=
  (({ s with rc := { s.rc with
        state := .faulted
        faultFirst := Event.num first
        faultCauses := all.foldl (fun w e => w ||| causeBit e) 0#32 } }).raise .fault).flushRoute

/-- A masked event raised while Faulted sets its bit in CAUSES (R172). -/
def State.addCause (s : State) (e : Event) : State :=
  { s with rc := { s.rc with faultCauses := s.rc.faultCauses ||| causeBit e } }

/-- A fault-capable event raised outside a position event (R172): fault entry, if any, is at once. -/
def State.raiseFault (s : State) (e : Event) : State :=
  if s.masked e then
    match s.rc.state with
    | .running => (s.raise e).enterFault e [e]
    | .draining => (s.raise e).enterFault e [e]
    | .faulted => (s.raise e).addCause e
    | .halted => s.raise e
  else s.raise e

/-- A fault-capable event raised inside a position event (R172): fault entry waits for step 8. -/
def State.raiseInEvent (s : State) (e : Event) : State :=
  if s.masked e then
    match s.rc.state with
    | .running => { s.raise e with rc := { (s.raise e).rc with deferred := s.rc.deferred ++ [e] } }
    | .draining => { s.raise e with rc := { (s.raise e).rc with deferred := s.rc.deferred ++ [e] } }
    | .faulted => (s.raise e).addCause e
    | .halted => s.raise e
  else s.raise e

/-- Fault entry at step 8 of a position event (R30, R172). -/
def State.settleFaults (s : State) : State :=
  match s.rc.deferred with
  | [] => s
  | e :: es => ({ s with rc := { s.rc with deferred := [] } }).enterFault e (e :: es)

/-- The run is drained (R169). -/
def State.isDrained (s : State) : Bool :=
  s.lg.entries.isEmpty && s.cs.ring.isEmpty && !s.cs.sensePending && s.sl.tagQ.isEmpty && s.sl.routeQ.isEmpty

/-- The drained test (R169). -/
def State.drainedTest (s : State) : State :=
  if s.rc.state = .draining ∧ s.isDrained = true then
    ({ s with rc := { s.rc with state := .halted } }).raise .runEnded
  else s

/-- An entry is Awaiting (R77). -/
def Entry.awaiting (e : Entry) : Bool := e.expects && e.verdict.isNone

/-- LG_STATUS.AWAITING (R77). -/
def State.awaiting (s : State) : Nat := s.lg.entries.countP Entry.awaiting

/-- The silence watchdog's timer runs while these three hold (R109). -/
def State.silenceRuns (s : State) : Bool := s.silenceMs != 0 && s.awaiting != 0 && !s.vc.silent

/-- The silence watchdog after a change of its three conditions (R109): it starts from 0 when it begins to run, stops
when one of them fails, and otherwise keeps its count. -/
def State.refreshSilence (s : State) : State :=
  { s with vc := { s.vc with silence := if s.silenceRuns then some (s.vc.silence.getD 0) else none } }

end Sys2Proof.Machine
end

