-- ==== Sys2Proof/Machine/Slots.lean ====
section
/-! DEFINITION. The anchored slots of the Link Scheduler (chapter 9): requests, withdrawals, guard openings, anchors,
frame ends. -/

namespace Sys2Proof.Machine

/-- The seven slots in the order of priority (R139). -/
def allSlots : List SlotId := [.cycleMark, .fullReset, .stationReset, .refA, .refB, .refC, .user]

/-- The slots of higher priority than a slot (R139). -/
def higherSlots (i : SlotId) : List SlotId := allSlots.takeWhile (· ≠ i)

/-- The slots of lower priority than a slot (R139). -/
def lowerSlots (i : SlotId) : List SlotId := (allSlots.dropWhile (· ≠ i)).drop 1

/-- State codes of SL_SLOT_STATUS (section 9.1). -/
def SlotState.code : SlotState → Nat
  | .idle => 0
  | .armed => 1
  | .guarding => 2
  | .due => 3
  | .sending => 4

/-- A request to a slot (R140). -/
def State.requestSlot (s : State) (i : SlotId) : State :=
  match (s.slot i).state with
  | .idle => s.setSlot i { s.slot i with state := .armed }
  | .armed => s.bump .requestMerged
  | .guarding => s.bump .requestMerged
  | .due => s.bump .requestMerged
  | .sending => s.setSlot i { s.slot i with rerequest := true }

/-- The slot returned to Idle with REPEAT clear (R144). -/
def State.idleSlot (s : State) (i : SlotId) : State :=
  s.setSlot i { s.slot i with state := .idle, again := false, waits := false }

/-- The re-request mark of a Sending slot cleared (R144). -/
def State.dropRerequest (s : State) (i : SlotId) : State :=
  s.setSlot i { s.slot i with rerequest := false, openingPassed := false, anchorPassed := false }

/-- Forced withdrawal of a request (R144). -/
def State.forceWithdraw (s : State) (i : SlotId) : State :=
  match (s.slot i).state with
  | .idle => s
  | .armed => s.idleSlot i
  | .guarding => s.idleSlot i
  | .due => s.idleSlot i
  | .sending => s.dropRerequest i

/-- A slot at its guard opening (R141). -/
def State.openingArrives (s : State) (i : SlotId) : State :=
  match (s.slot i).state with
  | .armed => s.setSlot i { s.slot i with state := .guarding }
  | .idle =>
    if i = .cycleMark ∧ s.linkEnabled = true then s.setSlot i { s.slot i with state := .guarding } else s
  | .sending =>
    if i = .cycleMark ∧ s.linkEnabled = true then
      s.setSlot i { s.slot i with rerequest := true, openingPassed := true }
    else s
  | .guarding => s
  | .due => s

/-- A slot stands in the way of a Due slot of lower priority (R142, item 3). -/
def State.blocks (s : State) (i : SlotId) : Bool :=
  match (s.slot i).state with
  | .guarding => true
  | .due => true
  | .sending => true
  | .idle => false
  | .armed => false

/-- A Due slot yields (R142, item 3). -/
def State.yieldSlot (s : State) (i : SlotId) : State :=
  (s.setSlot i { s.slot i with state := .armed, again := true, waits := false }).bump .yields

/-- The late start check (R142, item 4). -/
def State.lateStartCheck (s : State) : State :=
  match s.sl.link with
  | .sending => (s.bump .lateStart).raise .linkAnomaly
  | .reply => (s.bump .lateStart).raise .linkAnomaly
  | .idle => s
  | .spacing => s

/-- A slot that is Due yields; another stays as it is (R142, item 5). -/
def State.yieldIfDue (s : State) (i : SlotId) : State :=
  if (s.slot i).state = .due then s.yieldSlot i else s

/-- A Guarding slot at its anchor (R142, items 2 to 5). -/
def State.becomeDue (s : State) (i : SlotId) : State :=
  let s := s.setSlot i { s.slot i with state := .due }
  if (higherSlots i).any s.blocks then s.yieldSlot i
  else (lowerSlots i).foldl State.yieldIfDue s.lateStartCheck

/-- A slot at its anchor (R142; the Cycle Mark case of R141). A Due slot has waited for it: a new anchor that it was
waiting for has come (R139, log 30). -/
def State.anchorArrives (s : State) (i : SlotId) : State :=
  match (s.slot i).state with
  | .due => (s.setSlot i { s.slot i with waits := false }).bump .anchorOverrun
  | .armed => if (s.slot i).again then s.bump .anchorOverrun else s
  | .guarding => s.becomeDue i
  | .sending =>
    if (s.slot i).openingPassed then
      (s.setSlot i { s.slot i with anchorPassed := true }).bump .anchorOverrun
    else s
  | .idle => s

/-- One slot's part of the pass: its guard opening, then its anchor (R141). -/
def State.passSlot (s : State) (i : SlotId) : State :=
  let s := if s.lp.cycleIndex = s.slotOpening i then s.openingArrives i else s
  if s.lp.cycleIndex = s.slotAnchor i then s.anchorArrives i else s

/-- The slot pass of step 5 (R141). -/
def State.slotPass (s : State) : State := allSlots.foldl State.passSlot s

/-- A Sending slot at its frame end (R143; the Cycle Mark case of R141). -/
def State.endSlotFrame (s : State) (i : SlotId) : State :=
  let x := s.slot i
  if x.state = .sending then
    let state : SlotState :=
      if x.rerequest then
        (if x.anchorPassed then .due else if x.openingPassed then .guarding else .armed)
      else .idle
    s.setSlot i { state := state, again := x.again, rerequest := false, openingPassed := false,
                   anchorPassed := false, waits := false }
  else s

/-- The anchor or the guard opening of a slot, or P, differs from what it is in another state (R139). -/
def State.anchorMoved (s before : State) (i : SlotId) : Bool :=
  s.slotAnchor i != before.slotAnchor i || s.slotOpening i != before.slotOpening i || s.cycleLen != before.cycleLen

/-- A Due slot whose anchor has changed waits for the new one (R139, log 30). -/
def State.holdDue (s before : State) (i : SlotId) : State :=
  if (s.slot i).state = .due ∧ s.anchorMoved before i = true then s.setSlot i { s.slot i with waits := true } else s

/-- The slots after a word to one of the registers that place the anchors (R139); `before` is the state it found. -/
def State.moveAnchors (s before : State) : State := allSlots.foldl (fun s i => s.holdDue before i) s

/-- The host cancel of the User Command slot (R144). -/
def State.cancelUser (s : State) : State :=
  match (s.slot .user).state with
  | .idle => s
  | .armed => ({ s with sl := { s.sl with userRequest := false } }).idleSlot .user
  | .guarding => ({ s with sl := { s.sl with userRequest := false } }).idleSlot .user
  | .due => s
  | .sending =>
    if (s.slot .user).rerequest then ({ s with sl := { s.sl with userRequest := false } }).dropRerequest .user else s

/-- A write of 1 to SL_DEMAND.USER (R140): a request, unless the bit is already set as a re-request. -/
def State.requestUser (s : State) : State :=
  let s := { s with sl := { s.sl with userRequest := true } }
  match (s.slot .user).state with
  | .sending => if (s.slot .user).rerequest then s else s.requestSlot .user
  | .idle => s.requestSlot .user
  | .armed => s.requestSlot .user
  | .guarding => s.requestSlot .user
  | .due => s.requestSlot .user

/-- The host cancel of a reference slot (R144). -/
def State.cancelReference (s : State) (g : RefGen) : State :=
  match (s.slot (refSlot g)).state with
  | .armed => ((s.idleSlot (refSlot g)).setRef g Reference.idle).bump .refCancelled
  | .guarding => ((s.idleSlot (refSlot g)).setRef g Reference.idle).bump .refCancelled
  | .idle => s
  | .due => s
  | .sending => s

end Sys2Proof.Machine
end

