-- ==== Sys2Proof/Machine/Line.lean ====
section
/-! DEFINITION. The Line Position Unit (chapter 2): reverse debt, the step accumulator, and steps 1 and 2 of a position
event. -/

namespace Sys2Proof.Machine

/-! ### Steps and index edges -/

/-- A position offered to the step accumulator (R21). -/
def State.offerPosition (s : State) : State :=
  if s.lp.acc < Config.accumulator then { s with lp := { s.lp with acc := s.lp.acc + 1 } }
  else (s.bump .stepOverrun).raiseFault .lineAnomaly

/-- A reverse step (R20). -/
def State.reverseStep (s : State) : State :=
  if s.lp.debt < 65534 then { s with lp := { s.lp with debt := s.lp.debt + 1 } }
  else if s.lp.debt = 65534 then
    ({ s with lp := { s.lp with debt := 65535, reverseSat := true } }).raiseFault .lineAnomaly
  else s

/-- A forward step (R20). -/
def State.forwardStep (s : State) : State :=
  if s.lp.debt = 0 then s.offerPosition
  else if s.lp.debt = 1 then { s with lp := { s.lp with debt := 0, reverseSat := false } }
  else { s with lp := { s.lp with debt := s.lp.debt - 1 } }

/-- A rising edge of ENC_STEP with ENC_DIR at the level `forward` (R17); with SOURCE Internal it is ignored. -/
def State.takeStep (s : State) (forward : Bool) : State :=
  if s.sourceInternal then s else if forward then s.forwardStep else s.reverseStep

/-- An index edge (R24). -/
def State.takeIndexEdge (s : State) : State :=
  if s.sourceInternal = false ∧ s.indexUse = true then { s with lp := { s.lp with indexPending := true } } else s

/-- The internal generator's timer after one microtick boundary (R18): whether a step is due, and the timer. -/
def State.genTick (s : State) : State :=
  match s.lp.genTimer with
  | none => s
  | some n =>
    if s.genPeriod ≤ n + 1 then ({ s with lp := { s.lp with genTimer := some 0 } }).forwardStep
    else { s with lp := { s.lp with genTimer := some (n + 1) } }

/-! ### Step 1 -/

/-- The advance of step 1 makes the event a cycle start (R23). -/
def State.wraps (s : State) : Bool := s.cycleLen ≤ s.lp.cycleIndex + 1

/-- A cycle start: the cycle number and CycleStarts (R23). -/
def State.countCycle (s : State) : State :=
  ({ s with lp := { s.lp with cycleNumber := s.lp.cycleNumber + 1#16 } }).bump .cycleStarts

/-- The advance of the cycle index (R23). -/
def State.advanceIndex (s : State) : State :=
  if s.wraps then ({ s with lp := { s.lp with cycleIndex := 0 } }).countCycle
  else { s with lp := { s.lp with cycleIndex := s.lp.cycleIndex + 1 } }

/-- LINE_MOVING and the stall timer's restart (R29). -/
def State.restartStall (s : State) : State :=
  { s with lp := { s.lp with
      lineMoving := true
      stallTimer := if s.stallMs = 0 then none else some 0 } }

/-- Step 1 (R30): travel, PositionEvents, the stall timer's restart, the cycle index. -/
def State.stepOne (s : State) : State :=
  (({ s with lp := { s.lp with travel := s.lp.travel + 1#32 } }).bump .positionEvents).restartStall.advanceIndex

/-! ### Step 2 -/

/-- The signed offset of a mismatch, reduced into the cycle (R25), in 16-bit two's complement. -/
def phaseOffsetOf (p index expected : Nat) : BitVec 16 :=
  let d := (index + p - expected % p) % p
  if p / 2 < d then BitVec.ofNat 16 (65536 + d - p) else BitVec.ofNat 16 d

/-- A phase error recorded (R25, R26). -/
def State.phaseError (s : State) (kind : PhaseKind) (offset : BitVec 16) : State :=
  (({ s with lp := { s.lp with phaseKind := kind, phaseOffset := offset } }).bump .phaseErrors).raiseInEvent
    .phaseError

/-- A realignment (R27): the cycle index becomes the expected value; 0 makes a cycle start. -/
def State.realign (s : State) : State :=
  let s := { s with lp := { s.lp with cycleIndex := s.expectedIndex } }
  if s.lp.cycleIndex = 0 then s.countCycle else s

/-- A pending index consumed and checked (R25, R27). -/
def State.checkIndex (s : State) : State :=
  let s := { s with lp := { s.lp with indexPending := false, sinceIndex := 0 } }
  if s.lp.cycleIndex = s.expectedIndex then s
  else
    let s := s.phaseError .mismatch (phaseOffsetOf s.cycleLen s.lp.cycleIndex s.expectedIndex)
    if s.realigns then s.realign else s

/-- LP_SINCE_INDEX moved on by one (R26); past its largest value a free value (log 10). -/
def State.incSince (s : State) : State :=
  if s.lp.sinceIndex < 8191 then { s with lp := { s.lp with sinceIndex := s.lp.sinceIndex + 1 } }
  else { s with
    lp := { s.lp with sinceIndex := (Config.sinceIndexBeyond s.freeCount).toNat }
    freeCount := s.freeCount + 1 }

/-- A missing index declared (R26). -/
def State.declareMissing (s : State) : State :=
  ({ s with lp := { s.lp with sinceIndex := 0 } }).phaseError .missing 0#16

/-- The missing-index count at an event without an index (R26). -/
def State.countSince (s : State) : State :=
  let s := s.incSince
  if s.lp.sinceIndex = s.cycleLen + s.indexTol then s.declareMissing else s

/-- Step 2 (R25 to R27, R18); `start` says that step 1 made a cycle start. A count left from another setting of LP_CFG
stands until this step (log 41). -/
def State.stepTwo (s : State) (start : Bool) : State :=
  if s.sourceInternal then
    (if start then { s with lp := { s.lp with sinceIndex := 0 } } else s.incSince)
  else if s.indexUse then (if s.lp.indexPending then s.checkIndex else s.countSince)
  else { s with lp := { s.lp with sinceIndex := 0 } }

end Sys2Proof.Machine
end

