-- ==== Sys2Proof/Machine/Sources.lean ====
section
/-! DEFINITION. The capture sources (chapter 3): what each takes in and proposes. -/

namespace Sys2Proof.Machine

/-! ### Candidates -/

/-- A candidate of a class, with the class's group mask (R53). -/
def State.propose (s : State) (c : CaptureClass) : State :=
  { s with candidates := s.candidates ++
      [{ cls := c, mask := s.classMask c, item := c == .sensor, audit := false }] }

/-- The Sensor candidate of this event, if there is one, audited (R48, R51). -/
def State.auditSensor (s : State) : State :=
  { s with candidates := s.candidates.map fun c => if c.cls = .sensor then { c with audit := true } else c }

/-! ### The sensor path (section 3.2) -/

/-- The run state and SENSE_INTAKE let a sensor edge in (R34). -/
def State.intakeOpen (s : State) : Bool :=
  s.senseIntake && (s.rc.state == .running || s.rc.state == .faulted)

/-- A rising edge of SENSE (R34, R35). With a span of 1 or more and the count beyond it, an edge that finds a pending one
is a bounce too, and the count goes on (log 32). -/
def State.takeSense (s : State) : State :=
  if s.intakeOpen then
    if s.cs.debounce < s.debounceSpan ∨ s.cs.sensePending = true then s.bump .senseBounce
    else { s with cs := { s.cs with sensePending := true, debounce := 0 } }
  else s.bump .sensorIgnored

/-- The ring with an entry placed after every entry whose due travel is not later than its own (R37). -/
def insertRing (e : RingEntry) : List RingEntry → List RingEntry
  | [] => [e]
  | x :: xs => if later x.due e.due then e :: x :: xs else x :: insertRing e xs

/-- The number of missed proposals of a window that opened in the past (R42): the values of k from 0 to 2W for
which window + k S lies before the travel. -/
def missedProposals (travel window : Travel) (w step : Nat) : Nat :=
  (List.range (2 * w + 1)).countP fun k => later travel (window + BitVec.ofNat 32 (k * step))

/-- The bracket decision at intake, for a window before the current travel (R42). -/
def State.bracketAtIntake (s : State) (window : Travel) : State :=
  match s.cs.bracket with
  | some _ => s.bump .bracketBusy
  | none =>
    let m := missedProposals s.lp.travel window s.bracketWidth s.bracketStep
    let run : BracketRun :=
      { next := window + BitVec.ofNat 32 (m * s.bracketStep), left := 2 * s.bracketWidth + 1 - m,
        step := s.bracketStep }
    ({ s with cs := { s.cs with bracket := some run } }).bumpBy .bracketSkip m

/-- The ring entry that an accepted edge makes (R36), MARK being at the level `marked`. -/
def State.newEntry (s : State) (marked : Bool) : RingEntry :=
  let due := s.lp.travel + BitVec.ofNat 32 s.senseDelay
  { due := due
    marked := marked
    window :=
      if marked = true ∧ s.bracketWidth ≠ 0 then some (due - BitVec.ofNat 32 (s.bracketWidth * s.bracketStep))
      else none
    decided := false }

/-- An entry placed in the ring, its bracket decided at once when its window has opened in the past (R37, R42). -/
def State.placeEntry (s : State) (e : RingEntry) : State :=
  match e.window with
  | none => { s with cs := { s.cs with ring := insertRing e s.cs.ring } }
  | some w =>
    if later s.lp.travel w then
      ({ s with cs := { s.cs with ring := insertRing { e with decided := true } s.cs.ring } }).bracketAtIntake w
    else { s with cs := { s.cs with ring := insertRing e s.cs.ring } }

/-- The intake of a pending edge (R36, R37). -/
def State.intake (s : State) : State :=
  let s := { s with cs := { s.cs with sensePending := false } }
  if s.intakeOpen then
    if s.cs.ring.length < Config.ring then s.placeEntry (s.newEntry s.pins.mark)
    else (s.bump .sensorOverrun).raiseInEvent .blindItem
  else s.bump .sensorIgnored

/-- Step 3 (R35, R36). -/
def State.stepThree (s : State) : State :=
  let s := { s with cs := { s.cs with debounce := min 255 (s.cs.debounce + 1) } }
  if s.cs.sensePending then s.intake else s

/-- The first ring entry whose due travel has been reached leaves and proposes (R38). -/
def State.ringProposal (s : State) : State :=
  match takeFirst (fun e => reached s.lp.travel e.due) s.cs.ring with
  | none => s
  | some (e, rest) =>
    let s := ({ s with cs := { s.cs with ring := rest } }).propose .sensor
    if s.lp.travel = e.due then s else s.bump .sensorSlip

/-! ### Bracket runs (section 3.3) -/

/-- The active run's proposal, when its travel has been reached (R41). -/
def State.bracketPropose (s : State) : State :=
  match s.cs.bracket with
  | none => s
  | some b =>
    if reached s.lp.travel b.next then
      let run : BracketRun := { b with next := b.next + BitVec.ofNat 32 b.step, left := b.left - 1 }
      ({ s with cs := { s.cs with bracket := if b.left ≤ 1 then none else some run } }).propose .bracket
    else s

/-- A ring entry whose window opens (R40): it has one, it has not been decided, its start has been reached. -/
def opensWindow (travel : Travel) (e : RingEntry) : Bool :=
  match e.window with
  | some w => !e.decided && reached travel w
  | none => false

/-- The decision for the first entry in ring order whose window opens (R40): a run starts and makes its first
proposal, or the run already going refuses it. DESIGN CHOICE: W stored as 0 in Halted is bracketing off (section 3.1),
and R40 does not say what an entry does whose window was formed under another W; the run has the 2W + 1 = 1 proposals
of R40, so that it ends at this event and a second such window starts another run (log 47). -/
def State.bracketStartOne (s : State) : State :=
  match s.cs.ring.find? (opensWindow s.lp.travel) with
  | none => s
  | some e =>
    let s := { s with cs := { s.cs with
      ring := updateFirst (opensWindow s.lp.travel) (fun x => { x with decided := true }) s.cs.ring } }
    match s.cs.bracket, e.window with
    | none, some w =>
      let run : BracketRun := { next := w, left := 2 * s.bracketWidth + 1, step := s.bracketStep }
      ({ s with cs := { s.cs with bracket := some run } }).bracketPropose
    | _, _ => s.bump .bracketBusy

/-- The decisions for every entry whose window opens, in ring order (R40). -/
def State.bracketStarts (s : State) : State := iterate State.bracketStartOne s.cs.ring.length s

/-! ### Periodic generators (section 3.4) -/

/-- An occurrence exists (R43). -/
def State.perOccurs (s : State) (g : PerGen) : Bool :=
  s.lp.cycleIndex == s.anchorOf (perCfg g) &&
    ((s.perEnabled g && s.lp.cycleNumber.toNat % s.periodOf (perCfg g) == 0) || s.perRequest g)

/-- The occurrence test (R43, R44). -/
def State.perTest (s : State) (g : PerGen) : State :=
  if s.perOccurs g then
    if s.seqActive = false ∧ s.burstLeft g = 0 then (s.setBurstLeft g (s.burst g)).setPerRequest g false
    else s.bump .periodicSkipped
  else s

/-- The proposal of a burst in progress (R43). -/
def State.perPropose (s : State) (g : PerGen) : State :=
  if s.burstLeft g = 0 then s else (s.setBurstLeft g (s.burstLeft g - 1)).propose .periodic

/-! ### Reference generators (section 3.5) -/

/-- An occurrence exists at a cycle start (R45). -/
def State.refOccurs (s : State) (g : RefGen) : Bool :=
  (s.refEnabled g && s.lp.cycleNumber.toNat % s.periodOf (refCfg g) == 0) || s.refRequest g

/-- The occurrence test at a cycle start (R45). -/
def State.refTest (s : State) (g : RefGen) : State :=
  if s.refOccurs g then
    if (s.ref g).state = .idle ∧ s.seqActive = false then
      ((s.requestSlot (refSlot g)).setRef g { s.ref g with state := .requested, cancelled := false }).setRefRequest g
        false
    else s.bump .refSkipped
  else s

/-- A Pending generator whose capture travel has been reached is marked due at step 5 (R46). -/
def State.refMark (s : State) (g : RefGen) : State :=
  if (s.ref g).state = .pending ∧ reached s.lp.travel (s.ref g).capture = true then
    s.setRef g { s.ref g with due := true }
  else s

/-- A generator marked due proposes and returns to Idle (R46). -/
def State.refPropose (s : State) (g : RefGen) : State :=
  if (s.ref g).due then (s.setRef g Reference.idle).propose .reference else s

/-- A generator's part of step 6: its occurrence test at a cycle start and its proposal. Where both fall at one
event their order is a free value (log 11). -/
def State.refStep (s : State) (start : Bool) (g : RefGen) : State :=
  if start then
    if (s.ref g).due then
      let t := { s with freeCount := s.freeCount + 1 }
      if Config.referenceTestFirst s.freeCount then (t.refTest g).refPropose g else (t.refPropose g).refTest g
    else s.refTest g
  else s.refPropose g

/-- A generator's in-flight occurrence cancelled (R47). -/
def State.refCancel (s : State) (g : RefGen) : State := (s.setRef g Reference.idle).bump .refCancelled

/-- A Requested generator when a resync sequence leaves Idle (R47, second and third lines of the table). -/
def State.refWithdraw (s : State) (g : RefGen) : State :=
  match (s.slot (refSlot g)).state with
  | .armed => (s.idleSlot (refSlot g)).refCancel g
  | .guarding => (s.idleSlot (refSlot g)).refCancel g
  | .due => s.setRef g { s.ref g with cancelled := true }
  | .idle => s
  | .sending => s

/-- A generator's reaction when a resync sequence leaves Idle (R47). -/
def State.refOnSequence (s : State) (g : RefGen) : State :=
  match (s.ref g).state with
  | .idle => s
  | .requested => s.refWithdraw g
  | .pending => s.refCancel g

/-- A generator's reaction to an accepted Abort, its slot having been withdrawn (R47). -/
def State.refOnAbort (s : State) (g : RefGen) : State :=
  match (s.ref g).state with
  | .idle => s
  | .requested => s.refCancel g
  | .pending => s.refCancel g

/-! ### Pattern memory, random sampler, host demand (sections 3.6 and 3.7) -/

/-- The pattern memory's part of step 6 (R48). -/
def State.patternStep (s : State) : State :=
  if s.patternEnabled then
    let e := readTable 0#32 s.pattern s.lp.cycleIndex
    let s := if bit e 0 then s.propose .pattern else s
    if bit e 1 then s.auditSensor else s
  else s

/-- One advance of a random generator: taps 32, 22, 2 and 1 (R50). -/
def lfsr (v : Word) : Word :=
  (v <<< 1) ||| (BitVec.ofBool (bit v 31 ^^ bit v 21 ^^ bit v 1 ^^ bit v 0)).zeroExtend 32

/-- A seed as loaded: 0 as 1 (R50). -/
def seedOf (v : Word) : Word := if v = 0#32 then 1#32 else v

/-- The random sampler's part of step 6 (R50, R51). -/
def State.randomStep (s : State) : State :=
  if s.randomEnabled then
    let s := { s with cs := { s.cs with sample := lfsr s.cs.sample, audit := lfsr s.cs.audit } }
    let s := if s.cs.sample.toNat < (s.reg .csSampleThresh).toNat then s.propose .random else s
    if s.cs.audit.toNat < (s.reg .csAuditThresh).toNat then s.auditSensor else s
  else s

/-- The host demand's part of step 6 (R52). -/
def State.hostStep (s : State) : State :=
  if s.cs.captureNow then ({ s with cs := { s.cs with captureNow := false } }).propose .host else s

/-- Step 6 (R30, chapter 3); `start` says that the event is a cycle start. -/
def State.stepSix (s : State) (start : Bool) : State :=
  let s := s.ringProposal.bracketPropose.bracketStarts
  let s := (((s.perTest .p1).perPropose .p1).perTest .p2).perPropose .p2
  let s := ((s.refStep start .a).refStep start .b).refStep start .c
  s.patternStep.randomStep.hostStep

end Sys2Proof.Machine
end

