-- ==== Sys2Proof/Machine/Gate.lean ====
section
/-! DEFINITION. Gate Dispatch and the disposition log (chapter 7), with the retired window (R80). -/

namespace Sys2Proof.Machine

/-! ### The tag and notice queues (R145) -/

/-- A capture tag placed at the tail of the tag queue, or lost to a full queue (R145). -/
def State.pushTag (s : State) (m : List Byte) : State :=
  if s.sl.tagQ.length < Config.tagQueue then { s with sl := { s.sl with tagQ := s.sl.tagQ ++ [m] } }
  else (s.bump .tagLost).raise .linkAnomaly

/-- A notice placed at the tail of the notice queue, or lost to a full queue (R118, R145). -/
def State.pushNotice (s : State) (m : List Byte) : State :=
  if s.sl.noticeQ.length < Config.noticeQueue then { s with sl := { s.sl with noticeQ := s.sl.noticeQ ++ [m] } }
  else s.bump .noticeLost

/-- The payload of a capture tag (R128, kind 7). -/
def tagPayload (cls : CaptureClass) (item audit : Bool) (mask : BitVec 4) (id : Ident) (lane : Byte) : List Byte :=
  let b := identBytes id
  [BitVec.ofNat 3 cls.code ++ BitVec.ofBool item ++ mask, b.1, b.2.1, b.2.2.1,
    b.2.2.2 ||| (BitVec.ofBool audit).zeroExtend 8 <<< 3, lane]

/-- The payload of a disposition notice (R128, kind 8). -/
def noticePayload (outcome : Disposition) (source : Source) (id : Ident) (detail : Byte) : List Byte :=
  let b := identBytes id
  [BitVec.ofNat 2 outcome.code ++ BitVec.ofNat 3 source.code ++ 0#3, b.1, b.2.1, b.2.2.1, b.2.2.2, detail]

/-! ### The log (section 7.5) -/

/-- What a log record says of its item, before it is laid out in words. -/
structure LogFields where
  outcome : Disposition
  source : Source
  cls : Nat
  uncaptured : Bool
  item : Bool
  audit : Bool
  outOfOrder : Bool
  conflict : Bool
  ident : Option Ident
  mask : BitVec 4
  detail : Byte
  travel : Travel
  cycleLow : Byte
  lane : Byte
  deriving DecidableEq, Repr

/-- The three words of a record (section 7.5). -/
def logWords (f : LogFields) : LogRecord :=
  let id := f.ident.getD { epoch := 0#4, itemId := 0#24 }
  { word0 := place f.outcome.code 0 ||| place f.source.code 2 ||| place f.cls 5 ||| flagAt f.uncaptured 8 |||
      flagAt f.item 9 ||| flagAt f.audit 10 ||| flagAt f.outOfOrder 11 ||| flagAt f.conflict 12 |||
      flagAt f.ident.isSome 13 ||| place id.epoch.toNat 16 ||| place f.mask.toNat 20
    word1 := f.detail ++ id.itemId
    word2 := f.lane ++ f.cycleLow ++ f.travel.extractLsb' 0 16 }

/-- The record of an entry that retires or is abandoned (section 7.5, R121). -/
def entryRecord (e : Entry) (outcome : Disposition) (source : Source) (travel : Travel) : LogRecord :=
  logWords
    { outcome := outcome, source := source, cls := e.cls.code, uncaptured := e.ident.isNone, item := e.item,
      audit := e.audit, outOfOrder := (e.verdict.map Verdict.outOfOrder).getD false, conflict := false,
      ident := e.ident, mask := e.mask, detail := (e.verdict.map Verdict.detail).getD 0#8, travel := travel,
      cycleLow := e.cycleLow, lane := e.lane }

/-- The alert flag after a change of the log level (R119). -/
def State.evalAlert (s : State) : State :=
  if s.gd.alert then
    (if s.gd.log.length < s.logAlertLevel then { s with gd := { s.gd with alert := false } } else s)
  else if s.logAlertLevel ≤ s.gd.log.length then
    ({ s with gd := { s.gd with alert := true } }).raise .logAlert
  else s

/-- A record written to the log, or lost to a full log (R119). -/
def State.appendLog (s : State) (r : LogRecord) : State :=
  if s.gd.log.length < Config.log then
    ({ s with gd := { s.gd with log := s.gd.log ++ [r] } }).evalAlert
  else s.bump .logLost

/-- ClearLog (R123). -/
def State.clearLog (s : State) : State :=
  { s with gd := { s.gd with log := [], latch0 := 0#32, latch1 := 0#32, latch2 := 0#32, alert := false } }

/-! ### The retired window (R80) -/

/-- A record added to the window: an earlier record of the pair goes first, then the oldest when it is full. -/
def pushWindow (w : List WindowRecord) (r : WindowRecord) : List WindowRecord :=
  let w := w.filter fun x => x.ident ≠ r.ident
  (if w.length < Config.window then w else w.drop 1) ++ [r]

/-! ### The disposition decision (R112, R113) -/

/-- Pass upgraded by the audit mark (R112, lines 2a and 3a). -/
def upgrade (audit : Bool) (o : Disposition) (src : Source) : Disposition × Source :=
  if audit = true ∧ o = .pass then (.divert, .audit) else (o, src)

/-- Steps 1 to 3 of R112. -/
def State.baseOutcome (s : State) (e : Entry) : Disposition × Source :=
  if e.ident.isNone then (s.uncapturedPolicy, .policy)
  else
    match e.verdict with
    | some v => upgrade e.audit v.code .verdict
    | none => upgrade e.audit s.defaultPolicy .default

/-- The outcome and source of a retiring entry (R112, R113). -/
def State.decideOutcome (s : State) (e : Entry) : Disposition × Source :=
  if e.item then
    match s.overrideOutcome with
    | some o => (o, .override)
    | none => s.baseOutcome e
  else (.none, .aux)

/-! ### Gate pulses (R115, R116) -/

/-- A retirement's pulse (R115, R116). -/
def State.startPulse (s : State) (o : Disposition) : State :=
  match o with
  | .reject =>
    let s := if s.gd.divLeft = 0 then s else s.bump .gateOverlap
    { s with gd := { s.gd with divLeft := 0, rejLeft := s.pulseLength } }
  | .divert =>
    let s := if s.gd.rejLeft = 0 then s else s.bump .gateOverlap
    { s with gd := { s.gd with rejLeft := 0, divLeft := s.pulseLength } }
  | .pass => s
  | .none => s

/-- The countdowns of step 4 (R115). -/
def State.countPulses (s : State) : State :=
  { s with gd := { s.gd with rejLeft := s.gd.rejLeft - 1, divLeft := s.gd.divLeft - 1 } }

/-! ### Retirement (R111, R117) -/

/-- The log mode asks for a record of a retirement (R120). -/
def State.logsRetirement (s : State) (e : Entry) (src : Source) : Bool :=
  match s.fieldOf .gdLogMode 0 2 with
  | 1 => e.item
  | 2 => src == .default || src == .policy || src == .audit || src == .override
  | _ => true

/-- The dispatch of a retiring entry, items 1 to 6 of R117. -/
def State.dispatch (s : State) (e : Entry) : State :=
  let (o, src) := s.decideOutcome e
  let s := (s.startPulse o).bump (.dispositions o)
  let s := if src = .default then s.bump .defaulted else s
  let s := if s.logsRetirement e src then s.appendLog (entryRecord e o src s.lp.travel) else s
  match e.ident with
  | none => s
  | some id =>
    let s :=
      if s.noticesEnabled then
        s.pushNotice (noticePayload o src id ((e.verdict.map Verdict.detail).getD 0#8))
      else s
    if e.expects then { s with lg := { s.lg with window := pushWindow s.lg.window { ident := id, outcome := o } } }
    else s

/-- An entry's gate travel has been reached (R111). -/
def dueAtGate (travel : Travel) (e : Entry) : Bool := reached travel e.gateTravel

/-- The first due entry in creation order retires (R111, R117). -/
def State.retireOne (s : State) : State :=
  match takeFirst (dueAtGate s.lp.travel) s.lg.entries with
  | none => s
  | some (e, rest) =>
    let s := s.dispatch e
    { s with lg := { s.lg with entries := rest } }

/-- Step 4 (R30): the countdowns, then every due entry in creation order (R111). -/
def State.stepFour (s : State) : State :=
  (iterate State.retireOne s.lg.entries.length s.countPulses).refreshSilence

/-- The dispatch of an entry abandoned by an Abort: its log record and AbandonCount (R79, R121). -/
def State.abandon (s : State) (e : Entry) : State :=
  (s.appendLog (entryRecord e .none .abandoned s.lp.travel)).bump .abandonCount

/-- Every entry abandoned, oldest first, and the ledger emptied (R79). -/
def State.abandonAll (s : State) : State :=
  let t := s.lg.entries.foldl State.abandon s
  ({ t with lg := { t.lg with entries := [], high := false } }).refreshSilence

end Sys2Proof.Machine
end

