-- ==== Sys2Proof/Machine/Admission.lean ====
section
/-! DEFINITION. Admission, holds and firing (chapter 4), and the creation of ledger entries (chapter 5): steps 7 and 8
of a position event. -/

namespace Sys2Proof.Machine

/-! ### The capture proposal (R55) -/

/-- The merge of the candidates of one event (R55). -/
structure Proposal where
  cls : CaptureClass
  mask : BitVec 4
  item : Bool
  audit : Bool
  expects : Bool
  deriving DecidableEq, Repr

/-- The class of higher priority (section 3.8). -/
def higherClass (a b : CaptureClass) : CaptureClass := if a.code < b.code then b else a

/-- The proposal formed from the candidates, if there is one (R55). -/
def State.proposal (s : State) : Option Proposal :=
  match s.candidates with
  | [] => none
  | c :: cs =>
    let cls := cs.foldl (fun k x => higherClass k x.cls) c.cls
    let item := (c :: cs).any Candidate.item
    some
      { cls := cls
        mask := (c :: cs).foldl (fun m x => m ||| x.mask) 0#4
        item := item
        audit := (c :: cs).any Candidate.audit
        expects := item || s.classExpects cls }

/-! ### Hold sources (section 4.3) -/

/-- A station holds its group (R59). -/
def State.stationHolds (s : State) (g : Group) (x : Station) : Bool :=
  decide (x.group = g) &&
    match x.state with
    | .present => decide (s.busyLevel ≤ x.busy.toNat)
    | .suspect => decide (s.busyLevel ≤ x.busy.toNat)
    | .absent => s.absentHolds
    | .disabled => false
    | .unknown => false

/-- The Link hold source of a group (R59). -/
def State.linkHold (s : State) (g : Group) : Bool := s.sl.stations.any (s.stationHolds g)

/-- The activity of the hold sources, at the bits of AD_HOLD_STATUS (section 4.3, R64). -/
def State.activeHolds (s : State) : List Bool :=
  [s.ad.modelA.hold, s.ad.modelB.hold, s.ad.modelC.hold, s.ad.modelD.hold,
    s.pins.busy0, s.pins.busy1,
    s.linkHold .a, s.linkHold .b, s.linkHold .c, s.linkHold .d,
    s.flagOf .adPause 0,
    decide (s.ad.spacing < s.minSpacing),
    s.seqActive,
    decide (s.ledgerHigh ≤ s.lg.entries.length),
    decide (Config.tagHigh ≤ s.sl.tagQ.length),
    decide (Config.routeHigh ≤ s.sl.routeQ.length),
    decide (Config.ledger ≤ s.lg.entries.length),
    decide ((s.reg .adQuota).toNat ≤ s.ad.quotaCount.toNat),
    s.rc.state != .running]

/-- The enables of the hold sources, at the same bits (section 4.3). -/
def State.holdEnables (s : State) : List Bool :=
  (List.range 10).map (s.flagOf .adHoldEn) ++
    [true, true, true, s.flagOf .adSafetyEn 0, s.flagOf .adSafetyEn 0, s.flagOf .adSafetyEn 0, true, s.quotaEnabled,
      true]

/-- The global hold (R57): some source is active and enabled. -/
def State.globalHold (s : State) : Bool :=
  (s.activeHolds.zip s.holdEnables).any fun (a, e) => a && e

/-- A list of flags as a word, the first at bit 0. -/
def flagWord (l : List Bool) : Word := l.zipIdx.foldl (fun w (b, i) => w ||| flagAt b i) 0#32

/-! ### Buffer models (section 4.8) -/

/-- The hold flag after a change of occupancy (R69). -/
def Model.settle (m : Model) (high low : Nat) : Model :=
  if high ≤ m.occ then { m with hold := true } else if m.occ ≤ low then { m with hold := false } else m

/-- An admission counted into a model (R69, R70). -/
def State.fillModel (s : State) (g : Group) : State :=
  let m := s.model g
  if m.occ < 63 then
    let m' : Model := { occ := m.occ + 1, drain := if m.occ = 0 then some (s.drainUs g) else m.drain, hold := m.hold }
    s.setModel g (m'.settle (s.modelHigh g) (s.modelLow g))
  else s.bump .modelSaturate

/-- A drain expiry of a model (R70). -/
def State.drainModel (s : State) (g : Group) : State :=
  let m := s.model g
  let m' : Model := { occ := m.occ - 1, drain := if m.occ ≤ 1 then none else some (s.drainUs g), hold := m.hold }
  s.setModel g (m'.settle (s.modelHigh g) (s.modelLow g))

/-- A model cleared (R71); its flag is clear whatever HIGH (log 33). -/
def State.clearModel (s : State) (g : Group) : State := s.setModel g Model.empty

/-- The models of the groups of a mask cleared (R71). -/
def State.clearModels (s : State) (mask : BitVec 4) : State :=
  allGroups.foldl (fun s g => if inMask mask g then s.clearModel g else s) s

/-! ### Admission (section 4.6) -/

/-- A group's fire line pulsed (R66). -/
def State.pulseFire (s : State) (g : Group) : State :=
  let s := if (s.fire g).isSome then s.bump (.fireOverlap g) else s
  s.setFire g (some s.fireWidth)

/-- The entry that a proposal of this event makes, with the identity it was given (R74 to R76). -/
def State.newLedgerEntry (s : State) (p : Proposal) (id : Option Ident) : Entry :=
  { ident := id
    cls := p.cls
    item := p.item
    audit := p.audit
    expects := id.isSome && p.expects
    captureTravel := s.lp.travel
    cycleLow := s.lp.cycleNumber.extractLsb' 0 8
    gateTravel := s.lp.travel + BitVec.ofNat 32 s.gateDistance
    mask := if id.isSome then p.mask else 0#4
    lane := s.pins.lane
    verdict := none }

/-- An entry appended at the tail (R73). -/
def State.appendEntry (s : State) (e : Entry) : State :=
  { s with lg := { s.lg with entries := s.lg.entries ++ [e] } }

/-- The reuse check at the creation of a Captured entry (R81). -/
def State.checkReuse (s : State) (id : Ident) : State :=
  if s.lg.window.any (fun r => r.ident == id) || s.lg.entries.any (fun e => e.ident == some id) then
    ({ s with lg := { s.lg with window := s.lg.window.filter fun r => r.ident ≠ id } }).bump .idReuse
  else s

/-- The identity that an admitted proposal receives (R65). -/
def State.nextIdent (s : State) : Ident := { epoch := s.ad.epoch, itemId := s.ad.nextId }

/-- The item ID counter moved on by an admission (R65). -/
def State.useIdent (s : State) : State := { s with ad := { s.ad with nextId := s.ad.nextId + 1#24 } }

/-- The fire lines of a mask pulsed (R66). -/
def State.fireMask (s : State) (mask : BitVec 4) : State :=
  allGroups.foldl (fun s g => if inMask mask g then s.pulseFire g else s) s

/-- The models of a mask incremented (R69). -/
def State.fillMask (s : State) (mask : BitVec 4) : State :=
  allGroups.foldl (fun s g => if inMask mask g then s.fillModel g else s) s

/-- Admission (R65 to R67, R56). -/
def State.takeIn (s : State) (p : Proposal) : State :=
  let id := s.nextIdent
  let s := (s.useIdent.fireMask p.mask).fillMask p.mask
  let s := (s.checkReuse id).appendEntry (s.newLedgerEntry p (some id))
  let s := s.pushTag (tagPayload p.cls p.item p.audit p.mask id s.pins.lane)
  let s := (s.countIntoBatch id.epoch).bump (.admitted p.cls)
  if p.mask = 0#4 then s.bump .unfiredAdmission else s

/-- Holding (R68). -/
def State.holdBack (s : State) (p : Proposal) : State :=
  let s := s.bump (.held p.cls)
  if p.item then
    if s.lg.entries.length < Config.ledger then s.appendEntry (s.newLedgerEntry p none)
    else (s.bump .gateBlind).raiseInEvent .blindItem
  else s

/-- Step 7 (R55, R57): the candidates merge into at most one proposal, which is admitted or held. -/
def State.stepSeven (s : State) : State :=
  let t := { s with candidates := [] }
  match s.proposal with
  | none => t
  | some p => (if s.globalHold then t.holdBack p else t.takeIn p).refreshSilence

/-! ### Step 8 -/

/-- The quota count (R62). -/
def State.countQuota (s : State) : State :=
  let s := { s with ad := { s.ad with
    quotaCount := if s.ad.quotaCount = BitVec.allOnes 32 then s.ad.quotaCount else s.ad.quotaCount + 1#32 } }
  if s.quotaEnabled = true ∧ s.ad.quotaCount = s.reg .adQuota then s.raise .quotaReached else s

/-- The spacing and quota counts (R61, R62). -/
def State.countAdmission (s : State) (admitted : Bool) : State :=
  if admitted then ({ s with ad := { s.ad with spacing := 1 } }).countQuota
  else { s with ad := { s.ad with spacing := min 65535 (s.ad.spacing + 1) } }

/-- The ledger-high flag (R78). -/
def State.evalLedgerHigh (s : State) : State :=
  if s.ledgerHigh ≤ s.lg.entries.length then
    (if s.lg.high then s else ({ s with lg := { s.lg with high := true } }).raise .ledgerHigh)
  else { s with lg := { s.lg with high := false } }

/-- AD_HOLD_STATUS and the hold-position counters (R64), from the evaluation of step 7. -/
def State.writeHolds (s : State) (active : List Bool) (global : Bool) : State :=
  let s := { s with ad := { s.ad with holdStatus := flagWord active ||| flagAt global 31 } }
  let s := active.zipIdx.foldl (fun s (a, i) => if a then s.bump (.holdPosition i) else s) s
  if global then s.bump .heldPositions else s

/-- Step 8 (R30): `active`, `global` and `admitted` as step 7 found them, `flush` when a Full Resync entered
Quiescing at this event. -/
def State.stepEight (s : State) (active : List Bool) (global admitted flush : Bool) : State :=
  let s := ((s.countAdmission admitted).evalLedgerHigh).writeHolds active global
  let s := if flush then s.flushRoute else s
  s.settleFaults.drainedTest

end Sys2Proof.Machine
end

