-- ==== Sys2Proof/Machine/Sequences.lean ====
section
/-! DEFINITION. The resync sequences (chapter 11) and the position event as a whole (R30). -/

namespace Sys2Proof.Machine

/-- State codes of SQ_STATUS (section 11.1). -/
def SeqState.code : SeqState → Nat
  | .idle => 0
  | .quiescing => 1
  | .signalling => 2
  | .recovering => 3

/-- The slot of a sequence's reset frame (R139). -/
def seqSlot : SeqId → SlotId
  | .station => .stationReset
  | .full => .fullReset

/-- A sequence's bit in SQ_DEMAND (R159). -/
def State.seqDemand (s : State) : SeqId → Bool
  | .station => s.sq.demandSr
  | .full => s.sq.demandFr

/-- A sequence's bit in SQ_DEMAND replaced. -/
def State.setSeqDemand (s : State) (i : SeqId) (b : Bool) : State :=
  match i with
  | .station => { s with sq := { s.sq with demandSr := b } }
  | .full => { s with sq := { s.sq with demandFr := b } }

/-- A sequence entering a state, its position count 0 (section 11.1). -/
def State.enterSeq (s : State) (i : SeqId) (x : SeqState) : State := s.setSeq i { state := x, count := 0 }

/-- Every model of a mask has occupancy 0 (R162). -/
def State.modelsEmpty (s : State) (mask : BitVec 4) : Bool :=
  allGroups.all fun g => !inMask mask g || (s.model g).occ == 0

/-- A Quiescing sequence is quiet (R162). -/
def State.seqQuiet (s : State) (i : SeqId) : Bool :=
  decide (s.seqQuiesce i ≤ (s.seq i).count) &&
    match i with
    | .station => s.modelsEmpty s.srGroups
    | .full => s.sl.tagQ.isEmpty && s.sl.routeQ.isEmpty && s.modelsEmpty 0xF#4

/-- A sequence enters Signalling and requests its slot (R163). -/
def State.enterSignalling (s : State) (i : SeqId) : State := (s.enterSeq i .signalling).requestSlot (seqSlot i)

/-- The judgement of a Quiescing sequence (R162). -/
def State.judgeQuiesce (s : State) (i : SeqId) : State :=
  if s.seqQuiet i then s.enterSignalling i
  else if s.seqQuiesce i + s.seqExtra i ≤ (s.seq i).count then (s.bump .forcedResync).enterSignalling i
  else s

/-- The judgement of a Recovering sequence (R164). -/
def State.judgeRecover (s : State) (i : SeqId) : State :=
  if s.seqRecover i ≤ (s.seq i).count then s.enterSeq i .idle else s

/-- A sequence's position count moved on (section 11.1). -/
def State.countSeq (s : State) (i : SeqId) : State :=
  s.setSeq i { s.seq i with count := min 131071 ((s.seq i).count + 1) }

/-- A sequence's work at step 5 (R162 to R164). -/
def State.seqWork (s : State) (i : SeqId) : State :=
  let s := s.countSeq i
  match (s.seq i).state with
  | .idle => s
  | .quiescing => s.judgeQuiesce i
  | .signalling => s
  | .recovering => s.judgeRecover i

/-- The periodic Station Resync request (R159). -/
def State.periodicResync (s : State) : State :=
  let p := s.fieldOf .sqSrPeriod 0 16
  if p ≠ 0 ∧ s.lp.cycleIndex = s.seqStart .station ∧ s.lp.cycleNumber.toNat % p = 0 then
    s.setSeqDemand .station true
  else s

/-- The run state lets a sequence start (R160, R165). -/
def State.seqsMayStart (s : State) : Bool := s.rc.state == .halted || s.rc.state == .running

/-- The preemption of an active Station Resync (R161). -/
def State.preempt (s : State) : State :=
  if s.sq.sr.state = .idle then s
  else ((s.enterSeq .station .idle).bump .srPreempted).forceWithdraw .stationReset

/-- The start conditions of the Full Resync (R160, test 1). -/
def State.fullStarts (s : State) : Bool :=
  s.sq.demandFr && s.sq.fr.state == .idle && s.lp.cycleIndex == s.seqStart .full && s.seqsMayStart

/-- The start conditions of the Station Resync (R160, test 2). -/
def State.stationStarts (s : State) : Bool :=
  s.sq.demandSr && s.sq.sr.state == .idle && s.sq.fr.state == .idle && s.lp.cycleIndex == s.seqStart .station &&
    s.seqsMayStart

/-- The reaction of the reference generators to a sequence leaving Idle (R47). -/
def State.refsOnSequence (s : State) : State := allRefs.foldl State.refOnSequence s

/-- A Full Resync starts (R160, R161). -/
def State.startFull (s : State) : State :=
  (((s.setSeqDemand .full false).preempt.enterSeq .full .quiescing).bump .frStarts).refsOnSequence

/-- A Station Resync starts (R160). -/
def State.startStation (s : State) : State :=
  (((s.setSeqDemand .station false).enterSeq .station .quiescing).bump .srStarts).refsOnSequence

/-- The start tests (R160). -/
def State.seqStarts (s : State) : State :=
  let s := if s.fullStarts then s.startFull else s
  if s.stationStarts then s.startStation else s

/-- Step 5 (R30): the slot pass, the sequences, the due reference captures. -/
def State.stepFive (s : State) : State :=
  let s := (s.slotPass.seqWork .station).seqWork .full
  allRefs.foldl State.refMark s.periodicResync.seqStarts

/-- A Full Resync entered Quiescing at the event in progress (R162): its count is still 0. -/
def State.flushDue (s : State) : Bool := s.sq.fr.state == .quiescing && s.sq.fr.count == 0

/-- The position event from step 3 on; `start` says that it is a cycle start (R30). -/
def State.stepsFromThree (s : State) (start : Bool) : State :=
  let s := s.stepThree.stepFour.stepFive.stepSix start
  s.stepSeven.stepEight s.activeHolds s.globalHold (s.proposal.isSome && !s.globalHold) s.flushDue

/-- The position event of a position taken from the accumulator (R30), the pins being as `State.pins` holds them. -/
def State.positionEvent (s : State) : State :=
  let wrapped := s.wraps
  let s := ({ s with
    lp := { s.lp with acc := s.lp.acc - 1 }
    clk := { s.clk with sincePosition := 0 } }).stepOne.stepTwo wrapped
  s.stepsFromThree (wrapped || s.lp.cycleIndex == 0)

/-- An accepted Abort's part in the sequences (R165). -/
def State.abortSeq (s : State) (i : SeqId) : State :=
  if (s.seq i).state = .idle then s else (s.enterSeq i .idle).bump .resyncAborted

end Sys2Proof.Machine
end

