-- ==== Sys2Proof/Machine/Verdicts.lean ====
section
/-! DEFINITION. Matching verdict records against the ledger and the retired window (sections 5.8 and 5.9), and the
acceptance of a packet (R103, R104). -/

namespace Sys2Proof.Machine

/-- The oldest Awaiting entry (R77). -/
def State.oldestAwaiting (s : State) : Option Entry := s.lg.entries.find? Entry.awaiting

/-- A verdict code as an outcome (R104). -/
def verdictOf (code : BitVec 4) : Option Disposition :=
  if code = 1#4 then some .pass else if code = 2#4 then some .reject else if code = 3#4 then some .divert else none

/-- The entry names an identity; an Uncaptured entry names none (R82). -/
def Entry.named (id : Ident) (e : Entry) : Bool := e.ident == some id

/-- LateConflict (R86). -/
def lateConflict (applied code : Disposition) : Bool := decide (applied ≠ .none) && decide (applied ≠ code)

/-- The log record of a Late record (R121). -/
def State.lateRecord (s : State) (id : Ident) (code : Disposition) (detail : Byte) (outOfOrder conflict : Bool) :
    LogRecord :=
  logWords
    { outcome := code, source := .lateVerdict, cls := 0, uncaptured := false, item := false, audit := false,
      outOfOrder := outOfOrder, conflict := conflict, ident := some id, mask := 0#4, detail := detail,
      travel := s.lp.travel, cycleLow := s.lp.cycleNumber.extractLsb' 0 8, lane := 0#8 }

/-- A Matched record (R83). -/
def State.storeVerdict (s : State) (id : Ident) (v : Verdict) : State :=
  ({ s with lg := { s.lg with
      entries := updateFirst (Entry.named id) (fun e => { e with verdict := some v }) s.lg.entries } }).bump .matched

/-- A Duplicate record (R84). -/
def State.duplicate (s : State) (stored code : Disposition) : State :=
  let s := s.bump .duplicate
  if stored = code then s else (s.bump .duplicateConflict).raise .verdictAnomaly

/-- A Late record (R86). -/
def State.lateVerdict (s : State) (id : Ident) (applied code : Disposition) (detail : Byte) (ooo : Bool) : State :=
  ((s.bump .lateVerdicts).raise .lateVerdict).appendLog
    (s.lateRecord id code detail ooo (lateConflict applied code))

/-- The classification of a record (R82). -/
def State.classify (s : State) (id : Ident) (code : Disposition) (detail : Byte) (ooo : Bool) : State :=
  match s.lg.entries.find? (Entry.named id) with
  | some e =>
    if e.expects then
      match e.verdict with
      | none => s.storeVerdict id { code := code, detail := detail, outOfOrder := ooo }
      | some v => s.duplicate v.code code
    else (s.bump .unsolicited).raise .verdictAnomaly
  | none =>
    match s.lg.window.find? (fun r => r.ident == id) with
    | some r => s.lateVerdict id r.outcome code detail ooo
    | none => (s.bump .unknownVerdicts).raise .unknownVerdict

/-- The record names the oldest Awaiting entry (R88). -/
def State.inSequence (s : State) (id : Ident) : Bool :=
  match s.oldestAwaiting with
  | some e => e.named id
  | none => false

/-- A record with a valid code (R82, R88). -/
def State.matchRecord (s : State) (id : Ident) (code : Disposition) (detail : Byte) : State :=
  if s.ordered = true ∧ s.inSequence id = false then
    let s := (s.bump .sequenceError).raise .verdictAnomaly
    if s.seqKeep then s.classify id code detail true else s
  else s.classify id code detail false

/-- One record of an accepted packet (R104). -/
def State.applyRecord (s : State) (r : VerdictRecord) : State :=
  match verdictOf r.code with
  | some code => s.matchRecord { epoch := r.epoch, itemId := r.itemId } code r.detail
  | none => (s.bump .invalidRecord).raise .verdictAnomaly

/-- The sequence check (R103): the packet follows a sequence gap. -/
def State.seqGap (s : State) (seqNo : Byte) : Bool := s.vc.seqValid && decide (seqNo ≠ s.vc.lastSeq + 1#8)

/-- VC_LAST_ERROR written (R102). -/
def State.setLastError (s : State) (code : Nat) : State := { s with vc := { s.vc with lastError := code } }

/-- The sequence check and the sequence reference (R103). -/
def State.checkSequence (s : State) (seqNo : Byte) : State :=
  let s := if s.seqGap seqNo then ((s.bump .sequenceGap).raise .packetError).setLastError 6 else s
  ({ s with vc := { s.vc with lastSeq := seqNo, seqValid := true } }).bump .packetsAccepted

/-- The silence watchdog after the last record of an accepted packet (R109). -/
def State.restartSilence (s : State) : State :=
  let s := { s with vc := { s.vc with silent := false } }
  { s with vc := { s.vc with silence := if s.silenceRuns then some 0 else none } }

/-- A good packet accepted and applied (R103, R104). -/
def State.acceptPacket (s : State) (seqNo : Byte) (records : List VerdictRecord) : State :=
  (records.foldl State.applyRecord (s.checkSequence seqNo)).restartSilence

end Sys2Proof.Machine
end

