-- ==== Sys2Proof/Machine/VerdictChannel.lean ====
section
/-! DEFINITION. The Verdict Channel (chapter 6): reception, the receive FIFO, the parser, flow control. -/

namespace Sys2Proof.Machine

/-! ### Flow control (section 6.7) -/

/-- A flow control character starts on VC_TX (R106), at the bit time that VC_DIVISOR gives at this instant. DESIGN
CHOICE, unsafe (log 36): a VC_DIVISOR accepted while the character is sent leaves it as it is, and one accepted while
the receiver has a character under way gives its bit time to a character that starts on VC_TX before the receiver's
next start edge too. -/
def State.startTx (s : State) (c : FlowChar) : State :=
  let tx : TxChar := { char := c, data := s.flowData c, bitTime := s.vcBitTime, left := 11 * s.vcBitTime }
  let t := { s with vc := { s.vc with tx := some tx } }
  match c with
  | .pause => t.bump .pauseSent
  | .resume => t.bump .resumeSent

/-- A flow control character requested (R106). -/
def State.requestTx (s : State) (c : FlowChar) : State :=
  match s.vc.tx with
  | none => s.startTx c
  | some _ => { s with vc := { s.vc with waiting := some c } }

/-- The character on VC_TX completes, and a waiting one starts (R106). -/
def State.completeTx (s : State) : State :=
  match s.vc.tx with
  | none => s
  | some _ =>
    match s.vc.waiting with
    | none => { s with vc := { s.vc with tx := none } }
    | some c => ({ s with vc := { s.vc with tx := none, waiting := none } }).startTx c

/-- Pause mode evaluated on the fill (R105). -/
def State.evalPause (s : State) : State :=
  if s.swFlow then
    if s.vc.flowPaused then
      (if s.vc.fifo.length ≤ s.lowerLevel then
        ({ s with vc := { s.vc with flowPaused := false } }).requestTx .resume
      else s)
    else if s.upperLevel < s.vc.fifo.length then
      ({ s with vc := { s.vc with flowPaused := true, resend := 0 } }).requestTx .pause
    else s
  else s

/-- Stall mode evaluated on the fill (R107). -/
def State.evalStall (s : State) : State :=
  if s.hwFlow then
    if s.vc.stall then
      (if s.vc.fifo.length ≤ s.lowerLevel then { s with vc := { s.vc with stall := false } } else s)
    else if s.upperLevel < s.vc.fifo.length then { s with vc := { s.vc with stall := true } }
    else s
  else s

/-- Flow control evaluated on the fill (R105, R107). -/
def State.evalFlow (s : State) : State := s.evalPause.evalStall

/-- A character completed on the line counts toward a re-send while Paused (R105). -/
def State.countResend (s : State) : State :=
  if s.vc.flowPaused then
    if s.resendK ≤ s.vc.resend + 1 then ({ s with vc := { s.vc with resend := 0 } }).requestTx .pause
    else { s with vc := { s.vc with resend := s.vc.resend + 1 } }
  else s

/-- Clearing SW_FLOW (R105). -/
def State.endPause (s : State) : State :=
  if s.vc.flowPaused then ({ s with vc := { s.vc with flowPaused := false } }).requestTx .resume else s

/-- Clearing HW_FLOW (R107). -/
def State.endStall (s : State) : State := { s with vc := { s.vc with stall := false } }

/-! ### The parser (sections 6.4 and 6.5) -/

/-- A packet discarded with a reason (R102); the parser returns to Hunting. -/
def State.discardPacket (s : State) (reason : Nat) : State :=
  ((({ s with vc := { s.vc with parser := Parser.cleared } }).bump .packetErrors).raise .packetError).setLastError
    reason

/-- A packet discarded by the host (R94, R108). -/
def State.dropPacket (s : State) : State :=
  if s.vc.parser.phase = .hunting then s
  else ({ s with vc := { s.vc with parser := Parser.cleared } }).bump .packetsCleared

/-- An entry taken in Hunting (R96). -/
def State.hunt (s : State) (e : FifoEntry) : State :=
  if e.marker then
    if e.data = s.vcAddr ∨ e.data = 255#8 then
      let p : Parser := { phase := .header, seqNo := none, count := 0, chars := [], sum := e.data, poisoned := e.error }
      { s with vc := { s.vc with parser := p } }
    else s.bump .foreignPackets
  else s.bump .huntSkipped

/-- The records of a packet buffer (R95). -/
def decodeRecords : List Byte → List VerdictRecord
  | a :: b :: c :: d :: e :: rest =>
    { epoch := a.extractLsb' 4 4, itemId := a.extractLsb' 0 4 ++ b ++ c ++ d.extractLsb' 4 4,
      code := d.extractLsb' 0 4, detail := e } :: decodeRecords rest
  | _ => []

/-- A character taken in Header (R97); `p` is the parser with the character in its sum. -/
def State.takeHeader (s : State) (p : Parser) (data : Byte) : State :=
  match p.seqNo with
  | none => { s with vc := { s.vc with parser := { p with seqNo := some data } } }
  | some _ =>
    if data.toNat = 0 ∨ 16 < data.toNat then s.discardPacket 3
    else { s with vc := { s.vc with parser := { p with phase := .records, count := data.toNat } } }

/-- A character taken in Records (R98). -/
def State.takeRecord (s : State) (p : Parser) (data : Byte) : State :=
  let chars := p.chars ++ [data]
  let q : Parser := { p with chars := chars, phase := if 5 * p.count ≤ chars.length then .check else .records }
  { s with vc := { s.vc with parser := q } }

/-- The check character taken (R98). -/
def State.takeCheck (s : State) (p : Parser) : State :=
  if p.poisoned then s.discardPacket 4
  else if p.sum ≠ 0#8 then s.discardPacket 5
  else
    ({ s with vc := { s.vc with parser := Parser.cleared } }).acceptPacket (p.seqNo.getD 0#8) (decodeRecords p.chars)

/-- A character that belongs to the packet in progress (R97, R98, R101). -/
def State.collect (s : State) (e : FifoEntry) : State :=
  let p : Parser := { s.vc.parser with sum := s.vc.parser.sum + e.data, poisoned := s.vc.parser.poisoned || e.error }
  match p.phase with
  | .hunting => s
  | .header => s.takeHeader p e.data
  | .records => s.takeRecord p e.data
  | .check => s.takeCheck p

/-- An entry taken by the parser (R96 to R100). -/
def State.parse (s : State) (e : FifoEntry) : State :=
  if s.vc.parser.phase = .hunting then s.hunt e
  else if e.gap then (s.discardPacket 2).hunt e
  else if e.marker then (s.discardPacket 1).hunt e
  else s.collect e

/-- The FIFO's head leaves for the parser: a read word of VC_RAW in progress no longer has it to remove (R2, R94). -/
def State.dropRawElement (s : State) : State :=
  match s.port.txn with
  | none => s
  | some t =>
    if t.read = true ∧ t.addr = Reg.vcRaw.address then
      let u : Transaction := { t with word := t.word.map fun w => { w with element := false } }
      { s with port := { s.port with txn := some u } }
    else s

/-- The parser takes the head entry, if it is not suspended and there is one (R93, items 3 and 4). -/
def State.parserTake (s : State) : State :=
  if s.suspended then s
  else
    match s.vc.fifo with
    | [] => s
    | e :: rest => (({ s with vc := { s.vc with fifo := rest } }).dropRawElement).parse e

/-! ### Reception (sections 6.2 and 6.3) -/

/-- The gap flag of a character whose start edge falls at this instant, `more` periods of idle time being added to the
measure (R91). -/
def State.gapFlag (s : State) (more : Nat) : Bool := decide (s.gapLimit < s.vc.idle + more)

/-- The gap flag of the character that a VC_CHARACTER completes: the one its start edge took if the receiver has it under
way, and otherwise that of a start edge at this instant (log 12). -/
def State.commandGap (s : State) (idle : Nat) : Bool :=
  match s.vc.rx.char with
  | some c => c.gap
  | none => s.gapFlag idle

/-- A character with its gap flag enters the FIFO, or is lost (R90 to R92). -/
def State.receive (s : State) (c : LineChar) (gap : Bool) : State :=
  let s := { s with vc := { s.vc with idle := 0 } }
  let s := if c.stop then s else s.bump .framingErrors
  let s :=
    if s.vc.fifo.length < Config.fifo then
      let e : FifoEntry := { data := c.data, marker := c.marker, error := !c.stop, gap := gap }
      { s with vc := { s.vc with fifo := s.vc.fifo ++ [e] } }
    else (s.bump .rxOverrun).raise .rxOverrun
  s.countResend

/-- The receiver of VC_RX at an edge (R90, R91), with the character it completes (R93, item 1). -/
def State.vcReceive (s : State) : State :=
  let (rx, done) := s.vc.rx.edge s.lines.vcRx s.vcBitTime (s.gapFlag 0)
  let s := { s with vc := { s.vc with rx := rx } }
  match done with
  | none => s
  | some (c, gap) => s.receive c gap

/-- The parser is in a packet on a silent line: not suspended, with an empty FIFO and no character under way (R100). A
start edge counts as a character under way from its own edge on, before it is confirmed too (log 43). -/
def State.gapWatched (s : State) : Bool :=
  !s.suspended && s.vc.fifo.isEmpty && decide (s.vc.parser.phase ≠ .hunting) && s.vc.rx.char.isNone

/-- The parser's gap check (R93, item 2; R100), with the gap limit as VC_DIVISOR stands (log 49). -/
def State.gapCheck (s : State) : State :=
  if s.gapWatched = true ∧ s.gapLimit < s.vc.idle then s.discardPacket 2 else s

/-- The channel's work at an edge at which the named character completes, the receiver then being idle (R90, R93). The
gap check of item 2 finds the FIFO not empty. -/
def State.characterEdge (s : State) (c : LineChar) (idle : Nat) : State :=
  let gap := s.commandGap idle
  (({ s with vc := { s.vc with rx := Receiver.rested c.stop } }).receive c gap).parserTake.evalFlow

/-- The line has been silent for longer than the gap limit (R100): the idle measure stands beyond it, and the packet is
truncated. -/
def State.truncate (s : State) : State :=
  ({ s with vc := { s.vc with idle := max s.vc.idle (s.gapLimit + 1) } }).discardPacket 2

/-- ClearRx (R108). -/
def State.clearRx (s : State) : State :=
  let s := ({ s with vc := { s.vc with fifo := [] } }).bumpBy .rxDiscarded s.vc.fifo.length
  let s := s.dropPacket
  ({ s with vc := { s.vc with idle := 0 } }).evalFlow

/-- A change of RAW (R94). -/
def State.changeRaw (s : State) (before : Bool) : State :=
  if s.rawMode = true ∧ before = false then s.dropPacket else s

end Sys2Proof.Machine
end

