-- ==== Sys2Proof/Machine/StationLink.lean ====
section
/-! DEFINITION. The Station Link and the choice of the next frame (chapters 8 and 9). -/

namespace Sys2Proof.Machine

/-! ### Frame starts (R124, R143, R147) -/

/-- Reference clock periods from a frame start to its frame end (R124). -/
def State.frameTime (s : State) (f : Frame) : Nat :=
  (11 * (f.payload.length + 2) + s.deLead + s.deLag) * s.linkBitTime

/-- A frame starts on the link (R124, R129, R146), its receiver held idle (R125); the drained test follows (R169). -/
def State.startFrame (s : State) (f : Frame) : State :=
  (({ s with sl := { s.sl with
      rx := Receiver.fresh
      link := .sending
      left := s.frameTime f
      bitTime := s.linkBitTime
      lead := s.deLead
      lag := s.deLag
      frame := some f } }).bump (.framesSent f.kind.toNat)).drainedTest

/-- The item numbering restarts in a new epoch (R65), serving a pending Count Restart (R147, R149). -/
def State.restartCount (s : State) : State :=
  { s with
    ad := { s.ad with nextId := 0#24, epoch := s.ad.epoch + 1#4 }
    rc := { s.rc with countRestart := false } }

/-- A sequence in Signalling moves to Recovering at the start of its reset frame (R163). -/
def State.recoverFrom (s : State) (i : SeqId) : State :=
  if (s.seq i).state = .signalling then s.enterSeq i .recovering else s

/-- The Cycle Mark frame of this instant (R128, R148). -/
def State.markFrame (s : State) (restart : Bool) : Frame :=
  { kind := 1#4, addr := 0#4,
    payload := [s.lp.cycleNumber.extractLsb' 0 8,
      BitVec.ofBool restart ++ s.ad.epoch ++ 0#1 ++ BitVec.ofNat 2 s.rc.state.code] }

/-- A Cycle Mark frame starts (R143, R147 to R149). -/
def State.startMark (s : State) : State :=
  let restart := s.rc.countRestart
  let s := if restart then s.restartCount else s
  s.startFrame (s.markFrame restart)

/-- A Full Reset frame starts (R147, R163). -/
def State.startFullReset (s : State) : State :=
  let s := s.restartCount.clearModels 0xF#4
  let s := ({ s with lg := { s.lg with window := [] } }).recoverFrom .full
  s.startFrame { kind := 2#4, addr := 0#4, payload := [0#4 ++ s.ad.epoch, 0#8] }

/-- A Station Reset frame starts (R147, R163). -/
def State.startStationReset (s : State) : State :=
  let s := { s with sq := { s.sq with srCount := s.sq.srCount + 1#16 } }
  let s := (s.clearModels s.srGroups).recoverFrom .station
  s.startFrame { kind := 3#4, addr := 0#4, payload := [0#4 ++ s.srGroups, s.sq.srCount.extractLsb' 0 8] }

/-- The effect of a Reference Prepare frame start on its generator (R46, R47). -/
def State.prepare (s : State) (g : RefGen) : State :=
  if (s.ref g).state = .requested then
    if (s.ref g).cancelled = true ∨ s.seqActive = true then s.refCancel g
    else s.setRef g
      { state := .pending, capture := s.lp.travel + BitVec.ofNat 32 (s.refDelay g), due := false, cancelled := false }
  else s

/-- A Reference Prepare frame starts (R46, R147). -/
def State.startPrepare (s : State) (g : RefGen) : State :=
  let s := s.prepare g
  s.startFrame { kind := 4#4, addr := 0#4, payload := [BitVec.ofNat 8 (refBit g + 1), s.refCode g] }

/-- A User Command frame starts (R128, R143). -/
def State.startUser (s : State) : State :=
  let s := { s with sl := { s.sl with userRequest := false } }
  let w := s.reg .slUserWord
  s.startFrame { kind := 5#4, addr := w.extractLsb' 16 4, payload := [w.extractLsb' 8 8, w.extractLsb' 0 8] }

/-- A slot that starts its frame is Sending, its REPEAT and its request clear (R143). -/
def State.sendSlot (s : State) (i : SlotId) : State :=
  s.setSlot i { state := .sending, again := false, rerequest := false, openingPassed := false, anchorPassed := false,
                waits := false }

/-- A Due slot's frame starts (R143). -/
def State.startSlot (s : State) (i : SlotId) : State :=
  let s := s.sendSlot i
  match i with
  | .cycleMark => s.startMark
  | .fullReset => s.startFullReset
  | .stationReset => s.startStationReset
  | .refA => s.startPrepare .a
  | .refB => s.startPrepare .b
  | .refC => s.startPrepare .c
  | .user => s.startUser

/-! ### Polls (R132, R133) -/

/-- An address 1 to 15 is eligible for a poll on a turn (R133). -/
def State.pollable (s : State) (turn addr : Nat) : Bool :=
  match (s.station (addr - 1)).state with
  | .disabled => false
  | .absent => turn == 0
  | .unknown => true
  | .present => true
  | .suspect => true

/-- The search of R133: the address selected and the turn at which it was examined. -/
def State.pollSearch (s : State) : Option (Nat × Nat) :=
  let last := s.sl.lastPolled
  let next := (s.sl.turn + 1) % 16
  match ((List.range (15 - last)).map (· + last + 1)).find? (s.pollable s.sl.turn) with
  | some a => some (a, s.sl.turn)
  | none =>
    (((List.range last).map (· + 1)).find? (s.pollable next)).map fun a => (a, next)

/-- The Poll source taken (R133). -/
def State.takePoll (s : State) : State :=
  let s := { s with sl := { s.sl with pollDue := false } }
  match s.pollSearch with
  | none => { s with sl := { s.sl with turn := (s.sl.turn + 1) % 16, pollTimer := some s.pollUs } }
  | some (a, turn) =>
    let seqNo := s.sl.pollSeq
    let s := ({ s with sl := { s.sl with
      lastPolled := a
      turn := turn
      polled := a
      pollSent := seqNo
      pollSeq := seqNo + 1#8
      discard := false
      reply := [] } }).bump .polls
    s.startFrame { kind := 9#4, addr := BitVec.ofNat 4 a, payload := [seqNo, 0#8] }

/-! ### The selection (R146) -/

/-- A slot is Due and waits for no new anchor (R139, log 30). -/
def State.dueNow (s : State) (i : SlotId) : Bool := (s.slot i).state == .due && !(s.slot i).waits

/-- What stands startable in a state, for a selection at a later edge (R146). -/
def State.startableNow (s : State) : Startable :=
  { slots := allSlots.filter s.dueNow, route := !s.sl.routeQ.isEmpty, tag := !s.sl.tagQ.isEmpty,
    notice := !s.sl.noticeQ.isEmpty }

/-- This edge is over: what stands startable now was made so at an earlier edge than that of the next selection (R146,
log 29). -/
def State.closeEdge (s : State) : State := { s with sl := { s.sl with earlier := s.startableNow, place := .late } }

/-- The rank of a place in the order of an edge (R32). -/
def Place.rank : Place → Nat
  | .position => 0
  | .step => 0
  | .encoder => 1
  | .index => 2
  | .sense => 3
  | .generator => 4
  | .txEnd => 5
  | .parse => 6
  | .accept => 7
  | .linkChar => 8
  | .linkEnd => 9
  | .selection => 10
  | .late => 11

/-- A row of place `p` can stand at the edge of the row before it, whose place is `last`: it comes after it in the order
of R32. At one edge there are steps of one position event, but one POSITION_EVENT (R21), and any number of late rows. -/
def Place.follows (p last : Place) : Bool :=
  match p with
  | .late => true
  | .position => false
  | .step => last.rank == 0
  | p => decide (last.rank < p.rank)

/-- A row of place `p` arrives (log 29): a row that cannot stand at the edge of the row before it stands at a later one,
so the edge before is over. -/
def State.arrive (s : State) (p : Place) : State :=
  let s := if p.follows s.sl.place then s else s.closeEdge
  { s with sl := { s.sl with place := p } }

/-- The first free frame that may start: route, tag, notice, poll (R146, lines 3 to 7); `old` says which queues hold an
entry that joined at an earlier edge. -/
def State.startFree (s : State) (old : Startable) : State :=
  match s.sl.routeQ, old.route with
  | m :: rest, true =>
    ({ s with sl := { s.sl with routeQ := rest } }).startFrame { kind := 6#4, addr := 0#4, payload := m }
  | _, _ =>
    match s.sl.tagQ, old.tag with
    | m :: rest, true =>
      ({ s with sl := { s.sl with tagQ := rest } }).startFrame { kind := 7#4, addr := 0#4, payload := m }
    | _, _ =>
      match s.sl.noticeQ, old.notice with
      | m :: rest, true =>
        ({ s with sl := { s.sl with noticeQ := rest } }).startFrame { kind := 8#4, addr := 0#4, payload := m }
      | _, _ => if s.sl.pollDue then s.takePoll else s

/-- The slot is Due and became Due at an earlier edge (R146, line 1). A slot that was Due when its anchor, SL_GUARD or P
changed does not start before its new anchor: R139 has it wait, where R143 would start it at once (log 30). -/
def State.startable (s : State) (old : Startable) (i : SlotId) : Bool := s.dueNow i && old.slots.contains i

/-- The slot blocks free frames (R146, line 2). -/
def State.guards (s : State) (i : SlotId) : Bool := (s.slot i).state == .guarding || (s.slot i).state == .due

/-- The selection (R146); `old` is what stood startable at an earlier edge. -/
def State.select (s : State) (old : Startable) : State :=
  if s.sl.link = .idle ∧ s.linkEnabled = true then
    match allSlots.find? (s.startable old) with
    | some i => s.startSlot i
    | none => if allSlots.any s.guards then s else s.startFree old
  else s

/-! ### Frame ends and Spacing (R124, R129) -/

/-- The link enters Spacing for one character time of the timing in force (R129, log 16). -/
def State.enterSpacing (s : State) : State :=
  { s with sl := { s.sl with link := .spacing, left := 11 * s.sl.bitTime } }

/-- The frame in progress is a Poll. -/
def State.sendingPoll (s : State) : Bool :=
  match s.sl.frame with
  | some f => f.kind == 9#4
  | none => false

/-- A frame end (R124, R129, R143): the receiver resumes with a fresh sample of LINK_RX (R125), and after a Poll the reply
window opens, SL_REPLY_CT being read here (R134). -/
def State.endFrame (s : State) : State :=
  let poll := s.sendingPoll
  let s := allSlots.foldl State.endSlotFrame
    { s with sl := { s.sl with frame := none, rx := Receiver.rested s.lines.linkRx } }
  if poll then
    { s with sl := { s.sl with link := .reply, left := s.replyChars * 11 * s.sl.bitTime, reply := [] } }
  else s.enterSpacing

/-- The end of Spacing (R129). -/
def State.endSpacing (s : State) : State := { s with sl := { s.sl with link := .idle, left := 0 } }

/-! ### The poll transaction (R131, R134, R135) -/

/-- The end of a poll transaction (R134): Spacing, and the poll timer (R132). -/
def State.endTransaction (s : State) : State :=
  ({ s with sl := { s.sl with
      reply := []
      discard := false
      pollTimer := if s.linkEnabled then some s.pollUs else s.sl.pollTimer } }).enterSpacing

/-- The index of the polled station's entry. -/
def State.polledIndex (s : State) : Nat := s.sl.polled - 1

/-- A station's state after a miss (R131); `misses` after the increment. -/
def missState (retry misses : Nat) : StationState → StationState
  | .disabled => .disabled
  | .unknown => if retry + 1 ≤ misses then .absent else .unknown
  | .present => if retry = 0 then .absent else .suspect
  | .suspect => if retry + 1 ≤ misses then .absent else .suspect
  | .absent => .absent

/-- What a miss raises or counts when the station becomes Absent (R131). -/
def State.noteLoss (s : State) (before after : StationState) : State :=
  if after = .absent then
    match before with
    | .unknown => s.bump .unknownToAbsent
    | .present => s.raiseFault .stationLost
    | .suspect => s.raiseFault .stationLost
    | .absent => s
    | .disabled => s
  else s

/-- A miss charged to the polled station (R131, R134). -/
def State.chargeMiss (s : State) : State :=
  let x := s.station s.polledIndex
  let misses := min 15 (x.misses + 1)
  let after := missState s.retry misses x.state
  (((s.setStation s.polledIndex { x with state := after, misses := misses }).bump .misses).noteLoss x.state after)

/-- SL_STATUS.MISS_REASON written (R134). -/
def State.setMissReason (s : State) (reason : Nat) : State := { s with sl := { s.sl with missReason := reason } }

/-- A poll transaction that ends with a miss, unless its outcome is discarded (R130, R134). -/
def State.endWithMiss (s : State) (reason : Nat) : State :=
  (if s.sl.discard then s else (s.setMissReason reason).chargeMiss).endTransaction

/-- A good reply (R131, R135). -/
def State.creditReply (s : State) (payload : Byte) : State :=
  let x := s.station s.polledIndex
  let y : Station :=
    { x with
      state := .present
      misses := 0
      busy := payload.extractLsb' 6 2
      faults := payload.extractLsb' 0 6
      replies := x.replies + 1#8 }
  let s := (s.setStation s.polledIndex y).bump .linkReplies
  if x.state = .absent then s.raise .stationFound else s

/-- The reason for which a reply of four characters is a miss (R135), or `none` for a good reply. -/
def replyFault (polled : Nat) (sent : Byte) (h a b c : LineChar) : Option Nat :=
  if h.marker = false ∨ h.stop = false ∨ h.data.extractLsb' 4 4 ≠ 10#4 then some 3
  else if (h.data.extractLsb' 0 4 : BitVec 4).toNat ≠ polled then some 4
  else if ([a, b, c].any fun x => x.marker || !x.stop) = true then some 5
  else if byteSum [h.data, a.data, b.data, c.data] ≠ 0#8 then some 6
  else if b.data ≠ sent then some 7
  else none

/-- The judgement of a reply at its fourth character (R135). -/
def State.judgeReply (s : State) (h a b c : LineChar) : State :=
  if s.sl.discard then s.endTransaction
  else
    match replyFault s.sl.polled s.sl.pollSent h a b c with
    | none => (s.creditReply a.data).endTransaction
    | some r => (if r = 4 then s.bump .linkCollision else s).endWithMiss r

/-- A character completed out of turn (R136). -/
def State.unsolicited (s : State) : State := (s.bump .unsolicitedChars).raise .linkAnomaly

/-- A character of a reply (R134): one of the first three starts the time for the next one, the fourth is judged. -/
def State.replyTake (s : State) (c : LineChar) : State :=
  match s.sl.reply with
  | h :: a :: b :: _ => s.judgeReply h a b c
  | l => { s with sl := { s.sl with reply := l ++ [c], left := 11 * s.sl.bitTime } }

/-- A character completed on LINK_RX (R134 to R136): while the part sends, none is received (R125). -/
def State.linkTake (s : State) (c : LineChar) : State :=
  match s.sl.link with
  | .sending => s
  | .reply => s.replyTake c
  | .idle => s.unsolicited
  | .spacing => s.unsolicited

/-- The named character completes on LINK_RX, the receiver then being idle (R90, R125). -/
def State.linkCharacter (s : State) (c : LineChar) : State :=
  if s.sl.link = .sending then s else ({ s with sl := { s.sl with rx := Receiver.rested c.stop } }).linkTake c

/-- The reply window, or the time for the next character of a reply, may run out (R134): the link is in Reply and no
character is under way. -/
def State.replyAwaited (s : State) : Bool := s.sl.link == .reply && s.sl.rx.char.isNone

/-- The poll transaction ends when the time for a start edge runs out (R134, items 2 and 3). -/
def State.replyExpiry (s : State) : State :=
  if s.replyAwaited = true ∧ s.sl.left = 0 then s.endWithMiss (if s.sl.reply.isEmpty then 1 else 2) else s

/-- The receiver of LINK_RX at an edge, with the character it completes and the end of a poll transaction (R125, R134;
R146, item 1). -/
def State.linkReceive (s : State) : State :=
  if s.sl.link = .sending then s
  else
    let (rx, done) := s.sl.rx.edge s.lines.linkRx s.sl.bitTime false
    let s := { s with sl := { s.sl with rx := rx } }
    match done with
    | some (c, _) => s.linkTake c
    | none => s.replyExpiry

/-- The poll timer's expiry (R132). -/
def State.expirePoll (s : State) : State := { s with sl := { s.sl with pollDue := true, pollTimer := none } }

/-! ### Abort (R150) -/

/-- The scheduler's part of an accepted Abort (R150); the generators have reacted (R47). -/
def State.abortLink (s : State) : State :=
  let n := s.sl.tagQ.length + s.sl.noticeQ.length
  let s := ({ s with sl := { s.sl with tagQ := [], noticeQ := [], userRequest := false } }).bumpBy .linkDiscards n
  ((((((s.forceWithdraw .fullReset).forceWithdraw .stationReset).forceWithdraw .refA).forceWithdraw .refB).forceWithdraw
    .refC).forceWithdraw .user)

end Sys2Proof.Machine
end

