-- ==== Sys2Proof/Machine/RunControl.lean ====
section
/-! DEFINITION. The run commands (section 12.2 and 12.3), the actions of RC_ACTION, the counter clears and the two
resets. -/

namespace Sys2Proof.Machine

/-! ### Command results (R167) -/

/-- Why a command is refused (R167): REASON and FIELD. -/
inductive CommandRefusal where
  | wrongState
  | badConfig (field : Nat)
  | ledgerNotEmpty
  | multipleCommands
  deriving DecidableEq, Repr

/-- REASON codes of R167. -/
def CommandRefusal.reason : CommandRefusal → Nat
  | .wrongState => 1
  | .badConfig _ => 2
  | .ledgerNotEmpty => 3
  | .multipleCommands => 4

/-- FIELD of a refusal; 0 for every reason but BadConfig (log 18). -/
def CommandRefusal.field : CommandRefusal → Nat
  | .wrongState => 0
  | .badConfig f => f
  | .ledgerNotEmpty => 0
  | .multipleCommands => 0

/-- A command word refused (R167). -/
def State.refuseCommand (s : State) (why : CommandRefusal) : State :=
  (({ s with rc := { s.rc with lastResult := 2, reason := why.reason, field := why.field } }).bump
    .commandRefusals).raise .accessRefused

/-- A command accepted: what RC_STATUS records (R167). -/
def State.acceptCommand (s : State) : State :=
  { s with rc := { s.rc with lastResult := 1, reason := 0, field := 0 } }

/-- LAST_CMD (R167): 0 Start, 1 Stop, 2 Abort, 3 Recover. -/
def State.nameCommand (s : State) (code : Nat) : State := { s with rc := { s.rc with lastCmd := code } }

/-- The run state replaced. -/
def State.setRun (s : State) (x : RunState) : State := { s with rc := { s.rc with state := x } }

/-! ### Start (R168) -/

/-- The checks of R168 on the values as stored, in order: the first that fails. -/
def State.startFault (s : State) : Option Nat :=
  let p := s.fieldOf .lpCycleLen 0 13
  let low := fun r => s.fieldOf r 22 6
  let high := fun r => s.fieldOf r 16 6
  if p < 16 ∨ 4096 < p then some 1
  else if s.fieldOf .lgGateDistance 0 16 = 0 then some 2
  else if s.fieldOf .lgGateDistance 0 16 ≤ s.senseDelay then some 3
  else if high .adModelaCfg ≤ low .adModelaCfg then some 4
  else if high .adModelbCfg ≤ low .adModelbCfg then some 5
  else if high .adModelcCfg ≤ low .adModelcCfg then some 6
  else if high .adModeldCfg ≤ low .adModeldCfg then some 7
  else if s.upperLevel ≤ s.lowerLevel then some 8
  else if s.fieldOf .brCount 0 9 = 0 then some 9
  else if 512 ≤ s.fieldOf .lgHigh 0 10 then some 10
  else none

/-- A ring entry rebased by the travel before a Start (R54). -/
def RingEntry.rebase (t : Travel) (e : RingEntry) : RingEntry :=
  { e with due := e.due - t, window := e.window.map fun w => w - t }

/-- A Pending generator rebased (R54). -/
def Reference.rebase (t : Travel) (r : Reference) : Reference :=
  if r.state = .pending then { r with capture := r.capture - t } else r

/-- A ledger entry rebased (R89). -/
def Entry.rebase (t : Travel) (e : Entry) : Entry :=
  { e with captureTravel := e.captureTravel - t, gateTravel := e.gateTravel - t }

/-- Travel set to 0 and every travel deadline moved with it (R33, R54, R89). -/
def State.rebase (s : State) : State :=
  let t := s.lp.travel
  { s with
    lp := { s.lp with travel := 0#32 }
    cs := { s.cs with
      ring := s.cs.ring.map (RingEntry.rebase t)
      bracket := s.cs.bracket.map fun b => { b with next := b.next - t }
      refA := s.cs.refA.rebase t
      refB := s.cs.refB.rebase t
      refC := s.cs.refC.rebase t
      debounce := 255 }
    lg := { s.lg with entries := s.lg.entries.map (Entry.rebase t) } }

/-- An accepted Start's effects (R168). -/
def State.startRun (s : State) : State :=
  let s := s.rebase
  let s := ({ s with ad := { s.ad with quotaCount := 0#32, spacing := 65535 } }).resetRouting
  { s with
    lg := { s.lg with window := [] }
    vc := { s.vc with seqValid := false, lastSeq := 0#8 }
    rc := { s.rc with state := .running } }

/-- START (R167, R168). -/
def State.start (s : State) : State :=
  let s := s.nameCommand 0
  match s.rc.state with
  | .halted =>
    match s.startFault with
    | some f => s.refuseCommand (.badConfig f)
    | none => s.acceptCommand.startRun
  | .running => s.refuseCommand .wrongState
  | .draining => s.refuseCommand .wrongState
  | .faulted => s.refuseCommand .wrongState

/-! ### Stop, Abort, Recover (R169 to R171) -/

/-- STOP (R167, R169). -/
def State.stop (s : State) : State :=
  let s := s.nameCommand 1
  match s.rc.state with
  | .running => ((s.acceptCommand.setRun .draining).flushRoute).drainedTest
  | .halted => s.refuseCommand .wrongState
  | .draining => s.refuseCommand .wrongState
  | .faulted => s.refuseCommand .wrongState

/-- The capture sources' part of an Abort (R39, R41, R47). -/
def State.abortSources (s : State) : State :=
  let s := s.bumpBy .sensorAbandoned s.cs.ring.length
  let s := if s.cs.sensePending then s.bump .sensorIgnored else s
  allRefs.foldl State.refOnAbort { s with cs := { s.cs with ring := [], sensePending := false, bracket := none } }

/-- An accepted Abort's effects (R170). -/
def State.abortRun (s : State) : State :=
  let s := (((s.setRun .halted).abortSources).abandonAll).flushRoute
  (s.abortLink.abortSeq .station).abortSeq .full

/-- ABORT (R167, R170); LAST_CMD, LAST_RESULT, REASON and FIELD are written as R167 says (log 38). -/
def State.abort (s : State) : State :=
  let s := s.nameCommand 2
  match s.rc.state with
  | .halted => s.refuseCommand .wrongState
  | .running => s.acceptCommand.abortRun
  | .draining => s.acceptCommand.abortRun
  | .faulted => s.acceptCommand.abortRun

/-- RECOVER (R167, R171). -/
def State.recover (s : State) : State :=
  let s := s.nameCommand 3
  match s.rc.state with
  | .faulted => if s.lg.entries.isEmpty then s.acceptCommand.setRun .halted else s.refuseCommand .ledgerNotEmpty
  | .halted => s.refuseCommand .wrongState
  | .running => s.refuseCommand .wrongState
  | .draining => s.refuseCommand .wrongState

/-- A word to RC_COMMAND (R167). -/
def State.command (s : State) (v : Word) : State :=
  match bit v 0, bit v 1, bit v 2, bit v 3 with
  | false, false, false, false => s
  | true, false, false, false => s.start
  | false, true, false, false => s.stop
  | false, false, true, false => s.abort
  | false, false, false, true => s.recover
  | _, _, _, _ => s.refuseCommand .multipleCommands

/-! ### Counters (chapter 13) -/

/-- SNAPSHOT (R179). -/
def State.snapshot (s : State) : State :=
  { s with shadows := s.counters, snapTravel := s.lp.travel, snapCount := s.snapCount + 1#32 }

/-- CLEAR_COUNTERS (R180). -/
def State.clearCounters (s : State) : State := { s with counters := [] }

/-- The selective clear (R180): `first` is the group of bit 0 of the mask register. -/
def State.clearGroups (s : State) (first : Nat) (mask : Word) : State :=
  { s with counters := s.counters.filter fun e => !inGroups first mask e.1 }

/-! ### Resets (R177) -/

/-- A station table entry after a soft reset (R138). -/
def Station.softReset (x : Station) : Station :=
  { Station.zero with group := x.group, state := if x.state = .disabled then .disabled else .unknown }

/-- The soft reset (R176, R177): the transaction of its word, if it has one, is ignored from here on (R7). AbandonCount
becomes 0 with the other counters (log 35). -/
def State.softReset (s : State) : State :=
  { State.reset with
    pending := s.pending
    port := { Port.reset with ignoring := s.port.txn.isSome }
    pattern := s.pattern
    route := s.route
    sl := { Link.reset with stations := s.sl.stations.map Station.softReset }
    rc := { RunControl.reset with softCause := true }
    pins := s.pins
    lines := s.lines
    inputs := s.inputs
    freeCount := s.freeCount }

/-- The pin reset (R177), RESET_N asserted and released (log 21): a transaction in progress, its header included, is
ignored until SPI_CS_N rises (R7). AbandonCount becomes 0 with the other counters (log 35). DESIGN CHOICE, unsafe
(log 50): R7 does not say whether the level of SPI_CS_N at the reset itself counts as seen high after RESET_N rises.
Here it does: `lines` stays the earlier level, so with no transaction in progress and SPI_CS_N high at the reset, a low
at the first edge after it begins a header. -/
def State.pinReset (s : State) : State :=
  { State.reset with
    pending := s.pending
    port := { Port.reset with ignoring := s.port.heading || s.port.txn.isSome || s.port.ignoring }
    pins := s.pins
    lines := s.lines
    inputs := s.inputs
    freeCount := s.freeCount }

/-- DEVICE_RESET (R176); `armed` says that the immediately preceding completed host word wrote it too. -/
def State.deviceReset (s : State) (armed : Bool) : State :=
  if armed then s.softReset else { s with rc := { s.rc with resetArmed := true } }

/-- A word to RC_ACTION (R176): its actions in bit order. -/
def State.action (s : State) (v : Word) (armed : Bool) : State :=
  let s := if bit v 0 then s.snapshot else s
  let s := if bit v 1 then s.clearCounters else s
  let s := if bit v 2 then s.clearLog else s
  let s := if bit v 3 then s.clearRx else s
  if bit v 4 then s.deviceReset armed else s

end Sys2Proof.Machine
end

