-- ==== Sys2Proof/Machine/RegisterRead.lean ====
section
/-! DEFINITION. What every address of the host port reads as (the register tables of chapters 1 to 13), and the level
of every output pin. -/

namespace Sys2Proof.Machine

/-! ### Table windows (section 1.5) -/

/-- The pointer register of a table (R14). -/
def pointerReg : TableId → Reg
  | .pattern => .csPatternPtr
  | .route => .brRoutePtr
  | .station => .slStationPtr

/-- The data port of a table (R15). -/
def dataReg : TableId → Reg
  | .pattern => .csPatternData
  | .route => .brRouteData
  | .station => .slStationData

/-- Entries of a table (section 1.5). -/
def tableEntries : TableId → Nat
  | .pattern => 4096
  | .route => 256
  | .station => 15

/-- The pointer of a table (R14). -/
def State.pointer (s : State) (t : TableId) : Nat := (s.reg (pointerReg t)).toNat % tableEntries t

/-- The table of a data port. -/
def tableOf : Reg → Option TableId
  | .csPatternData => some .pattern
  | .brRouteData => some .route
  | .slStationData => some .station
  | _ => none

/-- STATE codes of a station table entry (section 8.5). -/
def StationState.code : StationState → Nat
  | .disabled => 0
  | .unknown => 1
  | .present => 2
  | .suspect => 3
  | .absent => 4

/-- A station table entry as one word (section 8.5). -/
def Station.word (x : Station) : Word :=
  flagAt (x.state != .disabled) 0 ||| place (groupBit x.group) 1 ||| place x.state.code 4 ||| place x.misses 8 |||
    place x.busy.toNat 12 ||| place x.faults.toNat 16 ||| place x.replies.toNat 24

/-- The entry at a table's pointer as one word (R15). -/
def State.tableWord (s : State) (t : TableId) : Word :=
  match t with
  | .pattern => readTable 0#32 s.pattern (s.pointer .pattern)
  | .route => s.routeEntry (s.pointer .route)
  | .station => (s.station (s.pointer .station)).word

/-! ### Registers that are not stored (chapters 1 to 13) -/

/-- HP_STATUS (R16). -/
def State.hpStatus (s : State) : Word :=
  flagAt s.port.ready 0 ||| flagAt s.port.installLock 1 ||| flagAt (bit s.port.refused 31) 2

/-- LP_PHASE.KIND codes (section 2.1). -/
def PhaseKind.code : PhaseKind → Nat
  | .none => 0
  | .mismatch => 1
  | .missing => 2

/-- LP_STATUS (section 2.1). -/
def State.lpStatus (s : State) : Word :=
  flagAt s.lp.lineMoving 0 ||| flagAt s.lp.reverseSat 1 ||| flagAt s.lp.indexPending 2 ||| place s.lp.acc 3

/-- CS_DEMAND (section 3.1). -/
def State.csDemand (s : State) : Word :=
  flagAt s.cs.captureNow 0 ||| flagAt s.cs.reqP1 1 ||| flagAt s.cs.reqP2 2 ||| flagAt s.cs.reqRefA 3 |||
    flagAt s.cs.reqRefB 4 ||| flagAt s.cs.reqRefC 5

/-- REFx_STATE codes (section 3.1). -/
def RefState.code : RefState → Nat
  | .idle => 0
  | .requested => 1
  | .pending => 2

/-- CS_STATUS (section 3.1). -/
def State.csStatus (s : State) : Word :=
  place s.cs.ring.length 0 ||| flagAt s.cs.sensePending 6 ||| flagAt s.cs.bracket.isSome 7 |||
    place ((s.cs.bracket.map BracketRun.left).getD 0) 8 ||| place s.cs.p1Left 12 ||| place s.cs.p2Left 19 |||
    place s.cs.refA.state.code 26 ||| place s.cs.refB.state.code 28 ||| place s.cs.refC.state.code 30

/-- AD_MODEL_STATUS (section 4.1). -/
def State.adModelStatus (s : State) : Word :=
  place s.ad.modelA.occ 0 ||| place s.ad.modelB.occ 6 ||| place s.ad.modelC.occ 12 ||| place s.ad.modelD.occ 18 |||
    flagAt s.ad.modelA.hold 24 ||| flagAt s.ad.modelB.hold 25 ||| flagAt s.ad.modelC.hold 26 |||
    flagAt s.ad.modelD.hold 27

/-- LG_STATUS (section 5.1). -/
def State.lgStatus (s : State) : Word :=
  place s.lg.entries.length 0 ||| place s.awaiting 10 ||| place s.lg.window.length 20 ||| flagAt s.lg.high 26

/-- LG_OLDEST_WAIT (R77). DESIGN CHOICE: EPOCH and ITEM_ID read 0 whenever VALID is clear; R77 says VALID alone, and R79
and R89 give the 0 for Abort and resets only (log 45). -/
def State.lgOldestWait (s : State) : Word :=
  match s.oldestAwaiting with
  | none => 0#32
  | some e =>
    let id := e.ident.getD { epoch := 0#4, itemId := 0#24 }
    flagAt true 31 ||| place id.epoch.toNat 24 ||| place id.itemId.toNat 0

/-- LG_HEAD_GATE (R73). -/
def State.lgHeadGate (s : State) : Word := (s.lg.entries.head?.map Entry.gateTravel).getD 0#32

/-- VC_RAW's word (R94). DESIGN CHOICE: bits 10..0 read 0 with EMPTY, where R94 gives them no value (log 46). -/
def State.vcRaw (s : State) : Word :=
  match s.vc.fifo with
  | [] => flagAt true 31
  | e :: _ => place e.data.toNat 0 ||| flagAt e.marker 8 ||| flagAt e.error 9 ||| flagAt e.gap 10

/-- VC_STATUS.PARSER codes (section 6.1). -/
def ParserPhase.code : ParserPhase → Nat
  | .hunting => 0
  | .header => 1
  | .records => 2
  | .check => 3

/-- VC_STATUS (section 6.1). -/
def State.vcStatus (s : State) : Word :=
  place s.vc.fifo.length 0 ||| place s.vc.parser.phase.code 9 ||| flagAt s.vc.flowPaused 11 ||| flagAt s.vc.stall 12 |||
    flagAt s.vc.silent 13 ||| flagAt s.vc.seqValid 14 ||| place s.vc.lastSeq.toNat 15

/-- GD_STATUS (section 7.1). -/
def State.gdStatus (s : State) : Word :=
  place s.gd.log.length 0 ||| flagAt s.gd.alert 8 ||| flagAt (s.gd.rejLeft != 0) 9 ||| flagAt (s.gd.divLeft != 0) 10 |||
    place s.gd.rejLeft 11 ||| place s.gd.divLeft 19

/-- GD_LOG_POP0's word (R122). -/
def State.logHead (s : State) : Word :=
  match s.gd.log with
  | [] => flagAt true 31
  | r :: _ => r.word0

/-- SL_STATUS.LINK codes (R129). -/
def LinkState.code : LinkState → Nat
  | .idle => 0
  | .sending => 1
  | .reply => 2
  | .spacing => 3

/-- SL_STATUS (section 8.1). -/
def State.slStatus (s : State) : Word :=
  place s.sl.link.code 0 ||| place s.sl.lastPolled 2 ||| place s.sl.turn 6 ||| place s.sl.pollSeq.toNat 10 |||
    flagAt s.sl.pollDue 18 ||| place s.sl.missReason 19

/-- SL_SLOT_STATUS (section 9.1). -/
def State.slSlotStatus (s : State) : Word :=
  allSlots.zipIdx.foldl
    (fun w (i, k) => w ||| place (s.slot i).state.code (4 * k) ||| flagAt (s.slot i).again (4 * k + 3)) 0#32

/-- SL_QUEUE_STATUS (section 9.1). -/
def State.slQueueStatus (s : State) : Word :=
  place s.sl.routeQ.length 0 ||| place s.sl.tagQ.length 4 ||| place s.sl.noticeQ.length 11

/-- BR_STATUS (section 10.1). -/
def State.brStatus (s : State) : Word :=
  place s.br.pointer 0 ||| place s.br.uses 8 ||| place s.br.batchNo.toNat 16 ||| place s.br.openCount 24

/-- SQ_STATUS (section 11.1). -/
def State.sqStatus (s : State) : Word :=
  place s.sq.sr.state.code 0 ||| place s.sq.fr.state.code 2 ||| place s.sq.srCount.toNat 16

/-- SQ_POSITIONS (section 11.1). -/
def State.sqPositions (s : State) : Word :=
  place (min 65535 s.sq.sr.count) 0 ||| place (min 65535 s.sq.fr.count) 16

/-- RC_STATUS (section 12.1). -/
def State.rcStatus (s : State) : Word :=
  place s.rc.state.code 0 ||| place s.rc.lastCmd 4 ||| place s.rc.lastResult 6 ||| place s.rc.reason 8 |||
    place s.rc.field 12 ||| flagAt s.rc.softCause 16

/-- RC_FAULT (section 12.1): CAUSES mirrors bits 2 to 6 of the mask at bits 6 to 10. -/
def State.rcFault (s : State) : Word := place s.rc.faultFirst 0 ||| (s.rc.faultCauses <<< 4)

/-- What a register reads as once the port is ready. A register that no line names reads as its stored bits; an
Action field reads 0 (R11, R13). -/
def State.readRegister (s : State) (r : Reg) : Word :=
  match r with
  | .hpId => Config.hpId
  | .hpRev => Config.hpRev
  | .hpStatus => s.hpStatus
  | .hpCtrl => flagAt s.port.installLock 0
  | .hpRefused => s.port.refused
  | .lpTravel => s.lp.travel
  | .lpCycle => place s.lp.cycleIndex 0 ||| place s.lp.cycleNumber.toNat 16
  | .lpDebt => place s.lp.debt 0
  | .lpSinceIndex => place s.lp.sinceIndex 0
  | .lpPhase => place s.lp.phaseKind.code 0 ||| place s.lp.phaseOffset.toNat 16
  | .lpStatus => s.lpStatus
  | .csDemand => s.csDemand
  | .csPatternData => s.tableWord .pattern
  | .csSampleValue => s.cs.sample
  | .csAuditValue => s.cs.audit
  | .csStatus => s.csStatus
  | .adModelStatus => s.adModelStatus
  | .adItem => place s.ad.nextId.toNat 0 ||| place s.ad.epoch.toNat 24
  | .adQuotaCount => s.ad.quotaCount
  | .adSpacingCount => place s.ad.spacing 0
  | .adHoldStatus => s.ad.holdStatus
  | .lgStatus => s.lgStatus
  | .lgOldestWait => s.lgOldestWait
  | .lgHeadGate => s.lgHeadGate
  | .vcRaw => s.vcRaw
  | .vcStatus => s.vcStatus
  | .vcLastError => place s.vc.lastError 0
  | .gdStatus => s.gdStatus
  | .gdLogPop0 => s.logHead
  | .gdLogPop1 => s.gd.latch1
  | .gdLogPop2 => s.gd.latch2
  | .slStationData => s.tableWord .station
  | .slStatus => s.slStatus
  | .slDemand => flagAt s.sl.userRequest 0
  | .slSlotStatus => s.slSlotStatus
  | .slQueueStatus => s.slQueueStatus
  | .brRouteData => s.tableWord .route
  | .brStatus => s.brStatus
  | .sqDemand => flagAt s.sq.demandSr 0 ||| flagAt s.sq.demandFr 1
  | .sqStatus => s.sqStatus
  | .sqPositions => s.sqPositions
  | .rcStatus => s.rcStatus
  | .rcFault => s.rcFault
  | .rcEventPending => s.rc.flags
  | .rcTopCause => place s.topCause 0
  | .rcDemand => flagAt s.rc.countRestart 0
  | .ctSnapTravel => s.snapTravel
  | .ctSnapCount => s.snapCount
  | r => s.reg r

/-- What an address reads as once the port is ready; an unmapped address reads 0 (R13). -/
def State.readMapped (s : State) (a : Addr) : Word :=
  match regAt a with
  | some r => s.readRegister r
  | none =>
    match liveAt a with
    | some o => readTable 0#32 s.counters o
    | none =>
      match shadowAt a with
      | some o => readTable 0#32 s.shadows o
      | none => 0#32

/-- What a read word returns whose value is taken now (R2): in the readiness period 0 but for HP_STATUS (R6). -/
def State.readWord (s : State) (a : Addr) : Word :=
  if s.port.ready then s.readMapped a else if a = Reg.hpStatus.address then s.hpStatus else 0#32

/-! ### Output pins -/

/-- What SPI_SDO drives (R1, R2, R7): nothing while SPI_CS_N is high, and nothing after a reset in a transaction until
SPI_CS_N falls again (log 39); 0 through the header; then the read word being shifted out, and otherwise 0, through the
data words of a write too (log 39). -/
def State.sdoLine (s : State) : Option Word :=
  if s.port.ignoring then none
  else
    match s.port.txn with
    | some t => some ((t.word.map WordStart.value).getD 0#32)
    | none => if s.port.heading then some 0#32 else none

/-- The level of INT (R175). -/
def State.intLevel (s : State) : Bool := (s.topCause != 0) != s.flagOf .rcCfg 0

/-- The level of a fire line (R66). -/
def State.fireLevel (s : State) (g : Group) : Bool := (s.fire g).isSome

/-- The level of a gate line (R115). -/
def State.gateLevel (s : State) : GateLine → Bool
  | .reject => s.gd.rejLeft != 0
  | .divert => s.gd.divLeft != 0

/-- The level of LINK_DE (R124). -/
def State.linkDe (s : State) : Bool := s.sl.link == .sending

/-- Bit `n` of a character on a serial line (R90): start, data from bit 0, marker, stop. -/
def charBit (data : Byte) (marker : Bool) (n : Nat) : Bool :=
  if n = 0 then false else if n < 9 then data.getLsbD (n - 1) else if n = 9 then marker else true

/-- The level of LINK_TX (R124): the bit of the frame in progress, or high. -/
def State.linkTx (s : State) : Bool :=
  match s.sl.frame with
  | none => true
  | some f =>
    let elapsed := (11 * (f.payload.length + 2) + s.sl.lead + s.sl.lag) * s.sl.bitTime - s.sl.left
    let n := elapsed / max 1 s.sl.bitTime
    if n < s.sl.lead then true
    else
      match f.bytes[(n - s.sl.lead) / 11]? with
      | some b => charBit b ((n - s.sl.lead) / 11 == 0) ((n - s.sl.lead) % 11)
      | none => true

/-- The level of VC_TX (R106). -/
def State.vcTx (s : State) : Bool :=
  match s.vc.tx with
  | none => true
  | some t => charBit t.data false ((11 * t.bitTime - t.left) / max 1 t.bitTime)

/-- The level of VC_STALL (R107). -/
def State.vcStall (s : State) : Bool := s.vc.stall

end Sys2Proof.Machine
end

