-- ==== Sys2Proof/Machine/HostPort.lean ====
section
/-! DEFINITION. The host port (chapter 1): refusals, the judgement of a write word, table windows, the effects of each
register's word, and transactions. -/

namespace Sys2Proof.Machine

/-! ### Refusals (R12) -/

/-- The reasons of R12. -/
inductive AccessReason where
  | installLocked | notHalted | readOnly | unmapped | tableBusy
  deriving DecidableEq, Repr

/-- Codes of R12. -/
def AccessReason.code : AccessReason → Nat
  | .installLocked => 1
  | .notHalted => 2
  | .readOnly => 3
  | .unmapped => 4
  | .tableBusy => 5

/-- The refusal record as one word (R12). -/
def refusalRecord (write : Bool) (why : AccessReason) (index : Nat) (a : Addr) : Word :=
  flagAt true 31 ||| flagAt write 30 ||| place why.code 27 ||| flagAt (a.getLsbD 13) 26 ||| place index 13 |||
    (a.extractLsb' 0 13).zeroExtend 32

/-- A refused access (R12). -/
def State.refuse (s : State) (write : Bool) (why : AccessReason) (index : Nat) (a : Addr) : State :=
  let s := (s.bump .accessRefusals).raise .accessRefused
  if bit s.port.refused 31 then s
  else { s with port := { s.port with refused := refusalRecord write why index a } }

/-! ### Table windows (R14, R15) -/

/-- The pointer advanced by one entry (R14). -/
def State.advancePointer (s : State) (t : TableId) : State :=
  s.setReg (pointerReg t) (BitVec.ofNat 32 ((s.pointer t + 1) % tableEntries t))

/-- A route entry as stored: SHARE 0 as 1 (R153). -/
def routeStored (v : Word) : Word :=
  let w := v &&& 0x8FFF#32
  if field w 8 4 = 0 then w ||| 0x100#32 else w

/-- A poll transaction of the station at an index is in progress (R130, R134). -/
def State.pollInProgress (s : State) (i : Nat) : Bool :=
  decide (s.sl.polled = i + 1) && (s.sl.link == .reply || (s.sl.link == .sending && s.sendingPoll))

/-- A station's values cleared and its state replaced (R130). -/
def Station.restart (x : Station) (state : StationState) : Station :=
  { x with state := state, misses := 0, busy := 0#2, faults := 0#6 }

/-- The outcome of a poll transaction in progress is to be discarded (R130). -/
def State.discardPoll (s : State) (i : Nat) : State :=
  if s.pollInProgress i then { s with sl := { s.sl with discard := true } } else s

/-- An accepted station table write (R130). -/
def State.writeStation (s : State) (i : Nat) (v : Word) : State :=
  let x : Station := { s.station i with group := groupOf (field v 1 2) }
  match decide (x.state = .disabled), bit v 0 with
  | true, true => s.setStation i (x.restart .unknown)
  | false, false => (s.setStation i (x.restart .disabled)).discardPoll i
  | _, _ => s.setStation i x

/-- The write would change ENABLE or GROUP (R15). -/
def State.changesStation (s : State) (i : Nat) (v : Word) : Bool :=
  (s.station i).word &&& 0x7#32 != v &&& 0x7#32

/-- A write word to a table data port (R15, R49). -/
def State.writeTablePort (s : State) (t : TableId) (v : Word) (a : Addr) : State :=
  let i := s.pointer t
  let s :=
    match t with
    | .pattern =>
      if s.patternEnabled then s.refuse true .tableBusy i a
      else { s with pattern := writeTable 0#32 s.pattern i (v &&& 0x3#32) }
    | .route => { s with route := writeTable 0#32 s.route i (routeStored v) }
    | .station =>
      if s.port.installLock = true ∧ s.changesStation i v = true then s.refuse true .installLocked i a
      else s.writeStation i v
  s.advancePointer t

/-! ### The effects of each register's word -/

/-- A word to HP_CTRL (R9, R16). -/
def State.applyCtrl (s : State) (v : Word) : State :=
  { s with port := { s.port with
    installLock := s.port.installLock || bit v 0
    refused := if bit v 1 then 0#32 else s.port.refused } }

/-- The effects of a change of LP_CFG (R19); `before` is the word it held. With SOURCE now External the encoder inputs
start with fresh samples. DESIGN CHOICE, unsafe (log 48): R19 does not say whether the level at the change's own edge
counts as the earlier sample. Here it does not: the first sample is that of the next edge, so an input that is low at
the change and high at the very next edge gives no edge. -/
def State.changeLine (s : State) (before : Word) : State :=
  let s :=
    if bit before 0 ≠ s.sourceInternal then
      { s with
        lp := { s.lp with
          indexPending := false
          genTimer := if s.sourceInternal = true ∧ s.genEnabled = true then some 0 else none }
        sampled := if s.sourceInternal then s.sampled else { s.sampled with encStep := none, encIndex := none } }
    else s
  if bit before 1 = true ∧ s.indexUse = false then { s with lp := { s.lp with indexPending := false } }
  else if bit before 1 = false ∧ s.indexUse = true ∧ s.sourceInternal = false then
    { s with lp := { s.lp with sinceIndex := 0 } }
  else s

/-- The effects of a word to LP_GEN_ENABLE (R18). -/
def State.changeGenerator (s : State) (before : Word) : State :=
  if s.genEnabled then
    (if bit before 0 = false ∧ s.sourceInternal = true then { s with lp := { s.lp with genTimer := some 0 } } else s)
  else { s with lp := { s.lp with genTimer := none } }

/-- The effects of a word to LP_STALL_MS (R29). -/
def State.changeStall (s : State) (before : Word) : State :=
  if s.stallMs = 0 then { s with lp := { s.lp with stallTimer := none } }
  else if field before 0 16 = 0 ∧ s.lp.lineMoving = true then { s with lp := { s.lp with stallTimer := some 0 } }
  else s

/-- A word to CS_DEMAND (R44, R45, R52): a request is set by 1 and cancelled by 0. -/
def State.applyDemand (s : State) (v : Word) : State :=
  { s with cs := { s.cs with
    captureNow := bit v 0
    reqP1 := bit v 1
    reqP2 := bit v 2
    reqRefA := bit v 3
    reqRefB := bit v 4
    reqRefC := bit v 5 } }

/-- The effects of a word to CS_RANDOM_ENABLE (R50). -/
def State.changeRandom (s : State) (before : Word) : State :=
  if bit before 0 = false ∧ s.randomEnabled = true then
    { s with cs := { s.cs with sample := seedOf (s.reg .csSampleSeed), audit := seedOf (s.reg .csAuditSeed) } }
  else s

/-- The effects of a word to VC_FLOW_CFG (R105, R107). -/
def State.changeFlow (s : State) (before : Word) : State :=
  let s := if bit before 0 = true ∧ s.swFlow = false then s.endPause else s
  if bit before 1 = true ∧ s.hwFlow = false then s.endStall else s

/-- The effects of a word to SL_CFG (R129, R132). -/
def State.changeLink (s : State) (before : Word) : State :=
  if s.linkEnabled then
    (if bit before 0 then s else { s with sl := { s.sl with pollTimer := some s.pollUs } })
  else { s with sl := { s.sl with pollTimer := none, pollDue := false } }

/-- The effects of a word to SL_DIV (R124): outside frames and poll transactions the bit time follows at once, otherwise
at the next frame start. -/
def State.changeDiv (s : State) : State :=
  match s.sl.link with
  | .idle => { s with sl := { s.sl with bitTime := s.linkBitTime } }
  | .spacing => { s with sl := { s.sl with bitTime := s.linkBitTime } }
  | .sending => s
  | .reply => s

/-- A word to SL_DEMAND (R140, R144). -/
def State.applyUserDemand (s : State) (v : Word) : State :=
  if bit v 0 then s.requestUser else s.cancelUser

/-- A word to SL_SLOT_CANCEL (R144). -/
def State.applySlotCancel (s : State) (v : Word) : State :=
  allRefs.foldl (fun s g => if bit v (refBit g) then s.cancelReference g else s) s

/-- A word to SQ_DEMAND (R159). -/
def State.applySeqDemand (s : State) (v : Word) : State :=
  { s with sq := { s.sq with demandSr := bit v 0, demandFr := bit v 1 } }

/-- The Cycle Mark slot lets a Count Restart be cancelled (R149). -/
def State.restartCancellable (s : State) : Bool :=
  match (s.slot .cycleMark).state with
  | .idle => true
  | .armed => true
  | .guarding => true
  | .due => false
  | .sending => false

/-- A word to RC_DEMAND (R149). -/
def State.applyRestartDemand (s : State) (v : Word) : State :=
  if bit v 0 then { s with rc := { s.rc with countRestart := true } }
  else if s.restartCancellable then { s with rc := { s.rc with countRestart := false } }
  else s

/-- A word to RC_EVENT_CLEAR (R174). -/
def State.clearEvents (s : State) (v : Word) : State :=
  { s with rc := { s.rc with flags := s.rc.flags &&& ~~~(v &&& 0xFFFFE#32) } }

/-- The stored bits of an accepted word replaced (R8). -/
def State.storeWord (s : State) (r : Reg) (v : Word) : State := s.setReg r (merge r.stored v (s.reg r))

/-- An accepted word to one of the registers that place the slots' anchors (R139). -/
def State.storeAnchor (s : State) (r : Reg) (v : Word) : State := (s.storeWord r v).moveAnchors s

/-- An accepted word applied: its stored bits, then what the register's rule adds (R8, R11). `armed` says that the
preceding completed host word armed the soft reset (R176). -/
def State.applyWord (s : State) (r : Reg) (v : Word) (armed : Bool) : State :=
  match r with
  | .hpCtrl => s.applyCtrl v
  | .lpCycleLen => s.storeAnchor .lpCycleLen v
  | .csRefaCfg => s.storeAnchor .csRefaCfg v
  | .csRefbCfg => s.storeAnchor .csRefbCfg v
  | .csRefcCfg => s.storeAnchor .csRefcCfg v
  | .slGuard => s.storeAnchor .slGuard v
  | .slMarkAnchor => s.storeAnchor .slMarkAnchor v
  | .slUserAnchor => s.storeAnchor .slUserAnchor v
  | .sqSrCfg => s.storeAnchor .sqSrCfg v
  | .sqFrCfg => s.storeAnchor .sqFrCfg v
  | .slDiv => (s.storeWord .slDiv v).changeDiv
  | .lpCfg => (s.storeWord .lpCfg v).changeLine (s.reg .lpCfg)
  | .lpGenEnable => (s.storeWord .lpGenEnable v).changeGenerator (s.reg .lpGenEnable)
  | .lpStallMs => (s.storeWord .lpStallMs v).changeStall (s.reg .lpStallMs)
  | .csDemand => s.applyDemand v
  | .csRandomEnable => (s.storeWord .csRandomEnable v).changeRandom (s.reg .csRandomEnable)
  | .vcCfg => (s.storeWord .vcCfg v).changeRaw (bit (s.reg .vcCfg) 0)
  | .vcFlowCfg => (s.storeWord .vcFlowCfg v).changeFlow (s.reg .vcFlowCfg)
  | .vcSilenceMs => (s.storeWord .vcSilenceMs v).refreshSilence
  | .slCfg => (s.storeWord .slCfg v).changeLink (s.reg .slCfg)
  | .slStationPtr => s.storeWord .slStationPtr (if v &&& 0xF#32 = 15#32 then 0#32 else v)
  | .slDemand => s.applyUserDemand v
  | .slSlotCancel => s.applySlotCancel v
  | .brDemand => if bit v 0 then s.flushRoute else s
  | .sqDemand => s.applySeqDemand v
  | .rcCommand => s.command v
  | .rcEventClear => s.clearEvents v
  | .rcDemand => s.applyRestartDemand v
  | .rcAction => s.action v armed
  | .ctClearMask0 => s.clearGroups 0 v
  | .ctClearMask1 => s.clearGroups 32 (v &&& 0x3FFFFF#32)
  | r => s.storeWord r v

/-! ### The judgement of a write word (R8, R13) -/

/-- The field checks of R8: the reason for which a word to a register is refused, if any. -/
def State.fieldFault (s : State) (r : Reg) (v : Word) : Option AccessReason :=
  let changed := v ^^^ s.reg r
  if s.port.installLock = true ∧ changed &&& r.info.install ≠ 0#32 then some .installLocked
  else if s.rc.state ≠ .halted ∧ changed &&& r.info.setup ≠ 0#32 then some .notHalted
  else none

/-- A completed write word to a mapped register (R8, R13). -/
def State.writeRegister (s : State) (r : Reg) (v : Word) (armed : Bool) : State :=
  match tableOf r with
  | some t => s.writeTablePort t v r.address
  | none =>
    if readOnly r.address then s.refuse true .readOnly 0 r.address
    else
      match s.fieldFault r v with
      | some why => s.refuse true why 0 r.address
      | none => s.applyWord r v armed

/-- Any completed host word disarms the soft reset (R176). -/
def State.disarm (s : State) : State := { s with rc := { s.rc with resetArmed := false } }

/-- A completed write word (R13), the port being ready. -/
def State.writeWord (s : State) (a : Addr) (v : Word) : State :=
  let armed := s.rc.resetArmed
  let s := s.disarm
  match regAt a with
  | some r => s.writeRegister r v armed
  | none => if mapped a then s.refuse true .readOnly 0 a else s.refuse true .unmapped 0 a

/-! ### Reads (R2, R13) -/

/-- The element that a Port read at an address would remove is there (R2, R94, R122). -/
def State.hasElement (s : State) (a : Addr) : Bool :=
  match regAt a with
  | some .gdLogPop0 => !s.gd.log.isEmpty
  | some .vcRaw => !s.vc.fifo.isEmpty
  | _ => true

/-- A read word starts (R2). -/
def State.startWord (s : State) (a : Addr) : WordStart :=
  { value := s.readWord a, ready := s.port.ready, element := s.hasElement a }

/-- The pop of GD_LOG_POP0 at its word's completion (R122); `element` says that the log held the record at the word's
start, and an empty indication is a word 0 with EMPTY alone. -/
def State.popLog (s : State) (element : Bool) : State :=
  match element, s.gd.log with
  | true, r :: rest =>
    ({ s with gd := { s.gd with log := rest, latch0 := r.word0, latch1 := r.word1, latch2 := r.word2 } }).evalAlert
  | _, _ => { s with gd := { s.gd with latch0 := flagAt true 31, latch1 := 0#32, latch2 := 0#32 } }

/-- The pop of VC_RAW at its word's completion (R94). -/
def State.popRaw (s : State) (element : Bool) : State :=
  match element, s.vc.fifo with
  | true, _ :: rest => ({ s with vc := { s.vc with fifo := rest } }).evalFlow
  | _, _ => s

/-- The side effect of a Port read at its word's completion (R2). -/
def State.readPort (s : State) (r : Reg) (w : WordStart) : State :=
  match r with
  | .csPatternData => s.advancePointer .pattern
  | .brRouteData => s.advancePointer .route
  | .slStationData => s.advancePointer .station
  | .gdLogPop0 => s.popLog w.element
  | .vcRaw => s.popRaw w.element
  | _ => s

/-- A completed read word (R2, R6, R13). One that starts in the readiness period and completes after it returns 0 and has
no Port side effect, but at an unmapped address it is refused, and it disarms the soft reset (log 31). -/
def State.completeRead (s : State) (a : Addr) (w : WordStart) : State :=
  if s.port.ready then
    let s := s.disarm
    match regAt a with
    | some r => if w.ready then s.readPort r w else s
    | none => if mapped a then s else s.refuse false .unmapped 0 a
  else s

/-! ### Transactions (R1 to R5) -/

/-- The address after a completed word (R5). -/
def nextAddr (a : Addr) : Addr := if isPort a then a else a + 1#14

/-- The open transaction after one of its words has completed (R2, R5). -/
def State.advanceTxn (s : State) : State :=
  match s.port.txn with
  | none => s
  | some t =>
    let a := nextAddr t.addr
    let word := if t.read = true ∧ 1 < t.left then some (s.startWord a) else none
    let u : Transaction := { read := t.read, left := t.left - 1, addr := a, word := word }
    { s with port := { s.port with txn := some u } }

/-- The word is the next one of the open transaction (log 5). -/
def State.continues (s : State) (read : Bool) (a : Addr) : Bool :=
  match s.port.txn with
  | none => false
  | some t => t.read == read && decide (0 < t.left) && decide (t.addr = a)

/-- The address at which the open transaction takes a write word: the word's own. The word that fires the soft reset is
also the second one of the two-word burst at RC_ACTION of R176, whose address R5 has moved on (log 37). -/
def State.burstAddr (s : State) (a : Addr) (v : Word) : Addr :=
  if a = Reg.rcAction.address ∧ bit v 4 = true ∧ s.port.ready = true ∧ s.rc.resetArmed = true ∧
      s.continues false (nextAddr a) = true then
    nextAddr a
  else a

/-- The transaction that a completed word belongs to: the open one, or for a word that is not its next one a transaction
of that word alone, the open one given up (log 5). The header is over (R1). -/
def State.joinTxn (s : State) (read : Bool) (a : Addr) : State :=
  { s with port := { s.port with heading := false, txn := if s.continues read a then s.port.txn else none } }

/-- The port ignores the bytes on the line: all declared words have completed (R1), or a reset has abandoned the
transaction (R7), and SPI_CS_N has not risen since. -/
def Port.deaf (p : Port) : Bool :=
  p.ignoring ||
    match p.txn with
    | none => false
    | some t => t.left == 0

/-- A completed write word (R1, R3 to R7): ignored by a deaf port; otherwise the next word of the open transaction, or a
transaction of its own (logs 5 and 37). A host word is the last event of its edge (R32). -/
def State.hostWrite (s : State) (a : Addr) (v : Word) : State :=
  if s.port.deaf then s
  else
    let s := (s.arrive .late).joinTxn false (s.burstAddr a v)
    (if s.port.ready then s.writeWord a v else s).advanceTxn

/-- What the open transaction took at the start of its read word, if that start has been told (log 6). -/
def State.latchedWord (s : State) : Option WordStart :=
  match s.port.txn with
  | none => none
  | some t => t.word

/-- A completed read word (R1, R2, R4 to R7): ignored by a deaf port; otherwise the next word of the open transaction,
or a transaction of its own, its value then taken and completed in one step (log 5). A host word is the last event of
its edge (R32). -/
def State.hostRead (s : State) (a : Addr) : State :=
  if s.port.deaf then s
  else
    let s := (s.arrive .late).joinTxn true a
    let w := s.latchedWord.getD (s.startWord a)
    ({ s with port := { s.port with sdo := w.value } }).completeRead a w |>.advanceTxn

/-- The three header bytes of a transaction after SPI_CS_N has risen and fallen (R1, R7). The first word of a read is
taken at the end of the turnaround byte that follows (R2). -/
def State.header (s : State) (byte0 byte1 byte2 : Byte) : State :=
  let a : Addr := (byte1 ++ byte2).extractLsb' 0 14
  let t : Transaction :=
    { read := byte0.getLsbD 7
      left := (byte0.extractLsb' 0 7).toNat + 1
      addr := a
      word := none }
  { s with port := { s.port with heading := false, txn := some t, ignoring := false } }

/-- The turnaround byte of a read transaction ends, and the first word's value is taken (R2). -/
def State.endTurnaround (s : State) : State :=
  match s.port.txn with
  | none => s
  | some t =>
    if t.read = true ∧ t.word = none ∧ 0 < t.left then
      let u : Transaction := { t with word := some (s.startWord t.addr) }
      { s with port := { s.port with txn := some u } }
    else s

/-- SPI_CS_N rises (R4, R7): the word in progress is discarded, and the port hears the next header. -/
def State.endTransactionHost (s : State) : State :=
  { s with port := { s.port with heading := false, txn := none, ignoring := false } }

/-- SPI_CS_N falls (R1): a fresh header begins. -/
def State.beginHeader (s : State) : State :=
  { s with port := { s.port with heading := true, txn := none, ignoring := false } }

/-- SPI_CS_N at an edge of the clock, having stood at the level `before` (R1, R4). -/
def State.followSelect (s : State) (before : Bool) : State :=
  if before = true ∧ s.lines.csN = false then s.beginHeader
  else if before = false ∧ s.lines.csN = true then s.endTransactionHost
  else s

/-! ### Words of one field (log 8) -/

/-- The word a register reads as, with the bits of `mask` replaced by those of `v`. -/
def State.wordWith (s : State) (r : Reg) (mask v : Word) : Word := merge mask v (s.readRegister r)

/-- A write word to a register that replaces one field of it. -/
def State.writeField (s : State) (r : Reg) (mask v : Word) : State := s.hostWrite r.address (s.wordWith r mask v)

/-- A write word to a register that replaces one flag of it. -/
def State.writeFlag (s : State) (r : Reg) (i : Nat) (b : Bool) : State := s.writeField r (1#32 <<< i) (flagAt b i)

end Sys2Proof.Machine
end

