-- ==== Sys2Proof/Machine/Timers.lean ====
section
/-! DEFINITION. Expiries of timers that more than one command reaches (R6, R29, R109). -/

namespace Sys2Proof.Machine

/-- The readiness period ends (R6). -/
def State.endReadiness (s : State) : State := { s with port := { s.port with ready := true, readyLeft := 0 } }

/-- The stall timer's expiry (R29). -/
def State.expireStall (s : State) : State :=
  ({ s with lp := { s.lp with lineMoving := false, stallTimer := none } }).raiseFault .lineAnomaly

/-- The silence watchdog's expiry (R109). -/
def State.expireSilence (s : State) : State :=
  ({ s with vc := { s.vc with silent := true, silence := none } }).raiseFault .verdictSilent

end Sys2Proof.Machine
end

