-- ==== Sys2Proof/Machine/HostCommands.lean ====
section
/-! DEFINITION. The commands of the host port (chapter 1): one meaning for each row. -/

namespace Sys2Proof.Machine

/-- PIN_RESET (R177). -/
def execPinReset (s : State) : Host.Outcome State Fault Refusal :=
  .next s.pinReset

/-- READINESS_END (R6). -/
def execReadinessEnd (s : State) : Host.Outcome State Fault Refusal :=
  let s := s.arrive .late
  .next s.endReadiness

/-- REGISTER_WRITE (R8). -/
def execRegisterWrite (addr : Addr) (value : Word) (s : State) : Host.Outcome State Fault Refusal :=
  .next (s.hostWrite addr value)

/-- UNMAPPED_READ (R13). -/
def execUnmappedRead (addr : Addr) (s : State) : Host.Outcome State Fault Refusal :=
  .next (s.hostRead addr)

/-- INSTALL_LOCK (R9). -/
def execInstallLock (others : Word) (s : State) : Host.Outcome State Fault Refusal :=
  .next (s.hostWrite Reg.hpCtrl.address (others ||| 1#32))

/-- REFUSED_CLEAR (R16). -/
def execRefusedClear (others : Word) (s : State) : Host.Outcome State Fault Refusal :=
  .next (s.hostWrite Reg.hpCtrl.address (others ||| 2#32))

/-- TABLE_DATA_READ (R15). -/
def execTableDataRead (table : TableId) (s : State) : Host.Outcome State Fault Refusal :=
  .next (s.hostRead (dataReg table).address)

/-- TABLE_DATA_WRITE (R15). -/
def execTableDataWrite (table : TableId) (value : Word) (s : State) : Host.Outcome State Fault Refusal :=
  .next (s.hostWrite (dataReg table).address value)

/-- LOG_POP (R122). -/
def execLogPop (s : State) : Host.Outcome State Fault Refusal :=
  .next (s.hostRead Reg.gdLogPop0.address)

/-- RAW_READ (R94). -/
def execRawRead (s : State) : Host.Outcome State Fault Refusal :=
  .next (s.hostRead Reg.vcRaw.address)

/-- TRANSACTION_HEADER (R1). -/
def execTransactionHeader (byte0 byte1 byte2 : Byte) (s : State) : Host.Outcome State Fault Refusal :=
  .next (s.header byte0 byte1 byte2)

/-- TRANSACTION_END (R4). -/
def execTransactionEnd (s : State) : Host.Outcome State Fault Refusal :=
  .next s.endTransactionHost

/-- UNMAPPED_WRITE (R13). -/
def execUnmappedWrite (addr : Addr) (value : Word) (s : State) : Host.Outcome State Fault Refusal :=
  .next (s.hostWrite addr value)

end Sys2Proof.Machine
end

