-- ==== Sys2Proof/Machine/RunCommands.lean ====
section
/-! DEFINITION. The commands of run control, the actions and the counter clears (chapters 12 and 13): one meaning for each row. -/

namespace Sys2Proof.Machine

/-- The clear register of a bank (R180). -/
def clearReg : ClearBank → Reg
  | .mask0 => .ctClearMask0
  | .mask1 => .ctClearMask1

/-- START (R168). -/
def execStart (others : Word) (s : State) : Host.Outcome State Fault Refusal :=
  .next (s.hostWrite Reg.rcCommand.address (others ||| 1#32))

/-- STOP (R169). -/
def execStop (others : Word) (s : State) : Host.Outcome State Fault Refusal :=
  .next (s.hostWrite Reg.rcCommand.address (others ||| 2#32))

/-- ABORT (R170). -/
def execAbort (others : Word) (s : State) : Host.Outcome State Fault Refusal :=
  .next (s.hostWrite Reg.rcCommand.address (others ||| 4#32))

/-- RECOVER (R171). -/
def execRecover (others : Word) (s : State) : Host.Outcome State Fault Refusal :=
  .next (s.hostWrite Reg.rcCommand.address (others ||| 8#32))

/-- SNAPSHOT (R179). -/
def execSnapshot (others : Word) (s : State) : Host.Outcome State Fault Refusal :=
  .next (s.hostWrite Reg.rcAction.address (others ||| 1#32))

/-- CLEAR_COUNTERS (R180). -/
def execClearCounters (others : Word) (s : State) : Host.Outcome State Fault Refusal :=
  .next (s.hostWrite Reg.rcAction.address (others ||| 2#32))

/-- SELECTIVE_CLEAR (R180). -/
def execSelectiveClear (bank : ClearBank) (groups : Word) (s : State) : Host.Outcome State Fault Refusal :=
  .next (s.hostWrite (clearReg bank).address groups)

/-- CLEAR_LOG (R123). -/
def execClearLog (others : Word) (s : State) : Host.Outcome State Fault Refusal :=
  .next (s.hostWrite Reg.rcAction.address (others ||| 4#32))

/-- CLEAR_RX (R108). -/
def execClearRx (others : Word) (s : State) : Host.Outcome State Fault Refusal :=
  .next (s.hostWrite Reg.rcAction.address (others ||| 8#32))

/-- DEVICE_RESET (R176). -/
def execDeviceReset (others : Word) (s : State) : Host.Outcome State Fault Refusal :=
  .next (s.hostWrite Reg.rcAction.address (others ||| 16#32))

/-- EVENT_CLEAR (R174). -/
def execEventClear (flags : Word) (s : State) : Host.Outcome State Fault Refusal :=
  .next (s.hostWrite Reg.rcEventClear.address flags)

/-- INT_POLARITY_CHANGE (R175). -/
def execIntPolarityChange (activeLow : Bool) (s : State) : Host.Outcome State Fault Refusal :=
  .next (s.writeFlag .rcCfg 0 activeLow)

/-- COUNT_RESTART (R149). -/
def execCountRestart (set : Bool) (s : State) : Host.Outcome State Fault Refusal :=
  .next (s.writeFlag .rcDemand 0 set)

end Sys2Proof.Machine
end

