-- ==== Sys2Proof/Machine/LineCommands.lean ====
section
/-! DEFINITION. The commands of the Line Position Unit (chapter 2): one meaning for each row. -/

namespace Sys2Proof.Machine

/-- The next count of positions without an index is the one that declares it missing (R26). -/
def State.indexGoesMissing (s : State) : Bool :=
  !s.sourceInternal && s.indexUse && !s.lp.indexPending && s.lp.sinceIndex + 1 == s.cycleLen + s.indexTol

/-- GENERATOR_ENABLE (R18). -/
def execGeneratorEnable (set : Bool) (s : State) : Host.Outcome State Fault Refusal :=
  .next (s.writeFlag .lpGenEnable 0 set)

/-- SOURCE_CHANGE (R19). -/
def execSourceChange (internal : Bool) (s : State) : Host.Outcome State Fault Refusal :=
  .next (s.writeFlag .lpCfg 0 internal)

/-- INDEX_USE_CHANGE (R19). -/
def execIndexUseChange (use : Bool) (s : State) : Host.Outcome State Fault Refusal :=
  .next (s.writeFlag .lpCfg 1 use)

/-- STALL_LIMIT_WRITE (R29). -/
def execStallLimitWrite (ms : BitVec 16) (s : State) : Host.Outcome State Fault Refusal :=
  .next (s.writeField .lpStallMs 0xFFFF#32 (ms.zeroExtend 32))

/-- ENCODER_STEP (R17, R20): not recognised with SOURCE Internal. -/
def execEncoderStep (forward : Bool) (s : State) : Host.Outcome State Fault Refusal :=
  let s := s.arrive .encoder
  .next (s.takeStep forward)

/-- INDEX_EDGE (R24). -/
def execIndexEdge (s : State) : Host.Outcome State Fault Refusal :=
  let s := s.arrive .index
  .next s.takeIndexEdge

/-- GENERATOR_STEP (R18): the timer, while it runs, reaches its period. -/
def execGeneratorStep (s : State) : Host.Outcome State Fault Refusal :=
  let s := s.arrive .generator
  .next (
    if s.lp.genTimer.isSome then ({ s with lp := { s.lp with genTimer := some 0 } }).forwardStep
    else s)

/-- POSITION_EVENT (R30), the input pins at the given levels; with an empty accumulator there is none (R21). The spacing
of 40 periods is the sender's (log 42). -/
def execPositionEvent (pins : Pins) (s : State) : Host.Outcome State Fault Refusal :=
  .next (if s.lp.acc = 0 then s else (({ s with pins := pins }).arrive .position).positionEvent)

/-- CYCLE_START (R23), when the next position wraps the cycle index, with the reference generators' tests (R45); the
step alone (log 3). -/
def execCycleStart (s : State) : Host.Outcome State Fault Refusal :=
  let s := s.arrive .step
  .next (
    if s.wraps then allRefs.foldl State.refTest s.advanceIndex
    else s)

/-- MISSING_INDEX (R26), when the next position without an index brings LP_SINCE_INDEX to P + LP_INDEX_TOL; the step
alone (log 3). -/
def execMissingIndex (s : State) : Host.Outcome State Fault Refusal :=
  let s := s.arrive .step
  .next (if s.indexGoesMissing then s.countSince.settleFaults else s)

/-- STALL_EXPIRY (R29): the stall timer, while it runs, expires. -/
def execStallExpiry (s : State) : Host.Outcome State Fault Refusal :=
  let s := s.arrive .late
  .next (if s.lp.stallTimer.isSome then s.expireStall else s)

end Sys2Proof.Machine
end

