-- ==== Sys2Proof/Machine/SourceCommands.lean ====
section
/-! DEFINITION. The commands of the capture sources (chapter 3): one meaning for each row. -/

namespace Sys2Proof.Machine

/-- The occurrence of a periodic generator is served (R43). -/
def State.perServes (s : State) (g : PerGen) : Bool := s.perOccurs g && !s.seqActive && s.burstLeft g == 0

/-- CAPTURE_NOW (R52). -/
def execCaptureNow (set : Bool) (s : State) : Host.Outcome State Fault Refusal :=
  .next (s.writeFlag .csDemand 0 set)

/-- PERIODIC_REQUEST (R44). -/
def execPeriodicRequest (gen : PerGen) (set : Bool) (s : State) : Host.Outcome State Fault Refusal :=
  .next (s.writeFlag .csDemand (perBit gen + 1) set)

/-- REFERENCE_REQUEST (R45). -/
def execReferenceRequest (gen : RefGen) (set : Bool) (s : State) : Host.Outcome State Fault Refusal :=
  .next (s.writeFlag .csDemand (refBit gen + 3) set)

/-- RANDOM_ENABLE (R50). -/
def execRandomEnable (set : Bool) (s : State) : Host.Outcome State Fault Refusal :=
  .next (s.writeFlag .csRandomEnable 0 set)

/-- SENSE_EDGE (R34, R35). -/
def execSenseEdge (s : State) : Host.Outcome State Fault Refusal :=
  let s := s.arrive .sense
  .next s.takeSense

/-- SENSOR_DUE (R38); the step alone (log 3). -/
def execSensorDue (s : State) : Host.Outcome State Fault Refusal :=
  let s := s.arrive .step
  .next s.ringProposal

/-- BRACKET_PROPOSAL (R41); the step alone (log 3). -/
def execBracketProposal (s : State) : Host.Outcome State Fault Refusal :=
  let s := s.arrive .step
  .next s.bracketPropose

/-- BRACKET_START (R40), for one entry; the step alone (log 3). -/
def execBracketStart (s : State) : Host.Outcome State Fault Refusal :=
  let s := s.arrive .step
  .next s.bracketStartOne

/-- PERIODIC_OCCURRENCE (R43): the test, and the first proposal of a burst that starts; the step alone (log 3). -/
def execPeriodicOccurrence (gen : PerGen) (s : State) : Host.Outcome State Fault Refusal :=
  let s := s.arrive .step
  .next (if s.perServes gen then (s.perTest gen).perPropose gen else s.perTest gen)

/-- REFERENCE_DUE (R46); the step alone (log 3). -/
def execReferenceDue (gen : RefGen) (s : State) : Host.Outcome State Fault Refusal :=
  let s := s.arrive .step
  .next ((s.refMark gen).refPropose gen)

end Sys2Proof.Machine
end

