-- ==== Sys2Proof/Machine/GateCommands.lean ====
section
/-! DEFINITION. The commands of admission's timers and of Gate Dispatch (chapters 4, 5 and 7): one meaning for each row. -/

namespace Sys2Proof.Machine

/-- A countdown of 1 reaches 0 and its line goes inactive (R115). -/
def State.endPulse (s : State) (line : GateLine) : State :=
  match line with
  | .reject => if s.gd.rejLeft = 1 then { s with gd := { s.gd with rejLeft := 0 } } else s
  | .divert => if s.gd.divLeft = 1 then { s with gd := { s.gd with divLeft := 0 } } else s

/-- FIRE_PULSE_END (R66): the pulse timer, while it runs, expires. -/
def execFirePulseEnd (group : Group) (s : State) : Host.Outcome State Fault Refusal :=
  let s := s.arrive .late
  .next (s.setFire group none)

/-- MODEL_DRAIN (R70): the drain timer, while it runs, expires. -/
def execModelDrain (group : Group) (s : State) : Host.Outcome State Fault Refusal :=
  let s := s.arrive .late
  .next (if (s.model group).drain.isSome then s.drainModel group else s)

/-- GATE_RETIREMENT (R111), for one entry; the step alone (log 3). -/
def execGateRetirement (s : State) : Host.Outcome State Fault Refusal :=
  let s := s.arrive .step
  .next s.retireOne.refreshSilence

/-- GATE_PULSE_END (R115), when one position is left to run; the step alone (log 3). -/
def execGatePulseEnd (line : GateLine) (s : State) : Host.Outcome State Fault Refusal :=
  let s := s.arrive .step
  .next (s.endPulse line)

end Sys2Proof.Machine
end

