-- ==== Sys2Proof/WellFormed.lean ====
section
/-! DEFINITION. Which commands a sender can send: the operands that the rows of the table allow. -/

namespace Sys2Proof

/-- A packet that the parser can hand on holds 1 to 16 records (R97). -/
def recordCountOk (records : List VerdictRecord) : Bool :=
  1 ≤ records.length && records.length ≤ 16

/-- The operands are ones that the command's row admits: UNMAPPED_WRITE an address that holds no register (R13),
UNMAPPED_READ an address that is no Port (a Port's read has a row of its own), REGISTER_WRITE an address that holds
one (R8), PACKET_ACCEPT 1 to 16 records (R97). Operands of fixed width need no check. -/
def Instr.wellFormed : Instr → Bool
  | .pinReset => true
  | .readinessEnd => true
  | .registerWrite a _ => Machine.mapped a
  | .unmappedRead a => !Machine.isPort a
  | .installLock _ => true
  | .refusedClear _ => true
  | .tableDataRead _ => true
  | .tableDataWrite _ _ => true
  | .logPop => true
  | .rawRead => true
  | .start _ => true
  | .stop _ => true
  | .abort _ => true
  | .recover _ => true
  | .snapshot _ => true
  | .clearCounters _ => true
  | .selectiveClear _ _ => true
  | .clearLog _ => true
  | .clearRx _ => true
  | .deviceReset _ => true
  | .eventClear _ => true
  | .intPolarityChange _ => true
  | .countRestart _ => true
  | .userCommandRequest _ => true
  | .slotCancel _ => true
  | .flush => true
  | .srRequest _ => true
  | .frRequest _ => true
  | .captureNow _ => true
  | .periodicRequest _ _ => true
  | .referenceRequest _ _ => true
  | .randomEnable _ => true
  | .generatorEnable _ => true
  | .sourceChange _ => true
  | .indexUseChange _ => true
  | .stallLimitWrite _ => true
  | .linkEnableChange _ => true
  | .rawModeChange _ => true
  | .parserPause _ => true
  | .swFlowClear => true
  | .hwFlowClear => true
  | .silenceLimitWrite _ => true
  | .encoderStep _ => true
  | .indexEdge => true
  | .generatorStep => true
  | .senseEdge => true
  | .positionEvent _ => true
  | .cycleStart => true
  | .missingIndex => true
  | .sensorDue => true
  | .bracketProposal => true
  | .referenceDue _ => true
  | .firePulseEnd _ => true
  | .modelDrain _ => true
  | .gateRetirement => true
  | .gatePulseEnd _ => true
  | .stallExpiry => true
  | .quiesceEnd _ => true
  | .recoverEnd _ => true
  | .runDrained => true
  | .vcCharacter _ _ => true
  | .parseEntry => true
  | .truncatedGap => true
  | .packetAccept _ rs => recordCountOk rs
  | .vcTxComplete => true
  | .silenceExpiry => true
  | .frameSelection => true
  | .frameEnd => true
  | .spacingEnd => true
  | .pollTimerExpiry => true
  | .statusReply _ => true
  | .replyTimeout => true
  | .shortReply => true
  | .unsolicitedCharacter _ => true
  | .fullResyncStart => true
  | .stationResyncStart => true
  | .slotGuardOpening _ => true
  | .slotAnchor _ => true
  | .periodicOccurrence _ => true
  | .bracketStart => true
  | .transactionHeader _ _ _ => true
  | .transactionEnd => true
  | .unmappedWrite a _ => !Machine.mapped a
  | .replyCharacter _ => true

end Sys2Proof
end

