-- ==== Sys2Proof/Machine/ChannelCommands.lean ====
section
/-! DEFINITION. The commands of the Verdict Channel (chapter 6): one meaning for each row. -/

namespace Sys2Proof.Machine

/-- The parser is not suspended and finds an entry (R93). -/
def State.parserReady (s : State) : Bool := !s.suspended && !s.vc.fifo.isEmpty

/-- RAW_MODE_CHANGE (R94). -/
def execRawModeChange (set : Bool) (s : State) : Host.Outcome State Fault Refusal :=
  .next (s.writeFlag .vcCfg 0 set)

/-- PARSER_PAUSE (R93). -/
def execParserPause (set : Bool) (s : State) : Host.Outcome State Fault Refusal :=
  .next (s.writeFlag .vcCfg 1 set)

/-- SW_FLOW_CLEAR (R105). -/
def execSwFlowClear (s : State) : Host.Outcome State Fault Refusal :=
  .next (s.writeFlag .vcFlowCfg 0 false)

/-- HW_FLOW_CLEAR (R107). -/
def execHwFlowClear (s : State) : Host.Outcome State Fault Refusal :=
  .next (s.writeFlag .vcFlowCfg 1 false)

/-- SILENCE_LIMIT_WRITE (R109). -/
def execSilenceLimitWrite (ms : BitVec 16) (s : State) : Host.Outcome State Fault Refusal :=
  .next (s.writeField .vcSilenceMs 0xFFFF#32 (ms.zeroExtend 32))

/-- VC_CHARACTER (R92, R93): the channel's work at the edge of the completion (log 12). -/
def execVcCharacter (char : LineChar) (idle : Nat) (s : State) : Host.Outcome State Fault Refusal :=
  let s := s.arrive .parse
  .next (s.characterEdge char idle)

/-- PARSE_ENTRY (R93): the channel's work at an edge without a completion. -/
def execParseEntry (s : State) : Host.Outcome State Fault Refusal :=
  let s := s.arrive .parse
  .next (if s.parserReady then s.parserTake.evalFlow else s)

/-- TRUNCATED_GAP (R100): the line has been silent for too long inside a packet. -/
def execTruncatedGap (s : State) : Host.Outcome State Fault Refusal :=
  let s := s.arrive .parse
  .next (if s.gapWatched then s.truncate else s)

/-- PACKET_ACCEPT (R103, R104); a packet without 1 to 16 records is none (R97, log 20). -/
def execPacketAccept (seqNo : Byte) (records : List VerdictRecord) (s : State) : Host.Outcome State Fault Refusal :=
  if recordCountOk records then .next ((s.arrive .accept).acceptPacket seqNo records) else .refused .malformedPacket

/-- VC_TX_COMPLETE (R106). -/
def execVcTxComplete (s : State) : Host.Outcome State Fault Refusal :=
  let s := s.arrive .txEnd
  .next s.completeTx

/-- SILENCE_EXPIRY (R109): the silence watchdog, while it runs, expires. -/
def execSilenceExpiry (s : State) : Host.Outcome State Fault Refusal :=
  let s := s.arrive .late
  .next (if s.vc.silence.isSome then s.expireSilence else s)

end Sys2Proof.Machine
end

