-- ==== Sys2Proof/Machine/LinkCommands.lean ====
section
/-! DEFINITION. The commands of the Station Link and its scheduler (chapters 8 and 9): one meaning for each row. -/

namespace Sys2Proof.Machine

/-- LINK_ENABLE_CHANGE (R129). -/
def execLinkEnableChange (set : Bool) (s : State) : Host.Outcome State Fault Refusal :=
  .next (s.writeFlag .slCfg 0 set)

/-- USER_COMMAND_REQUEST (R140, R144). -/
def execUserCommandRequest (set : Bool) (s : State) : Host.Outcome State Fault Refusal :=
  .next (s.writeFlag .slDemand 0 set)

/-- SLOT_CANCEL (R144). -/
def execSlotCancel (slots : Word) (s : State) : Host.Outcome State Fault Refusal :=
  .next (s.hostWrite Reg.slSlotCancel.address slots)

/-- The place of a character completed on LINK_RX: in Reply it may end the poll transaction and begin Spacing, whose end
comes at a later edge (R129, R134); elsewhere it is unsolicited (R136). -/
def State.characterPlace (s : State) : Place := if s.sl.link = .reply then .linkEnd else .linkChar

/-- FRAME_SELECTION (R146): the selection of the edge of the rows before it, among what stood startable when that edge
began; what the selection leaves startable stands for the edges after it (log 29). -/
def execFrameSelection (s : State) : Host.Outcome State Fault Refusal :=
  let s := s.arrive .selection
  .next (s.select s.sl.earlier).closeEdge

/-- FRAME_END (R124): the frame in progress ends. -/
def execFrameEnd (s : State) : Host.Outcome State Fault Refusal :=
  let s := s.arrive .linkEnd
  .next (if s.sl.link = .sending then s.endFrame else s)

/-- SPACING_END (R129): Spacing ends. -/
def execSpacingEnd (s : State) : Host.Outcome State Fault Refusal :=
  let s := s.arrive .linkEnd
  .next (if s.sl.link = .spacing then s.endSpacing else s)

/-- POLL_TIMER_EXPIRY (R132): the poll timer, while it runs, expires. -/
def execPollTimerExpiry (s : State) : Host.Outcome State Fault Refusal :=
  let s := s.arrive .late
  .next (if s.sl.pollTimer.isSome then s.expirePoll else s)

/-- STATUS_REPLY (R134 to R136): a character completes on LINK_RX; the fourth of a reply is judged (log 13). -/
def execStatusReply (char : LineChar) (s : State) : Host.Outcome State Fault Refusal :=
  let s := s.arrive s.characterPlace
  .next (s.linkCharacter char)

/-- REPLY_CHARACTER (R134 to R136): a character completes on LINK_RX; in Reply it is the next one of the reply (log
13). -/
def execReplyCharacter (char : LineChar) (s : State) : Host.Outcome State Fault Refusal :=
  let s := s.arrive s.characterPlace
  .next (s.linkCharacter char)

/-- REPLY_TIMEOUT (R134): no header has come in the reply window. -/
def execReplyTimeout (s : State) : Host.Outcome State Fault Refusal :=
  let s := s.arrive .linkEnd
  .next (if s.replyAwaited = true ∧ s.sl.reply = [] then s.endWithMiss 1 else s)

/-- SHORT_REPLY (R134): a reply has stopped after its header. -/
def execShortReply (s : State) : Host.Outcome State Fault Refusal :=
  let s := s.arrive .linkEnd
  .next (if s.replyAwaited = true ∧ s.sl.reply ≠ [] then s.endWithMiss 2 else s)

/-- UNSOLICITED_CHARACTER (R134 to R136): a character completes on LINK_RX; in Idle and Spacing it is unsolicited (log
13). -/
def execUnsolicitedCharacter (char : LineChar) (s : State) : Host.Outcome State Fault Refusal :=
  let s := s.arrive s.characterPlace
  .next (s.linkCharacter char)

/-- SLOT_GUARD_OPENING (R141), when the cycle index is the slot's guard opening; the step alone (log 3). -/
def execSlotGuardOpening (slot : SlotId) (s : State) : Host.Outcome State Fault Refusal :=
  let s := s.arrive .step
  .next (if s.lp.cycleIndex = s.slotOpening slot then s.openingArrives slot else s)

/-- SLOT_ANCHOR (R142), when the cycle index is the slot's anchor; the step alone (log 3). -/
def execSlotAnchor (slot : SlotId) (s : State) : Host.Outcome State Fault Refusal :=
  let s := s.arrive .step
  .next (if s.lp.cycleIndex = s.slotAnchor slot then s.anchorArrives slot else s)

end Sys2Proof.Machine
end

