-- ==== Sys2Proof/Machine/SequenceCommands.lean ====
section
/-! DEFINITION. The commands of batch routing, the resync sequences and the drain (chapters 10 to 12): one meaning for each row. -/

namespace Sys2Proof.Machine

/-- FLUSH (R157). -/
def execFlush (s : State) : Host.Outcome State Fault Refusal :=
  .next (s.writeFlag .brDemand 0 true)

/-- SR_REQUEST (R159). -/
def execSrRequest (set : Bool) (s : State) : Host.Outcome State Fault Refusal :=
  .next (s.writeFlag .sqDemand 0 set)

/-- FR_REQUEST (R159). -/
def execFrRequest (set : Bool) (s : State) : Host.Outcome State Fault Refusal :=
  .next (s.writeFlag .sqDemand 1 set)

/-- QUIESCE_END (R162), when the count as it stands lets the sequence leave Quiescing; the step alone (log 3). -/
def execQuiesceEnd (seq : SeqId) (s : State) : Host.Outcome State Fault Refusal :=
  let s := s.arrive .step
  .next (if (s.seq seq).state = .quiescing then s.judgeQuiesce seq else s)

/-- RECOVER_END (R164), when the count as it stands has reached RECOVER; the step alone (log 3). -/
def execRecoverEnd (seq : SeqId) (s : State) : Host.Outcome State Fault Refusal :=
  let s := s.arrive .step
  .next (if (s.seq seq).state = .recovering then s.judgeRecover seq else s)

/-- RUN_DRAINED (R169): the drained test. -/
def execRunDrained (s : State) : Host.Outcome State Fault Refusal :=
  let s := s.arrive .step
  .next s.drainedTest

/-- FULL_RESYNC_START (R160, R161), with its flush (R157); the step alone (log 3). -/
def execFullResyncStart (s : State) : Host.Outcome State Fault Refusal :=
  let s := s.arrive .step
  .next (if s.fullStarts then s.startFull.flushRoute else s)

/-- STATION_RESYNC_START (R160); the step alone (log 3). -/
def execStationResyncStart (s : State) : Host.Outcome State Fault Refusal :=
  let s := s.arrive .step
  .next (if s.stationStarts then s.startStation else s)

end Sys2Proof.Machine
end

