-- ==== Sys2Proof/Machine/Clock.lean ====
section
/-! DEFINITION. One edge of the 25 MHz reference clock on which no command arrives (log 2): the timers count, and what
has become ready happens in the order of R32. -/

namespace Sys2Proof.Machine

/-- A count of microticks left, one boundary later. -/
def countDown (t : Option Nat) : Option Nat := t.map (· - 1)

/-- A count of microticks elapsed, one boundary later. -/
def countUp (t : Option Nat) : Option Nat := t.map (· + 1)

/-- A buffer model's drain timer, one boundary later. -/
def Model.count (m : Model) : Model := { m with drain := countDown m.drain }

/-- The microtick timers that run, one boundary later (R28). The generator's timer is counted at its own place. -/
def State.countTimers (s : State) : State :=
  { s with
    ad := { s.ad with
      modelA := s.ad.modelA.count, modelB := s.ad.modelB.count, modelC := s.ad.modelC.count,
      modelD := s.ad.modelD.count, fireA := countDown s.ad.fireA, fireB := countDown s.ad.fireB,
      fireC := countDown s.ad.fireC, fireD := countDown s.ad.fireD }
    sl := { s.sl with pollTimer := countDown s.sl.pollTimer }
    vc := { s.vc with silence := countUp s.vc.silence }
    lp := { s.lp with stallTimer := countUp s.lp.stallTimer }
    port := { s.port with readyLeft := s.port.readyLeft - 1 } }

/-- The counts of reference clock periods: the spacing of position events (R21), the idle time (R91), the character on
VC_TX (R106) and the frame, reply window or Spacing in progress (R124, R129, R134). -/
def State.countPeriods (s : State) : State :=
  { s with
    clk := { s.clk with sincePosition := min Config.eventSpacing (s.clk.sincePosition + 1) }
    vc := { s.vc with idle := s.vc.idle + 1, tx := s.vc.tx.map fun t => { t with left := t.left - 1 } }
    sl := { s.sl with left := s.sl.left - 1 } }

/-- A position is taken at this edge (R21). -/
def State.positionReady (s : State) : Bool :=
  decide (s.lp.acc ≠ 0) && decide (Config.eventSpacing ≤ s.clk.sincePosition)

/-- The levels that this edge finds on the input pins: the next of those that wait, or those in force (log 28). -/
def State.takeSample (s : State) : State :=
  match s.inputs with
  | [] => s
  | x :: rest => { s with pins := x.pins, lines := x.lines, inputs := rest }

/-- The turnaround byte of a read transaction ends at this edge (R2). -/
def State.turnsNow (s : State) : Bool :=
  match s.inputs with
  | [] => false
  | x :: _ => x.turned

/-- The levels of this edge kept as the samples that the next edge compares with (R17, R34). -/
def State.keepSample (s : State) : State :=
  { s with sampled :=
    { encStep := some s.lines.encStep, encIndex := some s.lines.encIndex, sense := some s.lines.sense } }

/-- The recognition of encoder steps, index edges and SENSE edges on the levels of this edge (R17, R24, R32, R34), in
this order (log 40). -/
def State.recognise (s : State) : State :=
  let seen := s.sampled
  let s := s.keepSample
  let s := if risen seen.encStep s.lines.encStep then s.takeStep s.lines.encDir else s
  let s := if risen seen.encIndex s.lines.encIndex then s.takeIndexEdge else s
  if risen seen.sense s.lines.sense then s.takeSense else s

/-- The character on VC_TX has run its time (R106). -/
def State.txDone (s : State) : Bool :=
  match s.vc.tx with
  | none => false
  | some t => t.left == 0

/-- The Verdict Channel's part of an edge (R93, R106). -/
def State.channelEdge (s : State) : State :=
  let s := if s.txDone then s.completeTx else s
  s.vcReceive.gapCheck.parserTake.evalFlow

/-- The Station Link's part of an edge (R146); `old` is the state at its start. -/
def State.linkEdge (s old : State) : State :=
  let s := s.linkReceive
  let s := if s.sl.link = .sending ∧ old.sl.link = .sending ∧ s.sl.left = 0 then s.endFrame else s
  let s := if s.sl.link = .spacing ∧ old.sl.link = .spacing ∧ s.sl.left = 0 then s.endSpacing else s
  s.select old.startableNow

/-- A fire line's expiry at a boundary (R66). -/
def State.fireBoundary (s : State) (g : Group) : State := if s.fire g = some 0 then s.setFire g none else s

/-- A model's drain expiry at a boundary (R70). -/
def State.drainBoundary (s : State) (g : Group) : State :=
  if (s.model g).drain = some 0 then s.drainModel g else s

/-- The poll timer's expiry at a boundary (R132). -/
def State.pollBoundary (s : State) : State := if s.sl.pollTimer = some 0 then s.expirePoll else s

/-- A timer of a limit in milliseconds, 0 standing for off, has reached it (R29, R109). -/
def msReached (ms : Nat) (t : Option Nat) : Bool :=
  match t with
  | none => false
  | some n => decide (ms ≠ 0) && decide (ms * 1000 ≤ n)

/-- The silence watchdog's comparison at a boundary (R109). -/
def State.silenceBoundary (s : State) : State := if msReached s.silenceMs s.vc.silence then s.expireSilence else s

/-- The stall watch's comparison at a boundary (R29). -/
def State.stallBoundary (s : State) : State := if msReached s.stallMs s.lp.stallTimer then s.expireStall else s

/-- The end of the readiness period (R6). -/
def State.readyBoundary (s : State) : State :=
  if s.port.ready = false ∧ s.port.readyLeft = 0 then s.endReadiness else s

/-- The expiries of a microtick boundary in the order of R28. -/
def State.boundary (s : State) : State :=
  let s := allGroups.foldl State.drainBoundary (allGroups.foldl State.fireBoundary s)
  s.pollBoundary.silenceBoundary.stallBoundary.readyBoundary

/-- The divider, one period later (R28). -/
def State.divide (s : State) : State :=
  { s with clk := { s.clk with divider := (s.clk.divider + 1) % Config.microtick } }

/-- One edge of the reference clock (R28, R32). The step of the generator comes after the other inputs (log 40). The first
word of a read is taken last, because it reflects every event up to its edge (R2), and then SPI_CS_N is followed. -/
def State.tick (s : State) : State :=
  let turned := s.turnsNow
  let csBefore := s.lines.csN
  let s := s.takeSample.divide.countPeriods
  let atBoundary := s.clk.divider == 0
  let s := if atBoundary then s.countTimers else s
  let old := s
  let s := if s.positionReady then s.positionEvent else s
  let s := s.recognise
  let s := if atBoundary then s.genTick else s
  let s := s.channelEdge.linkEdge old
  let s := if atBoundary then s.boundary else s
  ((if turned then s.endTurnaround else s).followSelect csBefore).closeEdge

end Sys2Proof.Machine
end

