-- ==== Sys2Proof/Machine/Dispatch.lean ====
section
/-! DEFINITION. The meaning of every command: one arm for each row of spec/opcode_table.json. -/

namespace Sys2Proof.Machine

def exec (i : Instr) (s : State) : Host.Outcome State Fault Refusal :=
  match i with
  | .pinReset => Sys2Proof.Machine.execPinReset s
  | .readinessEnd => Sys2Proof.Machine.execReadinessEnd s
  | .registerWrite addr value => Sys2Proof.Machine.execRegisterWrite addr value s
  | .unmappedRead addr => Sys2Proof.Machine.execUnmappedRead addr s
  | .installLock others => Sys2Proof.Machine.execInstallLock others s
  | .refusedClear others => Sys2Proof.Machine.execRefusedClear others s
  | .tableDataRead table => Sys2Proof.Machine.execTableDataRead table s
  | .tableDataWrite table value => Sys2Proof.Machine.execTableDataWrite table value s
  | .logPop => Sys2Proof.Machine.execLogPop s
  | .rawRead => Sys2Proof.Machine.execRawRead s
  | .start others => Sys2Proof.Machine.execStart others s
  | .stop others => Sys2Proof.Machine.execStop others s
  | .abort others => Sys2Proof.Machine.execAbort others s
  | .recover others => Sys2Proof.Machine.execRecover others s
  | .snapshot others => Sys2Proof.Machine.execSnapshot others s
  | .clearCounters others => Sys2Proof.Machine.execClearCounters others s
  | .selectiveClear bank groups => Sys2Proof.Machine.execSelectiveClear bank groups s
  | .clearLog others => Sys2Proof.Machine.execClearLog others s
  | .clearRx others => Sys2Proof.Machine.execClearRx others s
  | .deviceReset others => Sys2Proof.Machine.execDeviceReset others s
  | .eventClear flags => Sys2Proof.Machine.execEventClear flags s
  | .intPolarityChange activeLow => Sys2Proof.Machine.execIntPolarityChange activeLow s
  | .countRestart set => Sys2Proof.Machine.execCountRestart set s
  | .userCommandRequest set => Sys2Proof.Machine.execUserCommandRequest set s
  | .slotCancel slots => Sys2Proof.Machine.execSlotCancel slots s
  | .flush => Sys2Proof.Machine.execFlush s
  | .srRequest set => Sys2Proof.Machine.execSrRequest set s
  | .frRequest set => Sys2Proof.Machine.execFrRequest set s
  | .captureNow set => Sys2Proof.Machine.execCaptureNow set s
  | .periodicRequest gen set => Sys2Proof.Machine.execPeriodicRequest gen set s
  | .referenceRequest gen set => Sys2Proof.Machine.execReferenceRequest gen set s
  | .randomEnable set => Sys2Proof.Machine.execRandomEnable set s
  | .generatorEnable set => Sys2Proof.Machine.execGeneratorEnable set s
  | .sourceChange internal => Sys2Proof.Machine.execSourceChange internal s
  | .indexUseChange use => Sys2Proof.Machine.execIndexUseChange use s
  | .stallLimitWrite ms => Sys2Proof.Machine.execStallLimitWrite ms s
  | .linkEnableChange set => Sys2Proof.Machine.execLinkEnableChange set s
  | .rawModeChange set => Sys2Proof.Machine.execRawModeChange set s
  | .parserPause set => Sys2Proof.Machine.execParserPause set s
  | .swFlowClear => Sys2Proof.Machine.execSwFlowClear s
  | .hwFlowClear => Sys2Proof.Machine.execHwFlowClear s
  | .silenceLimitWrite ms => Sys2Proof.Machine.execSilenceLimitWrite ms s
  | .encoderStep forward => Sys2Proof.Machine.execEncoderStep forward s
  | .indexEdge => Sys2Proof.Machine.execIndexEdge s
  | .generatorStep => Sys2Proof.Machine.execGeneratorStep s
  | .senseEdge => Sys2Proof.Machine.execSenseEdge s
  | .positionEvent pins => Sys2Proof.Machine.execPositionEvent pins s
  | .cycleStart => Sys2Proof.Machine.execCycleStart s
  | .missingIndex => Sys2Proof.Machine.execMissingIndex s
  | .sensorDue => Sys2Proof.Machine.execSensorDue s
  | .bracketProposal => Sys2Proof.Machine.execBracketProposal s
  | .referenceDue gen => Sys2Proof.Machine.execReferenceDue gen s
  | .firePulseEnd group => Sys2Proof.Machine.execFirePulseEnd group s
  | .modelDrain group => Sys2Proof.Machine.execModelDrain group s
  | .gateRetirement => Sys2Proof.Machine.execGateRetirement s
  | .gatePulseEnd line => Sys2Proof.Machine.execGatePulseEnd line s
  | .stallExpiry => Sys2Proof.Machine.execStallExpiry s
  | .quiesceEnd seq => Sys2Proof.Machine.execQuiesceEnd seq s
  | .recoverEnd seq => Sys2Proof.Machine.execRecoverEnd seq s
  | .runDrained => Sys2Proof.Machine.execRunDrained s
  | .vcCharacter char idle => Sys2Proof.Machine.execVcCharacter char idle s
  | .parseEntry => Sys2Proof.Machine.execParseEntry s
  | .truncatedGap => Sys2Proof.Machine.execTruncatedGap s
  | .packetAccept seqNo records => Sys2Proof.Machine.execPacketAccept seqNo records s
  | .vcTxComplete => Sys2Proof.Machine.execVcTxComplete s
  | .silenceExpiry => Sys2Proof.Machine.execSilenceExpiry s
  | .frameSelection => Sys2Proof.Machine.execFrameSelection s
  | .frameEnd => Sys2Proof.Machine.execFrameEnd s
  | .spacingEnd => Sys2Proof.Machine.execSpacingEnd s
  | .pollTimerExpiry => Sys2Proof.Machine.execPollTimerExpiry s
  | .statusReply char => Sys2Proof.Machine.execStatusReply char s
  | .replyTimeout => Sys2Proof.Machine.execReplyTimeout s
  | .shortReply => Sys2Proof.Machine.execShortReply s
  | .unsolicitedCharacter char => Sys2Proof.Machine.execUnsolicitedCharacter char s
  | .fullResyncStart => Sys2Proof.Machine.execFullResyncStart s
  | .stationResyncStart => Sys2Proof.Machine.execStationResyncStart s
  | .slotGuardOpening slot => Sys2Proof.Machine.execSlotGuardOpening slot s
  | .slotAnchor slot => Sys2Proof.Machine.execSlotAnchor slot s
  | .periodicOccurrence gen => Sys2Proof.Machine.execPeriodicOccurrence gen s
  | .bracketStart => Sys2Proof.Machine.execBracketStart s
  | .transactionHeader byte0 byte1 byte2 => Sys2Proof.Machine.execTransactionHeader byte0 byte1 byte2 s
  | .transactionEnd => Sys2Proof.Machine.execTransactionEnd s
  | .unmappedWrite addr value => Sys2Proof.Machine.execUnmappedWrite addr value s
  | .replyCharacter char => Sys2Proof.Machine.execReplyCharacter char s

end Sys2Proof.Machine
end

