-- ==== Sys2Proof/Safety.lean ====
section
/-! DEFINITION. What holds of the machine between steps, and what every host word does beside its own effect: the
terms the statements use. -/

namespace Sys2Proof.Machine

/-! ### Invariants -/

/-- Every addressed memory is in its canonical form. -/
def State.tablesCanonical (s : State) : Bool :=
  tableWf regReset s.regs && tableWf zeroDefault s.pattern && tableWf zeroDefault s.route &&
    tableWf zeroDefault s.counters && tableWf zeroDefault s.shadows

/-- No list holds more than its capacity (R21, R37, R73, R80, R92, R119, R145), the station table has its 15
entries (section 8.5), and a character under way has at most its nine bits before the stop bit (R90). -/
def State.withinCapacity (s : State) : Prop :=
  s.lp.acc ≤ 4 ∧ s.cs.ring.length ≤ 32 ∧ s.lg.entries.length ≤ 512 ∧ s.lg.window.length ≤ 32 ∧
    s.vc.fifo.length ≤ 256 ∧ s.gd.log.length ≤ 128 ∧ s.sl.routeQ.length ≤ 8 ∧ s.sl.tagQ.length ≤ 64 ∧
    s.sl.noticeQ.length ≤ 32 ∧ s.sl.stations.length = 15 ∧
    (∀ c ∈ s.vc.rx.char, c.bits.length ≤ 9) ∧ ∀ c ∈ s.sl.rx.char, c.bits.length ≤ 9

/-- At most one slot is Due, no slot of higher priority is Due or Sending beside it (R142), only the Cycle Mark slot
holds the marks of a re-request at its own guard opening (R141), and only a Due slot waits for a new anchor (R139). -/
def State.dueAlone (s : State) : Prop :=
  (∀ i, (s.slot i).state = .due → ∀ j ∈ higherSlots i, (s.slot j).state ≠ .due ∧ (s.slot j).state ≠ .sending) ∧
    (∀ i, i ≠ .cycleMark → (s.slot i).openingPassed = false ∧ (s.slot i).anchorPassed = false) ∧
    ∀ i, (s.slot i).waits = true → (s.slot i).state = .due

/-- The two gate lines are never active together (R116). -/
def State.gatesExclusive (s : State) : Prop := s.gd.rejLeft = 0 ∨ s.gd.divLeft = 0

/-- No Uncaptured entry expects a verdict (R75). -/
def State.uncapturedReady (s : State) : Prop := ∀ e ∈ s.lg.entries, e.ident = none → e.expects = false

/-- While the part sends, its receiver on the link is held idle (R125). -/
abbrev State.receiverHeld (s : State) : Prop := s.sl.link = .sending → s.sl.rx = Receiver.fresh

/-! ### Commands inside an edge -/

/-- A command performed where its time has come. -/
def State.doing (s : State) (due : Bool) (c : Instr) : State :=
  match due, exec c s with
  | true, .next t => t
  | _, _ => s

/-- A row that is one step of a position event, performed inside the event: what it does to everything but the place
where it would stand as a row (logs 3 and 29). -/
def State.row (s : State) (c : Instr) : State :=
  match exec c s with
  | .next t => { t with sl := { t.sl with place := s.sl.place, earlier := s.sl.earlier } }
  | _ => s

/-- What a fault-capable event raised inside a position event leaves in run control (R172): its flag, and for a masked
one the entry into Faulted that waits for step 8, or while Faulted a bit of CAUSES. -/
def State.noted (s : State) (e : Event) : RunControl :=
  { s.rc with
    flags := s.rc.flags ||| 1#32 <<< e.num
    deferred :=
      if s.flagOf .rcFaultMask e.num = true ∧ (s.rc.state = .running ∨ s.rc.state = .draining) then s.rc.deferred ++ [e]
      else s.rc.deferred
    faultCauses :=
      if s.flagOf .rcFaultMask e.num = true ∧ s.rc.state = .faulted then s.rc.faultCauses ||| 1#32 <<< e.num
      else s.rc.faultCauses }

/-- What a close of the open batch leaves once its destination is chosen (R152, R154 to R156): the entry in use and its
uses, the next batch, the message at the tail of the route queue or lost to a full one, the counters and flags. -/
def State.closed (s : State) (pointer uses : Nat) (exhausted : Bool) (message : List Byte) : State :=
  let b := s.bump .batches
  let b := if exhausted then b.bump .routeExhausted else b
  { s with
    br := { s.br with pointer := pointer, uses := uses, batchNo := s.br.batchNo + 1#8, openCount := 0 }
    counters := (if s.sl.routeQ.length < 8 then b else b.bump .routeLost).counters
    rc := { s.rc with flags := s.rc.flags ||| (if exhausted then 0x4000#32 else 0#32) |||
      (if s.sl.routeQ.length < 8 then 0#32 else 0x2000#32) }
    sl := { s.sl with routeQ := if s.sl.routeQ.length < 8 then s.sl.routeQ ++ [message] else s.sl.routeQ } }

/-! ### What a host word does beside its own effect -/

/-- The port hears the words on its line and lets them act: it is ready (R6), no reset has abandoned the transaction on
the line (R7), and a word of it is still to come (R1) or none is open. -/
abbrev State.listens (s : State) : Prop :=
  s.port.ready = true ∧ s.port.ignoring = false ∧ ∀ t ∈ s.port.txn, 0 < t.left

/-- The open transaction after one of its write words has completed (R5). -/
def Transaction.afterWrite (t : Transaction) : Transaction :=
  { read := t.read, left := t.left - 1, addr := nextAddr t.addr, word := none }

/-- What every completed write word at an address does, whatever it writes: the open transaction moves on, or is given
up (R5, log 5), and the soft reset is disarmed (R176). It is the last event of its edge (R32, log 29). -/
def State.wordDone (s : State) (a : Addr) : State :=
  { s with
    port := { s.port with
      heading := false
      txn := if s.continues false a then s.port.txn.map Transaction.afterWrite else none }
    rc := { s.rc with resetArmed := false }
    sl := { s.sl with place := .late } }

/-- The word that a command writes at RC_ACTION, if it writes one there (R176; logs 7 and 8). -/
def actionWord (c : Instr) : Option Word :=
  match c with
  | .snapshot o => some (o ||| 1#32)
  | .clearCounters o => some (o ||| 2#32)
  | .clearLog o => some (o ||| 4#32)
  | .clearRx o => some (o ||| 8#32)
  | .deviceReset o => some (o ||| 16#32)
  | .registerWrite a v => if a = Reg.rcAction.address then some v else none
  | .unmappedWrite a v => if a = Reg.rcAction.address then some v else none
  | _ => none

/-- The word that a command writes at RC_COMMAND, if it writes one there (R167; logs 7 and 8). -/
def commandWord (c : Instr) : Option Word :=
  match c with
  | .start o => some (o ||| 1#32)
  | .stop o => some (o ||| 2#32)
  | .abort o => some (o ||| 4#32)
  | .recover o => some (o ||| 8#32)
  | .registerWrite a v => if a = Reg.rcCommand.address then some v else none
  | .unmappedWrite a v => if a = Reg.rcCommand.address then some v else none
  | _ => none

/-- The registers that place the anchors and guard openings of the slots (R139). -/
def Reg.placesAnchors (r : Reg) : Bool :=
  ([.lpCycleLen, .csRefaCfg, .csRefbCfg, .csRefcCfg, .slGuard, .slMarkAnchor, .slUserAnchor, .sqSrCfg,
    .sqFrCfg] : List Reg).contains r

/-- The registers whose word does nothing but store its bits: every register with stored bits that no rule gives a
further effect. -/
def Reg.plain (r : Reg) : Bool :=
  r.stored != 0#32 && !r.placesAnchors &&
    !([.hpCtrl, .lpCfg, .lpGenEnable, .lpStallMs, .csRandomEnable, .vcCfg, .vcFlowCfg, .vcSilenceMs, .slCfg, .slDiv,
      .slStationPtr] : List Reg).contains r

/-- A word to a register would change no field that is forbidden to it (R8 to R10). -/
def State.permits (s : State) (r : Reg) (v : Word) : Prop :=
  (s.port.installLock = true → (v ^^^ s.reg r) &&& r.info.install = 0#32) ∧
    (s.rc.state ≠ .halted → (v ^^^ s.reg r) &&& r.info.setup = 0#32)

/-- What a refused run command does beside its word (R167): LAST_CMD, LAST_RESULT, REASON and FIELD, CommandRefusals,
AccessRefused. -/
def State.commandRefused (s : State) (cmd reason field : Nat) : State :=
  { s with
    counters := (s.bump .commandRefusals).counters
    rc := { s.rc with
      lastCmd := cmd, lastResult := 2, reason := reason, field := field, flags := s.rc.flags ||| 0x80000#32 } }

/-- What an accepted run command records (R167). -/
def RunControl.accepted (x : RunControl) (cmd : Nat) : RunControl :=
  { x with lastCmd := cmd, lastResult := 1, reason := 0, field := 0, resetArmed := false }

/-- The checks of R168 on the values as stored, in the order of FIELD: `true` where the check fails. -/
def State.startChecks (s : State) : List Bool :=
  [s.fieldOf .lpCycleLen 0 13 < 16 || 4096 < s.fieldOf .lpCycleLen 0 13,
    s.fieldOf .lgGateDistance 0 16 = 0,
    !(s.fieldOf .csSenseDelay 0 12 < s.fieldOf .lgGateDistance 0 16),
    !(s.fieldOf .adModelaCfg 22 6 < s.fieldOf .adModelaCfg 16 6),
    !(s.fieldOf .adModelbCfg 22 6 < s.fieldOf .adModelbCfg 16 6),
    !(s.fieldOf .adModelcCfg 22 6 < s.fieldOf .adModelcCfg 16 6),
    !(s.fieldOf .adModeldCfg 22 6 < s.fieldOf .adModeldCfg 16 6),
    !(s.fieldOf .vcFlowLevels 8 8 < s.fieldOf .vcFlowLevels 0 8),
    s.fieldOf .brCount 0 9 = 0,
    512 ≤ s.fieldOf .lgHigh 0 10]

/-! ### What every frame and every poll transaction does beside its own effect -/

/-- What a frame start does on the link (R124, R129): Sending, the timing in force and its length, FramesSent. -/
def State.frameBegun (s : State) (f : Frame) : State :=
  { s with
    sl := { s.sl with
      rx := Receiver.fresh
      link := .sending
      left := (11 * (f.payload.length + 2) + s.deLead + s.deLag) * s.linkBitTime
      bitTime := s.linkBitTime
      lead := s.deLead
      lag := s.deLag
      frame := some f }
    counters := (s.bump (.framesSent f.kind.toNat)).counters }

/-- The end of a poll transaction (R129, R132, R134): Spacing of one character time, and the poll timer. -/
def State.pollOver (s : State) : State :=
  { s with sl := { s.sl with
      link := .spacing
      left := 11 * s.sl.bitTime
      reply := []
      discard := false
      pollTimer := if s.linkEnabled then some s.pollUs else s.sl.pollTimer } }

/-- A station after a miss (R131, section 8.5). -/
def Station.missed (x : Station) (retry : Nat) : Station :=
  { x with
    misses := min 15 (x.misses + 1)
    state :=
      match x.state with
      | .unknown => if retry + 1 ≤ min 15 (x.misses + 1) then .absent else .unknown
      | .present => if retry = 0 then .absent else .suspect
      | .suspect => if retry + 1 ≤ min 15 (x.misses + 1) then .absent else .suspect
      | .absent => .absent
      | .disabled => .disabled }

/-- A slot that starts its frame (R143). -/
def Slot.sent : Slot :=
  { state := .sending, again := false, rerequest := false, openingPassed := false, anchorPassed := false,
    waits := false }

end Sys2Proof.Machine
end

