-- ==== Sys2Proof/Certificates/Slice0/Obligations.lean ====
section
/-! DEFINITION. The statements for the provers. -/

open Sys2Proof Sys2Proof.Machine

/-! ### The step -/

/-- A step runs the command at the front of the queue on the state with the queue's rest. -/
def Obligations.StepRunsTheFrontCommand : Prop :=
  ∀ (s : State) (c : Instr) (rest : List Instr), s.pending = c :: rest →
    step s = exec c { s with pending := rest }

/-- A step on an empty queue is one edge of the reference clock, the model's choice (logs 2, 16, 23 and 28). Where
nothing is ready it only counts. In general the edge takes the next levels of the input pins (log 28), counts the
periods, at a microtick boundary moves the timers (R28), and then does what the rows do whose time has come, in the
order of R32: the waiting position, the inputs recognised, whose order among themselves is the model's choice (log
40), the Verdict Channel's work in the order of R93, the Station Link's in the order of R146 with the selection among
what was startable before, and the expiries in the order of R28. That a character on VC_TX completes before the parser
and flow control work is deduced (log 19). Where a turnaround byte ends at the edge, the read takes its first word
last (R2), and then the port follows SPI_CS_N (R1). What the edge leaves startable is kept for the next selection, the
model's choice (log 29). That the gap check takes a new VC_DIVISOR at once is the model's choice (log 49). -/
def Obligations.EmptyStepsAreClockEdges : Prop :=
  (∀ s : State, s.pending = [] → s.inputs = [] → s.lines = Lines.quiet → s.clk.divider < 24 → s.lp.acc = 0 →
    s.linkEnabled = false → s.sl.link = .idle → s.vc.fifo = [] → s.vc.tx = none → s.vc.flowPaused = false →
    s.vc.stall = false → s.vc.parser.phase = .hunting → s.vc.rx.char = none → s.sl.rx.char = none →
    step s = .next { s with
      clk := { divider := s.clk.divider + 1, sincePosition := min 40 (s.clk.sincePosition + 1) }
      sampled := { encStep := some false, encIndex := some false, sense := some false }
      vc := { s.vc with idle := s.vc.idle + 1, rx := Receiver.rested true }
      sl := { s.sl with
        left := s.sl.left - 1, rx := Receiver.rested true, earlier := s.startableNow, place := .late } }) ∧
  ∀ (s a b c d d₁ d₂ e e₁ f g t : State) (x : Sample) (rest : List Sample) (boundary silent : Bool), s.pending = [] →
    (s.inputs = [] ∧ x = { pins := s.pins, lines := s.lines, turned := false } ∧ rest = [] ∨ s.inputs = x :: rest) →
    boundary = decide (s.clk.divider % 25 = 24) →
    a = { s with
      pins := x.pins
      lines := x.lines
      inputs := rest
      clk := { divider := (s.clk.divider + 1) % 25, sincePosition := min 40 (s.clk.sincePosition + 1) }
      vc := { s.vc with
        idle := s.vc.idle + 1
        tx := s.vc.tx.map fun y => { y with left := y.left - 1 }
        silence := if boundary then s.vc.silence.map (· + 1) else s.vc.silence }
      sl := { s.sl with
        left := s.sl.left - 1
        pollTimer := if boundary then s.sl.pollTimer.map (· - 1) else s.sl.pollTimer }
      lp := { s.lp with stallTimer := if boundary then s.lp.stallTimer.map (· + 1) else s.lp.stallTimer }
      port := { s.port with readyLeft := if boundary then s.port.readyLeft - 1 else s.port.readyLeft }
      ad := if boundary then { s.ad with
          modelA := { s.ad.modelA with drain := s.ad.modelA.drain.map (· - 1) }
          modelB := { s.ad.modelB with drain := s.ad.modelB.drain.map (· - 1) }
          modelC := { s.ad.modelC with drain := s.ad.modelC.drain.map (· - 1) }
          modelD := { s.ad.modelD with drain := s.ad.modelD.drain.map (· - 1) }
          fireA := s.ad.fireA.map (· - 1)
          fireB := s.ad.fireB.map (· - 1)
          fireC := s.ad.fireC.map (· - 1)
          fireD := s.ad.fireD.map (· - 1) }
        else s.ad } →
    b = a.doing (decide (a.lp.acc ≠ 0) && decide (40 ≤ a.clk.sincePosition)) (.positionEvent a.pins) →
    c = (((({ b with sampled :=
        { encStep := some b.lines.encStep, encIndex := some b.lines.encIndex, sense := some b.lines.sense } }).doing
      (b.sampled.encStep == some false && b.lines.encStep) (.encoderStep b.lines.encDir)).doing
      (b.sampled.encIndex == some false && b.lines.encIndex) .indexEdge).doing
      (b.sampled.sense == some false && b.lines.sense) .senseEdge) →
    d = (if boundary then { c with lp := { c.lp with genTimer := c.lp.genTimer.map (· + 1) } } else c).doing
      (boundary && c.lp.genTimer.any fun n => decide (c.genPeriod ≤ n + 1)) .generatorStep →
    d₁ = d.doing (d.vc.tx.any fun y => y.left == 0) .vcTxComplete →
    silent = decide (d₁.gapLimit < d₁.vc.idle) →
    d₂ = ({ d₁ with vc := { d₁.vc with
      rx := (d₁.vc.rx.edge d₁.lines.vcRx d₁.vcBitTime silent).1 } }).doing silent .truncatedGap →
    e = (match (d₁.vc.rx.edge d₁.lines.vcRx d₁.vcBitTime silent).2 with
      | some (k, _) => d₁.doing true (.vcCharacter k 0)
      | none => if d₂.parserReady then d₂.doing true .parseEntry else d₂.evalFlow) →
    e₁ = { e with sl := { e.sl with rx := (e.sl.rx.edge e.lines.linkRx e.sl.bitTime false).1 } } →
    f = (if e.sl.link = .sending then e
      else match (e.sl.rx.edge e.lines.linkRx e.sl.bitTime false).2 with
        | some (k, _) => e.doing true (.replyCharacter k)
        | none => (e₁.doing (e.sl.left == 0 && e.sl.reply == []) .replyTimeout).doing
            (e.sl.left == 0 && e.sl.reply != []) .shortReply) →
    g = ((f.doing (a.sl.link == .sending && f.sl.left == 0) .frameEnd).doing
      (a.sl.link == .spacing && f.sl.left == 0) .spacingEnd).select a.startableNow →
    t = (if boundary then
        (((((((((((g.doing (g.fire .a == some 0) (.firePulseEnd .a)).doing
          (g.fire .b == some 0) (.firePulseEnd .b)).doing
          (g.fire .c == some 0) (.firePulseEnd .c)).doing
          (g.fire .d == some 0) (.firePulseEnd .d)).doing
          ((g.model .a).drain == some 0) (.modelDrain .a)).doing
          ((g.model .b).drain == some 0) (.modelDrain .b)).doing
          ((g.model .c).drain == some 0) (.modelDrain .c)).doing
          ((g.model .d).drain == some 0) (.modelDrain .d)).doing
          (g.sl.pollTimer == some 0) .pollTimerExpiry).doing
          (g.silenceMs != 0 && g.vc.silence.any fun n => decide (g.silenceMs * 1000 ≤ n)) .silenceExpiry).doing
          (g.stallMs != 0 && g.lp.stallTimer.any fun n => decide (g.stallMs * 1000 ≤ n)) .stallExpiry).doing
          (!g.port.ready && g.port.readyLeft == 0) .readinessEnd
      else g) →
    step s = .next { t with
      sl := { t.sl with earlier := t.startableNow, place := .late }
      port :=
        if s.lines.csN = true ∧ x.lines.csN = false then { t.port with heading := true, txn := none, ignoring := false }
        else if s.lines.csN = false ∧ x.lines.csN = true then
          { t.port with heading := false, txn := none, ignoring := false }
        else { t.port with txn := t.port.txn.map fun y =>
          if x.turned = true ∧ y.read = true ∧ y.word = none ∧ 0 < y.left then
            { y with word := some (t.startWord y.addr) }
          else y } }

/-! ### Resets (R6, R9, R176, R177) -/

/-- PIN_RESET and DEVICE_RESET (R6, R9, R176, R177). A pin reset gives every field its reset value; the waiting
commands and the levels on the input pins, which lie outside the part, stay, the model's choice (logs 1, 9 and 28); a
transaction in progress is ignored from then on (R7). A DEVICE_RESET whose preceding host word was not one arms the
soft reset and does nothing else. Right after another one it leaves every block in its reset state but for the pattern
memory, the route table and the station enables and groups, and RESET_CAUSE reads Soft; its burst, if it is one, is
ignored from then on (R7). The second word of the two-word burst at RC_ACTION (R176), whose address R5 has moved on to
0x028B, is told as a DEVICE_RESET too, the model's choice (log 37). So are that RESET_N is asserted and released in
one step (log 21), that AbandonCount becomes 0 at both resets, which R89 denies (log 35), that a word which does not
continue the open transaction is one of its own (log 5), and what the reset state holds where the spec gives no value:
the epoch of the open batch (log 44) and the fields that no register shows (log 24). That the level of SPI_CS_N at a
pin reset counts as seen after it, so that a low at the next edge can begin a header, is the model's choice (log
50). -/
def Obligations.ResetsRestoreEveryBlock : Prop :=
  ∀ (s : State) (o : Word),
    exec .pinReset s = .next { State.reset with
      pending := s.pending
      port := { Port.reset with ignoring := s.port.heading || s.port.txn.isSome || s.port.ignoring }
      pins := s.pins
      lines := s.lines
      inputs := s.inputs
      freeCount := s.freeCount } ∧
    (s.listens → s.rc.resetArmed = false → o &&& 0xF#32 = 0#32 →
      exec (.deviceReset o) s =
        .next { s.wordDone Reg.rcAction.address with
          port := { s.port with
            heading := false
            txn := if s.continues false Reg.rcAction.address then
                s.port.txn.map fun x =>
                  { read := x.read, left := x.left - 1, word := none, addr := x.addr + 1#14 }
              else none }
          rc := { s.rc with resetArmed := true } }) ∧
    (s.listens → s.rc.resetArmed = true → exec (.deviceReset o) s = .next
      { State.reset with
        pending := s.pending
        port := { Port.reset with
          ignoring := s.continues false Reg.rcAction.address || s.continues false (Reg.rcAction.address + 1#14) }
        pattern := s.pattern
        route := s.route
        sl := { Link.reset with stations := s.sl.stations.map fun x =>
          { group := x.group, state := if x.state = .disabled then .disabled else .unknown, misses := 0, busy := 0#2,
            faults := 0#6, replies := 0#8 } }
        rc := { RunControl.reset with softCause := true }
        pins := s.pins
        lines := s.lines
        inputs := s.inputs
        freeCount := s.freeCount })

/-- The readiness period (R6): a write word is dropped without a trace, a read word returns 0 but for HP_STATUS, and
READINESS_END makes the port ready. That the row does so at any count of the period is the model's choice (logs 1 and
25). UNMAPPED_READ stands for any read word, the model's choice (log 7). Where a row stands among the rows of its edge
is the model's choice (log 29). -/
def Obligations.ReadinessPeriodBlocksThePort : Prop :=
  (∀ (s : State) (a : Addr) (v : Word), s.port.ready = false → s.port.deaf = false →
    exec (.registerWrite a v) s = .next { s with
      port := { s.port with
        heading := false
        txn := if s.continues false a then s.port.txn.map Transaction.afterWrite else none }
      sl := { s.sl with place := .late } }) ∧
  (∀ (s : State) (a : Addr), s.port.ready = false → s.port.ignoring = false → s.port.txn = none →
    exec (.unmappedRead a) s = .next { s with
      port := { s.port with heading := false, sdo := if a = Reg.hpStatus.address then s.hpStatus else 0#32 }
      sl := { s.sl with place := .late } }) ∧
  (∀ s : State, exec .readinessEnd s =
    .next { s.arrive .late with port := { s.port with ready := true, readyLeft := 0 } })

/-! ### Words of the host port (chapter 1) -/

/-- What a refusal does (R12): AccessRefusals, AccessRefused, and the record unless it already holds one. -/
def Obligations.RefusalsAreCountedAndRecorded : Prop :=
  ∀ (s : State) (w : Bool) (why : AccessReason) (i : Nat) (a : Addr), i < 4096 →
    s.refuse w why i a = { s with
      counters := (s.bump .accessRefusals).counters
      rc := { s.rc with flags := s.rc.flags ||| 0x80000#32 }
      port := { s.port with
        refused := if bit s.port.refused 31 then s.port.refused else refusalRecord w why i a } } ∧
    bit (refusalRecord w why i a) 31 = true ∧ bit (refusalRecord w why i a) 30 = w ∧
    field (refusalRecord w why i a) 27 3 = why.code ∧ field (refusalRecord w why i a) 13 12 = i ∧
    bit (refusalRecord w why i a) 26 = a.getLsbD 13 ∧ field (refusalRecord w why i a) 0 13 = a.toNat % 8192

/-- A permitted word is stored whole, whatever the open transaction, and reads back (R8, R11). For a register without
further effects that is all; VC_DIVISOR is one of these, since a character on VC_TX keeps its bit time (log 36) and
what starts later reads the new one (logs 36 and 49), the model's choices. SL_STATION_PTR keeps the low 4 bits, with
15 stored as 0 (R14). SL_DIV sets the link's bit time outside frames and poll transactions (R124), at once in Idle and
Spacing, which is deduced (log 16). A word that moves a Due slot's anchor, SL_GUARD or P makes the slot wait for its
new anchor (R139), where R143 would have it start, the model's choice (log 30). -/
def Obligations.PermittedWordsAreStored : Prop :=
  ∀ (s t : State) (r : Reg) (v : Word), s.tablesCanonical = true → s.listens → s.permits r v →
    t = (s.wordDone r.address).setReg r ((s.reg r &&& ~~~r.stored) ||| (v &&& r.stored)) →
    (r.plain = true → exec (.registerWrite r.address v) s = .next t ∧
      t.readRegister r = (s.reg r &&& ~~~r.stored) ||| (v &&& r.stored)) ∧
    (r = .slDiv → exec (.registerWrite r.address v) s = .next { t with sl := { t.sl with
      bitTime := if s.sl.link = .idle ∨ s.sl.link = .spacing then t.linkBitTime else s.sl.bitTime } } ∧
      t.readRegister r = (s.reg r &&& ~~~r.stored) ||| (v &&& r.stored)) ∧
    (r = .slStationPtr → exec (.registerWrite r.address v) s = .next ((s.wordDone r.address).setReg r
      (if field v 0 4 = 15 then 0#32 else v &&& 0xF#32)) ∧
      ((s.wordDone r.address).setReg r (if field v 0 4 = 15 then 0#32 else v &&& 0xF#32)).readRegister r =
        if field v 0 4 = 15 then 0#32 else v &&& 0xF#32) ∧
    (r.placesAnchors = true → t.readRegister r = (s.reg r &&& ~~~r.stored) ||| (v &&& r.stored) ∧
      ∃ u, exec (.registerWrite r.address v) s = .next u ∧ u = { t with sl := { t.sl with slots := u.sl.slots } } ∧
        ∀ i, u.slot i =
          if (s.slot i).state = .due ∧ (t.slotAnchor i ≠ s.slotAnchor i ∨ t.slotOpening i ≠ s.slotOpening i ∨
            t.cycleLen ≠ s.cycleLen) then { s.slot i with waits := true } else s.slot i)

/-- A word that would change a forbidden field is refused whole (R8 to R10): InstallLocked when an Install field is
among them, NotHalted otherwise. -/
def Obligations.ForbiddenWordsAreRefused : Prop :=
  ∀ (s : State) (r : Reg) (v : Word), s.listens →
    (s.port.installLock = true → (v ^^^ s.reg r) &&& r.info.install ≠ 0#32 →
      exec (.registerWrite r.address v) s =
        .next ((s.wordDone r.address).refuse true .installLocked 0 r.address)) ∧
    ((s.port.installLock = true → (v ^^^ s.reg r) &&& r.info.install = 0#32) → s.rc.state ≠ .halted →
      (v ^^^ s.reg r) &&& r.info.setup ≠ 0#32 →
      exec (.registerWrite r.address v) s = .next ((s.wordDone r.address).refuse true .notHalted 0 r.address))

/-- Words at unmapped and read-only addresses are refused and do nothing else (R13); a read of an unmapped address
returns 0. REGISTER_WRITE and UNMAPPED_READ at any address are the model's choice (log 7). Where a row stands among
the rows of its edge is the model's choice (log 29). -/
def Obligations.UnmappedAndReadOnlyWordsAreRefused : Prop :=
  (∀ (s : State) (a : Addr) (v : Word), s.listens → mapped a = false →
    exec (.unmappedWrite a v) s = .next ((s.wordDone a).refuse true .unmapped 0 a)) ∧
  (∀ (s : State) (a : Addr) (v : Word), s.listens → readOnly a = true →
    exec (.registerWrite a v) s = .next ((s.wordDone a).refuse true .readOnly 0 a)) ∧
  (∀ (s : State) (a : Addr), s.listens → s.port.txn = none → mapped a = false →
    exec (.unmappedRead a) s = .next (({ s with
      port := { s.port with heading := false, sdo := 0#32 }
      sl := { s.sl with place := .late }
      rc := { s.rc with resetArmed := false } }).refuse false .unmapped 0 a))

/-- A read word of a register that is no Port returns what the register reads as and changes nothing else (R2, R13).
The registers that show what the part holds read as it, each field at its place and each number that fits its field.
What the other registers that show it read as stands in ControlWordsLockAndClear (the host port's own),
SequencesAndDrainsEnd and RequestsAreSetAndCancelled (the sequences'), SnapshotCopiesEveryCounter (the snapshot's) and
CountersCountAndWrap (the counters). LG_OLDEST_WAIT reads 0 where no entry is Awaiting, the model's choice for EPOCH
and ITEM_ID (log 45). UNMAPPED_READ stands for any read word, the model's choice (log 7), and the places of the fields
without bit numbers are deduced from the packing rule of the introduction (log 22). Where the row stands among the
rows of its edge is the model's choice (log 29). -/
def Obligations.RegisterReadsHaveNoSideEffect : Prop :=
  (∀ (s : State) (r : Reg), s.listens → s.port.txn = none → r.info.port = false →
    exec (.unmappedRead r.address) s = .next { s with
      port := { s.port with heading := false, sdo := s.readRegister r }
      sl := { s.sl with place := .late }
      rc := { s.rc with resetArmed := false } }) ∧
  ∀ (s : State) (w : Reg → Word), (∀ r, w r = s.readRegister r) →
    field (w .lpCycle) 0 12 = s.lp.cycleIndex % 4096 ∧
    (s.lp.cycleIndex < 4096 → field (w .lpCycle) 16 16 = s.lp.cycleNumber.toNat) ∧
    (bit (w .lpStatus) 0 = s.lp.lineMoving ∧ bit (w .lpStatus) 1 = s.lp.reverseSat ∧
      bit (w .lpStatus) 2 = s.lp.indexPending ∧ field (w .lpStatus) 3 3 = s.lp.acc % 8) ∧
    (s.cs.ring.length ≤ 32 → s.cs.p1Left ≤ 64 → s.cs.p2Left ≤ 64 → (∀ b ∈ s.cs.bracket, b.left ≤ 15) →
      field (w .csStatus) 0 6 = s.cs.ring.length ∧ bit (w .csStatus) 6 = s.cs.sensePending ∧
      bit (w .csStatus) 7 = s.cs.bracket.isSome ∧
      field (w .csStatus) 8 4 = (match s.cs.bracket with | some b => b.left | none => 0) ∧
      field (w .csStatus) 12 7 = s.cs.p1Left ∧ field (w .csStatus) 19 7 = s.cs.p2Left ∧
      field (w .csStatus) 26 2 = s.cs.refA.state.code ∧ field (w .csStatus) 28 2 = s.cs.refB.state.code ∧
      field (w .csStatus) 30 2 = s.cs.refC.state.code) ∧
    (s.lg.entries.length ≤ 512 → s.lg.window.length ≤ 32 →
      field (w .lgStatus) 0 10 = s.lg.entries.length ∧
      field (w .lgStatus) 10 10 = s.lg.entries.countP (fun e => e.expects && e.verdict.isNone) ∧
      field (w .lgStatus) 20 6 = s.lg.window.length ∧ bit (w .lgStatus) 26 = s.lg.high) ∧
    (s.vc.fifo.length ≤ 256 →
      field (w .vcStatus) 0 9 = s.vc.fifo.length ∧ field (w .vcStatus) 9 2 = s.vc.parser.phase.code ∧
      bit (w .vcStatus) 11 = s.vc.flowPaused ∧ bit (w .vcStatus) 12 = s.vc.stall ∧ bit (w .vcStatus) 13 = s.vc.silent ∧
      bit (w .vcStatus) 14 = s.vc.seqValid ∧ field (w .vcStatus) 15 8 = s.vc.lastSeq.toNat) ∧
    (s.gd.log.length ≤ 128 → s.gd.rejLeft ≤ 255 → s.gd.divLeft ≤ 255 →
      field (w .gdStatus) 0 8 = s.gd.log.length ∧ bit (w .gdStatus) 8 = s.gd.alert ∧
      bit (w .gdStatus) 9 = decide (s.gd.rejLeft ≠ 0) ∧ bit (w .gdStatus) 10 = decide (s.gd.divLeft ≠ 0) ∧
      field (w .gdStatus) 11 8 = s.gd.rejLeft ∧ field (w .gdStatus) 19 8 = s.gd.divLeft) ∧
    (s.sl.lastPolled ≤ 15 → s.sl.turn ≤ 15 → s.sl.missReason ≤ 7 →
      field (w .slStatus) 0 2 = s.sl.link.code ∧ field (w .slStatus) 2 4 = s.sl.lastPolled ∧
      field (w .slStatus) 6 4 = s.sl.turn ∧ field (w .slStatus) 10 8 = s.sl.pollSeq.toNat ∧
      bit (w .slStatus) 18 = s.sl.pollDue ∧ field (w .slStatus) 19 3 = s.sl.missReason) ∧
    (s.br.pointer ≤ 255 → s.br.uses ≤ 15 → s.br.openCount ≤ 63 →
      field (w .brStatus) 0 8 = s.br.pointer ∧ field (w .brStatus) 8 4 = s.br.uses ∧ field (w .brStatus) 12 4 = 0 ∧
      field (w .brStatus) 16 8 = s.br.batchNo.toNat ∧ field (w .brStatus) 24 6 = s.br.openCount ∧
      field (w .brStatus) 30 2 = 0) ∧
    (w .lpTravel = s.lp.travel ∧ field (w .lpPhase) 0 2 = s.lp.phaseKind.code ∧ field (w .lpPhase) 2 14 = 0 ∧
      (w .lpPhase).extractLsb' 16 16 = s.lp.phaseOffset ∧
      (s.lp.debt ≤ 65535 → (w .lpDebt).toNat = s.lp.debt) ∧
      (s.lp.sinceIndex ≤ 8191 → (w .lpSinceIndex).toNat = s.lp.sinceIndex)) ∧
    (w .csSampleValue = s.cs.sample ∧ w .csAuditValue = s.cs.audit ∧ bit (w .csDemand) 0 = s.cs.captureNow ∧
      bit (w .csDemand) 1 = s.cs.reqP1 ∧ bit (w .csDemand) 2 = s.cs.reqP2 ∧ bit (w .csDemand) 3 = s.cs.reqRefA ∧
      bit (w .csDemand) 4 = s.cs.reqRefB ∧ bit (w .csDemand) 5 = s.cs.reqRefC ∧ field (w .csDemand) 6 26 = 0) ∧
    (s.ad.modelA.occ ≤ 63 → s.ad.modelB.occ ≤ 63 → s.ad.modelC.occ ≤ 63 → s.ad.modelD.occ ≤ 63 →
      field (w .adModelStatus) 0 6 = s.ad.modelA.occ ∧ field (w .adModelStatus) 6 6 = s.ad.modelB.occ ∧
      field (w .adModelStatus) 12 6 = s.ad.modelC.occ ∧ field (w .adModelStatus) 18 6 = s.ad.modelD.occ ∧
      bit (w .adModelStatus) 24 = s.ad.modelA.hold ∧ bit (w .adModelStatus) 25 = s.ad.modelB.hold ∧
      bit (w .adModelStatus) 26 = s.ad.modelC.hold ∧ bit (w .adModelStatus) 27 = s.ad.modelD.hold) ∧
    (field (w .adItem) 0 24 = s.ad.nextId.toNat ∧ field (w .adItem) 24 4 = s.ad.epoch.toNat ∧
      w .adQuotaCount = s.ad.quotaCount ∧ (s.ad.spacing ≤ 65535 → (w .adSpacingCount).toNat = s.ad.spacing) ∧
      w .adHoldStatus = s.ad.holdStatus) ∧
    ((∀ e ∈ s.lg.entries, (e.expects && e.verdict.isNone) = false) → w .lgOldestWait = 0#32) ∧
    (∀ (pre post : List Entry) (e : Entry) (id : Ident), s.lg.entries = pre ++ e :: post →
      (∀ x ∈ pre, (x.expects && x.verdict.isNone) = false) → e.expects = true → e.verdict = none →
      e.ident = some id → bit (w .lgOldestWait) 31 = true ∧ field (w .lgOldestWait) 28 3 = 0 ∧
        field (w .lgOldestWait) 24 4 = id.epoch.toNat ∧ field (w .lgOldestWait) 0 24 = id.itemId.toNat) ∧
    (s.lg.entries = [] → w .lgHeadGate = 0#32) ∧
    (∀ (e : Entry) (rest : List Entry), s.lg.entries = e :: rest → w .lgHeadGate = e.gateTravel) ∧
    (s.vc.lastError ≤ 7 → (w .vcLastError).toNat = s.vc.lastError) ∧
    (w .gdLogPop1 = s.gd.latch1 ∧ w .gdLogPop2 = s.gd.latch2) ∧
    (∀ (i : SlotId) (n : Nat), [SlotId.cycleMark, .fullReset, .stationReset, .refA, .refB, .refC, .user][n]? = some i →
      field (w .slSlotStatus) (4 * n) 3 = (s.slot i).state.code ∧
      bit (w .slSlotStatus) (4 * n + 3) = (s.slot i).again) ∧
    field (w .slSlotStatus) 28 4 = 0 ∧
    (s.sl.routeQ.length ≤ 8 → s.sl.tagQ.length ≤ 64 → s.sl.noticeQ.length ≤ 32 →
      field (w .slQueueStatus) 0 4 = s.sl.routeQ.length ∧ field (w .slQueueStatus) 4 7 = s.sl.tagQ.length ∧
      field (w .slQueueStatus) 11 6 = s.sl.noticeQ.length) ∧
    (w .slDemand = (if s.sl.userRequest then 1#32 else 0#32) ∧
      w .rcDemand = (if s.rc.countRestart then 1#32 else 0#32)) ∧
    (w .rcEventPending = s.rc.flags ∧ (w .rcTopCause).toNat = s.topCause) ∧
    (s.rc.lastCmd ≤ 3 → s.rc.lastResult ≤ 2 → s.rc.reason ≤ 7 → s.rc.field ≤ 15 →
      field (w .rcStatus) 0 2 = s.rc.state.code ∧ field (w .rcStatus) 4 2 = s.rc.lastCmd ∧
      field (w .rcStatus) 6 2 = s.rc.lastResult ∧ field (w .rcStatus) 8 3 = s.rc.reason ∧
      field (w .rcStatus) 12 4 = s.rc.field ∧ bit (w .rcStatus) 16 = s.rc.softCause) ∧
    (s.rc.faultFirst ≤ 19 → s.rc.faultCauses &&& ~~~0x7C#32 = 0#32 → field (w .rcFault) 0 5 = s.rc.faultFirst ∧
      ∀ n, 2 ≤ n → n ≤ 6 → bit (w .rcFault) (n + 4) = bit s.rc.faultCauses n)

/-- INSTALL_LOCK and REFUSED_CLEAR (R9, R16): a word to HP_CTRL sets the lock and clears the record as its bits say; a
0 leaves the lock as it is. The registers of the host port read as the part holds (R16). -/
def Obligations.ControlWordsLockAndClear : Prop :=
  (∀ (s : State) (o : Word), s.listens →
    exec (.installLock o) s = .next { s.wordDone Reg.hpCtrl.address with
      port := { (s.wordDone Reg.hpCtrl.address).port with
        installLock := true
        refused := if bit o 1 then 0#32 else s.port.refused } } ∧
    exec (.refusedClear o) s = .next { s.wordDone Reg.hpCtrl.address with
      port := { (s.wordDone Reg.hpCtrl.address).port with
        installLock := s.port.installLock || bit o 0
        refused := 0#32 } }) ∧
  ∀ s : State, s.readRegister .hpId = 0x57423136#32 ∧ s.readRegister .hpRev = 1#32 ∧
    s.readRegister .hpRefused = s.port.refused ∧ bit (s.readRegister .hpStatus) 0 = s.port.ready ∧
    bit (s.readRegister .hpStatus) 1 = s.port.installLock ∧
    bit (s.readRegister .hpStatus) 2 = bit s.port.refused 31 ∧ field (s.readRegister .hpStatus) 3 29 = 0 ∧
    s.readRegister .hpCtrl = if s.port.installLock then 1#32 else 0#32

/-- The install lock stays set (R9): no command clears it but a pin reset and a word with DEVICE_RESET at RC_ACTION
while the soft reset is armed (R176). -/
def Obligations.TheInstallLockStays : Prop :=
  ∀ (s t : State) (c : Instr), s.port.installLock = true → exec c s = .next t →
    t.port.installLock = true ∨ c = .pinReset ∨ s.rc.resetArmed = true ∧ (actionWord c).any (bit · 4) = true

/-- TRANSACTION_HEADER and TRANSACTION_END (R1, R2, R4, R7): the header fixes direction, word count and address; the
end gives the transaction up. The first word of a read is taken when its turnaround byte ends (R2), which an edge of
the clock tells (log 6). After the last declared word, and in a transaction that a reset has abandoned, the port
ignores every further word. SPI_SDO drives 0 while the header is under way, then the read word in progress, and
otherwise 0 while a transaction is open; that it drives 0 through the words of a write, and nothing after a reset
until SPI_CS_N falls again, is the model's choice (log 39). -/
def Obligations.HeadersOpenTransactions : Prop :=
  (∀ (s : State) (b0 b1 b2 : Byte), ∃ t u, exec (.transactionHeader b0 b1 b2) s = .next t ∧
    t = { s with port := { s.port with heading := false, txn := some u, ignoring := false } } ∧
    u.read = b0.getLsbD 7 ∧ u.left = b0.toNat % 128 + 1 ∧ u.addr.toNat = (b1.toNat * 256 + b2.toNat) % 16384 ∧
    u.word = none) ∧
  (∀ (s : State) (t : Transaction), s.port.txn = some t →
    (t.read = true → t.word = none → 0 < t.left → s.endTurnaround = { s with port := { s.port with
      txn := some { t with word := some (s.startWord t.addr) } } }) ∧
    (t.read = false ∨ t.word ≠ none ∨ t.left = 0 → s.endTurnaround = s) ∧
    (s.startWord t.addr).value = s.readWord t.addr ∧ (s.startWord t.addr).ready = s.port.ready) ∧
  (∀ s : State, exec .transactionEnd s = .next { s with port := { s.port with
    heading := false, txn := none, ignoring := false } }) ∧
  (∀ (s : State) (t : Transaction) (a : Addr) (v : Word), s.port.ignoring = true ∨ s.port.txn = some t ∧ t.left = 0 →
    exec (.registerWrite a v) s = .next s ∧ exec (.unmappedRead a) s = .next s) ∧
  (∀ (s : State) (t : Transaction),
    (s.port.ignoring = true → s.sdoLine = none) ∧
    (s.port.ignoring = false → s.port.txn = none → s.sdoLine = if s.port.heading then some 0#32 else none) ∧
    (s.port.ignoring = false → s.port.txn = some t →
      s.sdoLine = some (match t.word with | some w => w.value | none => 0#32)))

/-- A word of an open transaction moves it on (R2, R5): one word fewer, and the next address unless the word's own
address is a Port; a word that arms the soft reset moves its burst on like every other. A read word returns what was
taken at its start and, at its completion, the next one is taken; where its start was not told (log 6), it is taken at
the completion. A pop of the log removes the record its word returned, or nothing. UNMAPPED_READ stands for any read
word (log 7). -/
def Obligations.BurstsAdvanceTheAddress : Prop :=
  ∀ (s : State) (t : Transaction) (v : Word), s.port.txn = some t → 0 < t.left → s.port.ignoring = false →
    (t.read = false → s.port.ready = false ∨ s.rc.resetArmed = false ∨ t.addr ≠ Reg.rcAction.address ∨ bit v 4 = false →
      ∃ u x, exec (.registerWrite t.addr v) s = .next u ∧
      u.port.txn = some x ∧ x.left = t.left - 1 ∧ x.read = false ∧ x.word = none ∧
      (s.port.ready = true → u.rc.resetArmed = (decide (t.addr = Reg.rcAction.address) && bit v 4)) ∧
      x.addr = if isPort t.addr then t.addr else t.addr + 1#14) ∧
    (t.read = true → ∃ u x, exec (.unmappedRead t.addr) s = .next u ∧
      u.port.sdo = (match t.word with | some w => w.value | none => s.readWord t.addr) ∧
      u.port.txn = some x ∧ x.left = t.left - 1 ∧ x.read = true ∧
      x.addr = (if isPort t.addr then t.addr else t.addr + 1#14) ∧
      (1 < t.left → ∃ w, x.word = some w ∧ w.value = u.readWord x.addr) ∧ (t.left = 1 → x.word = none) ∧
      (∀ w, s.port.ready = true → t.word = some w → w.ready = true → t.addr = Reg.gdLogPop0.address →
        (w.element = false → u.gd.log = s.gd.log) ∧
        ∀ (r : LogRecord) (rest : List LogRecord), w.element = true → s.gd.log = r :: rest →
          u.gd.log = rest ∧ u.gd.latch0 = r.word0 ∧ u.gd.latch1 = r.word1 ∧ u.gd.latch2 = r.word2))

/-- TABLE_DATA_WRITE (R14, R15, R49, R130, R153): what each table stores or refuses, and the pointer's advance, with a
refused word too. A station word under the install lock that would change ENABLE or GROUP is refused; enabling and
disabling clear MISSES, BUSY and FAULTS, and disabling discards a poll in progress of that station. Where the row
stands among the rows of its edge is the model's choice (log 29). -/
def Obligations.TableWritesStoreAndAdvance : Prop :=
  ∀ (s : State) (v : Word), s.tablesCanonical = true → s.listens →
    (s.patternEnabled = false → ∃ t, exec (.tableDataWrite .pattern v) s = .next t ∧
      t.pattern = writeTable 0#32 s.pattern (s.pointer .pattern) (v &&& 3#32) ∧
      t.pointer .pattern = (s.pointer .pattern + 1) % 4096 ∧ t.route = s.route ∧ t.sl = (s.arrive .late).sl ∧
      t.counters = s.counters) ∧
    (s.patternEnabled = true → ∃ t, exec (.tableDataWrite .pattern v) s = .next t ∧ t.pattern = s.pattern ∧
      t.pointer .pattern = (s.pointer .pattern + 1) % 4096 ∧
      t.counter .accessRefusals = s.counter .accessRefusals + 1#32 ∧
      (bit s.port.refused 31 = false →
        t.port.refused = refusalRecord true .tableBusy (s.pointer .pattern) Reg.csPatternData.address)) ∧
    (∃ t, exec (.tableDataWrite .route v) s = .next t ∧
      t.route = writeTable 0#32 s.route (s.pointer .route)
        (if field v 8 4 = 0 then (v &&& 0x8FFF#32) ||| 0x100#32 else v &&& 0x8FFF#32) ∧
      t.pointer .route = (s.pointer .route + 1) % 256 ∧ t.pattern = s.pattern ∧ t.sl = (s.arrive .late).sl) ∧
    (s.port.installLock = true → (s.station (s.pointer .station)).word &&& 7#32 ≠ v &&& 7#32 →
      ∃ t, exec (.tableDataWrite .station v) s = .next t ∧ t.sl = (s.arrive .late).sl ∧ t.pattern = s.pattern ∧
        t.route = s.route ∧
      t.pointer .station = (s.pointer .station + 1) % 15 ∧
      t.counter .accessRefusals = s.counter .accessRefusals + 1#32 ∧
      (bit s.port.refused 31 = false →
        t.port.refused = refusalRecord true .installLocked (s.pointer .station) Reg.slStationData.address)) ∧
    (∀ x, x = s.station (s.pointer .station) → s.port.installLock = false ∨ x.word &&& 7#32 = v &&& 7#32 →
      s.sl.stations.length = 15 → ∃ t, exec (.tableDataWrite .station v) s = .next t ∧
      t.station (s.pointer .station) =
        (if x.state = .disabled ∧ bit v 0 = true then
          { group := groupOf (field v 1 2), state := .unknown, misses := 0, busy := 0#2, faults := 0#6
            replies := x.replies }
        else if x.state ≠ .disabled ∧ bit v 0 = false then
          { group := groupOf (field v 1 2), state := .disabled, misses := 0, busy := 0#2, faults := 0#6
            replies := x.replies }
        else { x with group := groupOf (field v 1 2) }) ∧
      (∀ k, k ≠ s.pointer .station → t.station k = s.station k) ∧
      t.sl = { (s.arrive .late).sl with stations := t.sl.stations, discard := s.sl.discard ||
        (decide (x.state ≠ .disabled) && !bit v 0 && s.pollInProgress (s.pointer .station)) } ∧
      t.pointer .station = (s.pointer .station + 1) % 15 ∧ t.pattern = s.pattern ∧ t.route = s.route ∧
      t.counters = s.counters)

/-- TABLE_DATA_READ (R14, R15): the entry at the pointer is returned, and the pointer advances. Where the row stands
among the rows of its edge is the model's choice (log 29). -/
def Obligations.TableReadsReturnAndAdvance : Prop :=
  ∀ (s : State) (t : TableId), s.listens → s.port.txn = none →
    exec (.tableDataRead t) s = .next { s with
      port := { s.port with heading := false, sdo := s.tableWord t }
      sl := { s.sl with place := .late }
      rc := { s.rc with resetArmed := false }
      regs := writeTable 0#32 s.regs (pointerReg t).info.addr
        (BitVec.ofNat 32 ((s.pointer t + 1) % tableEntries t)) }

/-- LOG_POP and RAW_READ (R94, R122): word 0 of the head record, or the head entry of the receive FIFO, goes out and
the head leaves; a record's three words are latched. An empty log or FIFO gives the EMPTY word; that its other bits
read 0 in an empty FIFO too is the model's choice (log 46). When the fill of the FIFO falls to LOWER, a Paused
controller requests the resume character, which starts on an idle VC_TX or waits for a busy one (R105, R106), and
VC_STALL goes low (R107). A fill that still stands above both limits pauses and stalls. Where a row stands among the
rows of its edge is the model's choice (log 29). A character that starts on VC_TX takes the bit time as VC_DIVISOR
stands, the model's choice while a new one waits for the receiver's next start edge (log 36). -/
def Obligations.PortReadsTakeTheHead : Prop :=
  ∀ s : State, s.listens → s.port.txn = none →
    (∀ (r : LogRecord) (rest : List LogRecord), s.gd.log = r :: rest → ∃ t, exec .logPop s = .next t ∧
      t.port.sdo = r.word0 ∧ t.gd.log = rest ∧ t.gd.latch0 = r.word0 ∧ t.gd.latch1 = r.word1 ∧ t.gd.latch2 = r.word2 ∧
      t.gd.alert = decide (s.logAlertLevel ≤ rest.length) ∧
      t.gd.rejLeft = s.gd.rejLeft ∧ t.gd.divLeft = s.gd.divLeft ∧ t.counters = s.counters ∧ t.lg = s.lg) ∧
    (s.gd.log = [] → exec .logPop s = .next { s with
      port := { s.port with heading := false, sdo := 0x80000000#32 }
      sl := { s.sl with place := .late }
      rc := { s.rc with resetArmed := false }
      gd := { s.gd with latch0 := 0x80000000#32, latch1 := 0#32, latch2 := 0#32 } }) ∧
    (∀ (e : FifoEntry) (rest : List FifoEntry), s.vc.fifo = e :: rest → ∃ t, exec .rawRead s = .next t ∧
      t.vc.fifo = rest ∧ t.vc.parser = s.vc.parser ∧ t.lg = s.lg ∧
      field t.port.sdo 0 8 = e.data.toNat ∧ bit t.port.sdo 8 = e.marker ∧ bit t.port.sdo 9 = e.error ∧
      bit t.port.sdo 10 = e.gap ∧ bit t.port.sdo 31 = false ∧
      (rest.length ≤ s.upperLevel → t = { s with
        port := { s.port with heading := false, sdo := t.port.sdo }
        sl := { s.sl with place := .late }
        rc := { s.rc with resetArmed := false }
        counters :=
          if s.swFlow = true ∧ s.vc.flowPaused = true ∧ rest.length ≤ s.lowerLevel ∧ s.vc.tx = none then
            (s.bump .resumeSent).counters
          else s.counters
        vc := { s.vc with
          fifo := rest
          flowPaused := s.vc.flowPaused && !(s.swFlow && decide (rest.length ≤ s.lowerLevel))
          stall := s.vc.stall && !(s.hwFlow && decide (rest.length ≤ s.lowerLevel))
          tx := if s.swFlow = true ∧ s.vc.flowPaused = true ∧ rest.length ≤ s.lowerLevel ∧ s.vc.tx = none then
              some { char := .resume, data := s.flowData .resume, bitTime := s.vcBitTime, left := 11 * s.vcBitTime }
            else s.vc.tx
          waiting := if s.swFlow = true ∧ s.vc.flowPaused = true ∧ rest.length ≤ s.lowerLevel ∧ s.vc.tx ≠ none then
              some .resume
            else s.vc.waiting } }) ∧
      (s.upperLevel < rest.length → s.lowerLevel < rest.length →
        t.vc.flowPaused = (s.vc.flowPaused || s.swFlow) ∧ t.vc.stall = (s.vc.stall || s.hwFlow))) ∧
    (s.vc.fifo = [] → exec .rawRead s = .next { s with
      port := { s.port with heading := false, sdo := 0x80000000#32 }
      sl := { s.sl with place := .late }
      rc := { s.rc with resetArmed := false } })

/-! ### Run commands (R167 to R171) -/

/-- A refused command word (R167) changes RC_STATUS, CommandRefusals and the AccessRefused flag and nothing else: in
the wrong state, with more than one command, and Recover with entries in the ledger. FIELD 0 is the model's choice
(log 18). -/
def Obligations.RunCommandsAreRefused : Prop :=
  ∀ (s d : State) (o : Word), s.listens → d = s.wordDone Reg.rcCommand.address →
    (o &&& 14#32 = 0#32 → s.rc.state ≠ .halted → exec (.start o) s = .next (d.commandRefused 0 1 0)) ∧
    (o &&& 13#32 = 0#32 → s.rc.state ≠ .running → exec (.stop o) s = .next (d.commandRefused 1 1 0)) ∧
    (o &&& 11#32 = 0#32 → s.rc.state = .halted → exec (.abort o) s = .next (d.commandRefused 2 1 0)) ∧
    (o &&& 7#32 = 0#32 → s.rc.state ≠ .faulted → exec (.recover o) s = .next (d.commandRefused 3 1 0)) ∧
    (o &&& 7#32 = 0#32 → s.rc.state = .faulted → s.lg.entries ≠ [] →
      exec (.recover o) s = .next (d.commandRefused 3 3 0)) ∧
    (o &&& 14#32 ≠ 0#32 → exec (.start o) s = .next (d.commandRefused s.rc.lastCmd 4 0)) ∧
    (o &&& 15#32 = 0#32 → exec (.registerWrite Reg.rcCommand.address o) s = .next d)

/-- START in Halted (R168): the first failing check refuses it with its code in FIELD; otherwise the deadlines are
rebased, the run's counts start again and the state becomes Running, and nothing else changes. -/
def Obligations.StartValidatesThenRebases : Prop :=
  ∀ (s d : State) (o : Word), s.listens → s.rc.state = .halted → o &&& 14#32 = 0#32 →
    d = s.wordDone Reg.rcCommand.address →
    (∀ k, s.startChecks.findIdx? id = some k → exec (.start o) s = .next (d.commandRefused 0 2 (k + 1))) ∧
    (s.startChecks.findIdx? id = none → exec (.start o) s = .next { d with
      lp := { s.lp with travel := 0#32 }
      cs := { s.cs with
        ring := s.cs.ring.map fun e =>
          { e with due := e.due - s.lp.travel, window := e.window.map fun w => w - s.lp.travel }
        bracket := s.cs.bracket.map fun b => { b with next := b.next - s.lp.travel }
        refA := if s.cs.refA.state = .pending then
          { s.cs.refA with capture := s.cs.refA.capture - s.lp.travel } else s.cs.refA
        refB := if s.cs.refB.state = .pending then
          { s.cs.refB with capture := s.cs.refB.capture - s.lp.travel } else s.cs.refB
        refC := if s.cs.refC.state = .pending then
          { s.cs.refC with capture := s.cs.refC.capture - s.lp.travel } else s.cs.refC
        debounce := 255 }
      lg := { s.lg with
        entries := s.lg.entries.map fun e =>
          { e with captureTravel := e.captureTravel - s.lp.travel, gateTravel := e.gateTravel - s.lp.travel }
        window := [] }
      ad := { s.ad with quotaCount := 0#32, spacing := 65535 }
      br := { pointer := 0, uses := 0, batchNo := 0#8, openCount := 0, openEpoch := 0#4 }
      vc := { s.vc with seqValid := false, lastSeq := 0#8 }
      rc := { s.rc.accepted 0 with state := .running } })

/-- STOP in Running (R169, R157). With the open batch empty the flush counts FlushEmpty, and a run already drained
ends within the word; otherwise the flush closes the batch as FlushClosesTheOpenBatch says, its message enqueued or
lost, and the part is Draining. A host word is the last event of its edge (R32), so the message can start at the next
selection (log 29). -/
def Obligations.StopFlushesAndDrains : Prop :=
  ∀ (s d z : State) (o : Word), s.listens → s.rc.state = .running → o &&& 13#32 = 0#32 →
    d = s.wordDone Reg.rcCommand.address → z = d.closeBatch true s.br.openCount →
    (s.br.openCount = 0 → exec (.stop o) s = .next { d with
      counters := (s.bump .flushEmpty).counters
      rc := { s.rc.accepted 1 with
        state := if s.isDrained then .halted else .draining
        flags := if s.isDrained then s.rc.flags ||| 0x10000#32 else s.rc.flags } }) ∧
    (s.br.openCount ≠ 0 →
      exec (.stop o) s = .next { z with rc := { s.rc.accepted 1 with state := .draining, flags := z.rc.flags } })

/-- ABORT outside Halted (R170, R79, R150, R165): what was in flight is dropped, the open batch is flushed as
FlushClosesTheOpenBatch says, every ledger entry is logged as Abandoned while the log has room, and gate pulses,
models, identities, the retired window and the Cycle Mark slot stay. That LAST_CMD, LAST_RESULT, REASON and FIELD are
written, as R167 says, where R170 leaves RC_STATUS other than STATE unchanged, is the model's choice (log 38). A host
word is the last event of its edge (R32), so what it leaves startable can start at the next selection (log 29). -/
def Obligations.AbortClearsTheLine : Prop :=
  ∀ (s d z : State) (o : Word), s.tablesCanonical = true → s.listens → s.rc.state ≠ .halted →
    o &&& 11#32 = 0#32 → d = s.wordDone Reg.rcCommand.address → z = d.flushRoute →
    ∃ t, exec (.abort o) s = .next t ∧
      t = { d with
        cs := t.cs, lg := t.lg, vc := t.vc, gd := t.gd, sl := t.sl, br := t.br, sq := t.sq, rc := t.rc
        counters := t.counters } ∧
      t.rc = { s.rc.accepted 2 with state := .halted, flags := t.rc.flags } ∧
      bit t.rc.flags 16 = bit s.rc.flags 16 ∧
      t.cs = { s.cs with
        ring := [], sensePending := false, bracket := none, refA := t.cs.refA, refB := t.cs.refB, refC := t.cs.refC } ∧
      (∀ g, (t.ref g).state = .idle) ∧
      t.lg = { s.lg with entries := [], high := false } ∧
      t.vc = { s.vc with silence := none } ∧
      t.gd = { s.gd with
        log := s.gd.log ++
          (s.lg.entries.map fun e => entryRecord e .none .abandoned s.lp.travel).take (128 - s.gd.log.length)
        alert := t.gd.alert } ∧
      t.sl = { d.sl with
        tagQ := [], noticeQ := [], userRequest := false, routeQ := t.sl.routeQ, slots := t.sl.slots } ∧
      t.sl.routeQ = z.sl.routeQ ∧ t.br = z.br ∧
      t.slot .cycleMark = s.slot .cycleMark ∧
      (∀ i, i ≠ .cycleMark → (t.slot i).state = if (s.slot i).state = .sending then .sending else .idle) ∧
      t.sq = { s.sq with
        sr := if s.sq.sr.state = .idle then s.sq.sr else { state := .idle, count := 0 }
        fr := if s.sq.fr.state = .idle then s.sq.fr else { state := .idle, count := 0 } } ∧
      t.counter .abandonCount = s.counter .abandonCount + BitVec.ofNat 32 s.lg.entries.length ∧
      t.counter .linkDiscards = s.counter .linkDiscards + BitVec.ofNat 32 (s.sl.tagQ.length + s.sl.noticeQ.length)

/-- RECOVER (R171). -/
def Obligations.RecoverReturnsToHalted : Prop :=
  ∀ (s d : State) (o : Word), s.listens → s.rc.state = .faulted → o &&& 7#32 = 0#32 →
    d = s.wordDone Reg.rcCommand.address →
    (s.lg.entries = [] →
      exec (.recover o) s = .next { d with rc := { s.rc.accepted 3 with state := .halted } }) ∧
    (s.lg.entries ≠ [] → ∃ t, exec (.recover o) s = .next t ∧ t.rc.state = .faulted ∧ t.rc.lastResult = 2 ∧
      t.rc.reason = 3)

/-! ### Counters, actions and events (chapters 12 and 13) -/

/-- One cause moves one counter on by its amount, modulo 2^32, and leaves every other counter as it is (R178). The
words of the live counters from 0x0400 and of the shadows from 0x0500 read as the counters of their offset (section
13.2), with no side effect (R2, R13). UNMAPPED_READ stands for any read word, the model's choice (log 7). Where the
row stands among the rows of its edge is the model's choice (log 29). -/
def Obligations.CountersCountAndWrap : Prop :=
  (∀ (s : State) (c k : Ctr) (n : Nat), s.tablesCanonical = true →
    (s.bumpBy c n).counter k = if k.offset = c.offset then s.counter k + BitVec.ofNat 32 n else s.counter k) ∧
  ∀ (s : State) (k : Nat) (a : Addr), k < 116 →
    (a = 0x400#14 + BitVec.ofNat 14 k → s.readMapped a = readTable 0#32 s.counters k) ∧
    (a = 0x500#14 + BitVec.ofNat 14 k → s.readMapped a = readTable 0#32 s.shadows k) ∧
    (a = 0x400#14 + BitVec.ofNat 14 k ∨ a = 0x500#14 + BitVec.ofNat 14 k → s.listens → s.port.txn = none →
      exec (.unmappedRead a) s = .next { s with
        port := { s.port with heading := false, sdo := s.readMapped a }
        sl := { s.sl with place := .late }
        rc := { s.rc with resetArmed := false } })

/-- SNAPSHOT copies every live counter and the travel, and counts itself; together with CLEAR_COUNTERS the copy comes
first (R179, R176). CT_SNAP_TRAVEL and CT_SNAP_COUNT read as the last snapshot left them. -/
def Obligations.SnapshotCopiesEveryCounter : Prop :=
  (∀ (s : State) (o : Word), s.listens →
    (o &&& 0x1E#32 = 0#32 → exec (.snapshot o) s = .next { s.wordDone Reg.rcAction.address with
      shadows := s.counters, snapTravel := s.lp.travel, snapCount := s.snapCount + 1#32 }) ∧
    (o &&& 0x1E#32 = 2#32 → exec (.snapshot o) s = .next { s.wordDone Reg.rcAction.address with
      shadows := s.counters, snapTravel := s.lp.travel, snapCount := s.snapCount + 1#32, counters := [] })) ∧
  ∀ s : State, s.readRegister .ctSnapTravel = s.snapTravel ∧ s.readRegister .ctSnapCount = s.snapCount

/-- The shadow bank and its two companions change only at a Snapshot and at resets (R176, R179): a snapshot is a word
at RC_ACTION with bit 0 set, whatever row writes it, and a reset is PIN_RESET or a word there with bit 4 set while the
soft reset is armed. No other command and no clear touches them. -/
def Obligations.ShadowsChangeOnlyAtSnapshot : Prop :=
  ∀ (s t : State) (c : Instr), exec c s = .next t →
    (t.shadows = s.shadows ∧ t.snapTravel = s.snapTravel ∧ t.snapCount = s.snapCount) ∨
    (t.shadows = s.counters ∧ t.snapTravel = s.lp.travel ∧ t.snapCount = s.snapCount + 1#32 ∧
      (actionWord c).any (bit · 0) = true) ∨
    (t.shadows = [] ∧ t.snapTravel = 0#32 ∧ t.snapCount = 0#32 ∧
      (c = .pinReset ∨ s.rc.resetArmed = true ∧ (actionWord c).any (bit · 4) = true))

/-- CLEAR_COUNTERS and SELECTIVE_CLEAR (R180): all live counters, or those of the groups whose bits are written as 1;
the rest keeps its value. -/
def Obligations.CountersAreClearedAsAsked : Prop :=
  (∀ (s : State) (o : Word), s.listens → o &&& 0x1D#32 = 0#32 →
    exec (.clearCounters o) s = .next { s.wordDone Reg.rcAction.address with counters := [] }) ∧
  (∀ (s : State) (b : ClearBank) (v : Word), s.listens → ∃ t, exec (.selectiveClear b v) s = .next t ∧
    t = { s.wordDone (clearReg b).address with counters := t.counters } ∧
    ∀ (g f n i : Nat), counterGroups[g]? = some (f, n) → i < n →
      readTable 0#32 t.counters (f + i) =
        match b with
        | .mask0 => if g < 32 ∧ bit v g = true then 0#32 else readTable 0#32 s.counters (f + i)
        | .mask1 => if 32 ≤ g ∧ bit v (g - 32) = true then 0#32 else readTable 0#32 s.counters (f + i))

/-- CLEAR_LOG (R123) and CLEAR_RX (R108): the FIFO is emptied and its entries counted as RxDiscarded, a packet in
progress is dropped and counted as PacketsCleared, the idle measure restarts, and flow control is released, a resume
character that starts being counted as ResumeSent. -/
def Obligations.ClearActionsEmptyTheirQueues : Prop :=
  (∀ (s : State) (o : Word), s.listens → o &&& 0x1B#32 = 0#32 →
    exec (.clearLog o) s = .next { s.wordDone Reg.rcAction.address with
      gd := { s.gd with log := [], latch0 := 0#32, latch1 := 0#32, latch2 := 0#32, alert := false } }) ∧
  (∀ (s : State) (o : Word), s.tablesCanonical = true → s.listens → o &&& 0x17#32 = 0#32 →
    ∃ t, exec (.clearRx o) s = .next t ∧
    t = { s.wordDone Reg.rcAction.address with vc := t.vc, counters := t.counters } ∧
    t.vc = { s.vc with
      fifo := [], idle := 0, flowPaused := s.vc.flowPaused && !s.swFlow, stall := s.vc.stall && !s.hwFlow
      parser := if s.vc.parser.phase = .hunting then s.vc.parser else Parser.cleared
      tx := t.vc.tx, waiting := t.vc.waiting } ∧
    (s.swFlow = true → s.vc.flowPaused = true →
      (s.vc.tx = none → t.vc.tx.map TxChar.char = some .resume ∧ t.vc.waiting = s.vc.waiting) ∧
      (s.vc.tx ≠ none → t.vc.tx = s.vc.tx ∧ t.vc.waiting = some .resume)) ∧
    (s.swFlow = false ∨ s.vc.flowPaused = false → t.vc.tx = s.vc.tx ∧ t.vc.waiting = s.vc.waiting) ∧
    t.counter .rxDiscarded = s.counter .rxDiscarded + BitVec.ofNat 32 s.vc.fifo.length ∧
    t.counter .packetsCleared = s.counter .packetsCleared +
      (if s.vc.parser.phase = .hunting then 0#32 else 1#32) ∧
    t.counter .resumeSent = s.counter .resumeSent +
      (if s.swFlow = true ∧ s.vc.flowPaused = true ∧ s.vc.tx = none then 1#32 else 0#32))

/-- EVENT_CLEAR clears exactly the flags written as 1 (R174); RC_TOP_CAUSE is the lowest event pending and enabled,
and INT follows it with the polarity that INT_POLARITY_CHANGE stores (R175). -/
def Obligations.EventsDriveTheInterrupt : Prop :=
  (∀ (s : State) (v : Word), s.listens → ∃ t, exec (.eventClear v) s = .next t ∧
    t = { s.wordDone Reg.rcEventClear.address with rc := { s.rc with resetArmed := false, flags := t.rc.flags } } ∧
    ∀ n, 1 ≤ n → n ≤ 19 → bit t.rc.flags n = (bit s.rc.flags n && !bit v n)) ∧
  (∀ (s : State) (n : Nat), bit s.rc.flags 0 = false → 1 ≤ n → n ≤ 19 →
    (s.topCause = n ↔ (bit s.rc.flags n && bit (s.reg .rcEventEnable) n) = true ∧
      ∀ m, 1 ≤ m → m < n → (bit s.rc.flags m && bit (s.reg .rcEventEnable) m) = false)) ∧
  (∀ (s : State) (b : Bool), s.tablesCanonical = true → s.listens → s.port.installLock = false →
    ∃ t, exec (.intPolarityChange b) s = .next t ∧
      t = (s.wordDone Reg.rcCfg.address).setReg .rcCfg (t.reg .rcCfg) ∧ bit (t.reg .rcCfg) 0 = b ∧
      (t.intLevel = if b then decide (s.topCause = 0) else decide (s.topCause ≠ 0)))

/-! ### Requests (R44, R45, R52, R140, R144, R149, R159) -/

/-- A request bit is set by 1 and cancelled by 0, and nothing else changes: CAPTURE_NOW, PERIODIC_REQUEST,
REFERENCE_REQUEST, SR_REQUEST, FR_REQUEST. COUNT_RESTART is cancelled only while the Cycle Mark slot is Idle, Armed or
Guarding (R149). The bits of SQ_DEMAND read as the requests that wait, at places deduced from the packing rule of the
introduction (log 22). -/
def Obligations.RequestsAreSetAndCancelled : Prop :=
  (∀ (s : State) (b : Bool), s.listens →
    exec (.captureNow b) s =
      .next { s.wordDone Reg.csDemand.address with cs := { s.cs with captureNow := b } } ∧
    exec (.periodicRequest .p1 b) s = .next { s.wordDone Reg.csDemand.address with cs := { s.cs with reqP1 := b } } ∧
    exec (.periodicRequest .p2 b) s = .next { s.wordDone Reg.csDemand.address with cs := { s.cs with reqP2 := b } } ∧
    exec (.referenceRequest .a b) s =
      .next { s.wordDone Reg.csDemand.address with cs := { s.cs with reqRefA := b } } ∧
    exec (.referenceRequest .b b) s =
      .next { s.wordDone Reg.csDemand.address with cs := { s.cs with reqRefB := b } } ∧
    exec (.referenceRequest .c b) s =
      .next { s.wordDone Reg.csDemand.address with cs := { s.cs with reqRefC := b } } ∧
    exec (.srRequest b) s = .next { s.wordDone Reg.sqDemand.address with sq := { s.sq with demandSr := b } } ∧
    exec (.frRequest b) s = .next { s.wordDone Reg.sqDemand.address with sq := { s.sq with demandFr := b } } ∧
    exec (.countRestart b) s = .next { s.wordDone Reg.rcDemand.address with
      rc := { s.rc with
        resetArmed := false
        countRestart := b || (s.rc.countRestart &&
          ((s.slot .cycleMark).state == .due || (s.slot .cycleMark).state == .sending)) } }) ∧
  ∀ s : State, bit (s.readRegister .sqDemand) 0 = s.sq.demandSr ∧ bit (s.readRegister .sqDemand) 1 = s.sq.demandFr

/-- USER_COMMAND_REQUEST (R140, R144): a 1 arms the slot, merges or re-requests; a 0 withdraws the request where the
slot still lets it, and clears the re-request mark of a Sending slot. -/
def Obligations.UserCommandsAreRequested : Prop :=
  ∀ (s d : State), s.listens → d = s.wordDone Reg.slDemand.address →
    ((s.slot .user).state = .idle → exec (.userCommandRequest true) s =
      .next { d with sl := { d.sl with
        userRequest := true, slots := { s.sl.slots with user := { s.sl.slots.user with state := .armed } } } }) ∧
    ((s.slot .user).state = .armed ∨ (s.slot .user).state = .guarding ∨ (s.slot .user).state = .due →
      exec (.userCommandRequest true) s = .next { d with
        counters := (s.bump .requestMerged).counters, sl := { d.sl with userRequest := true } }) ∧
    ((s.slot .user).state = .sending → exec (.userCommandRequest true) s =
      .next { d with sl := { d.sl with
        userRequest := true, slots := { s.sl.slots with user := { s.sl.slots.user with rerequest := true } } } }) ∧
    ((s.slot .user).state = .armed ∨ (s.slot .user).state = .guarding → exec (.userCommandRequest false) s =
      .next { d with sl := { d.sl with
        userRequest := false
        slots := { s.sl.slots with
          user := { s.sl.slots.user with state := .idle, again := false, waits := false } } } }) ∧
    ((s.slot .user).state = .sending → (s.slot .user).rerequest = true → exec (.userCommandRequest false) s =
      .next { d with sl := { d.sl with
        userRequest := false
        slots := { s.sl.slots with user :=
          { s.sl.slots.user with rerequest := false, openingPassed := false, anchorPassed := false } } } }) ∧
    ((s.slot .user).state = .due ∨ (s.slot .user).state = .idle ∨
      (s.slot .user).state = .sending ∧ (s.slot .user).rerequest = false → exec (.userCommandRequest false) s = .next d)

/-- SLOT_CANCEL of one reference generator (R144): an Armed or Guarding slot goes Idle with its generator, counted as
RefCancelled; in any other state nothing happens. -/
def Obligations.ReferenceSlotsAreCancelled : Prop :=
  ∀ (s d : State) (g : RefGen), s.listens → d = s.wordDone Reg.slSlotCancel.address →
    ((s.slot (refSlot g)).state = .armed ∨ (s.slot (refSlot g)).state = .guarding →
      ∃ t, exec (.slotCancel (1#32 <<< refBit g)) s = .next t ∧
        t = { d with
          sl := { d.sl with
            slots := s.sl.slots.put (refSlot g)
              { s.slot (refSlot g) with state := .idle, again := false, waits := false } }
          cs := t.cs
          counters := (s.bump .refCancelled).counters } ∧
        t.ref g = Reference.idle ∧ (∀ h, h ≠ g → t.ref h = s.ref h) ∧
        t.cs = { s.cs with refA := t.cs.refA, refB := t.cs.refB, refC := t.cs.refC }) ∧
    ((s.slot (refSlot g)).state = .idle ∨ (s.slot (refSlot g)).state = .due ∨
      (s.slot (refSlot g)).state = .sending → exec (.slotCancel (1#32 <<< refBit g)) s = .next d)

/-! ### Batch routing (chapter 10) -/

/-- FLUSH and every close of the open batch (R152 to R157). An empty batch counts FlushEmpty. Otherwise the batch
closes: the entry in use takes it, and the pointer moves on when the share is used up; a vetoed entry gives way to the
next one without a veto, and where that one's share is a single batch the pointer moves on again; with every entry
vetoed the fallback takes it. In each case the message gives the destination, the batch number, the count, the flush
and fallback bits, the entry and the recorded epoch, and joins the route queue or is lost to a full one. A host word
is the last event of its edge (R32), so the message can start at the next selection (log 29). -/
def Obligations.FlushClosesTheOpenBatch : Prop :=
  (∀ s d : State, s.listens → d = s.wordDone Reg.brDemand.address →
    (s.br.openCount = 0 → exec .flush s = .next { d with counters := (s.bump .flushEmpty).counters }) ∧
    (s.br.openCount ≠ 0 → exec .flush s = .next (d.closeBatch true s.br.openCount))) ∧
  ∀ (s : State) (flush : Bool) (n p k j c e : Nat) (m : Byte → Byte → Nat → List Byte),
    (s.br.openCount = 0 → s.flushRoute = { s with counters := (s.bump .flushEmpty).counters }) ∧
    (s.br.openCount ≠ 0 → s.flushRoute = s.closeBatch true s.br.openCount) ∧
    (p = s.br.pointer → c = (p + 1 + k) % s.routeCount → e = (c + 1 + j) % s.routeCount →
      (∀ dest fallback i, m dest fallback i = [dest, s.br.batchNo, BitVec.ofNat 8 n,
        fallback ||| (if flush then 1#8 else 0#8), BitVec.ofNat 8 i, 0#4 ++ s.br.openEpoch]) →
      (s.routeVeto p = false → s.br.uses + 1 < s.routeShare p →
        s.closeBatch flush n = s.closed p (s.br.uses + 1) false (m (s.routeDest p) 0#8 p)) ∧
      (s.routeVeto p = false → s.routeShare p ≤ s.br.uses + 1 → k < s.routeCount →
        (∀ i < k, s.routeVeto ((p + 1 + i) % s.routeCount) = true) → s.routeVeto c = false →
        s.closeBatch flush n = s.closed c 0 false (m (s.routeDest p) 0#8 p)) ∧
      (s.routeVeto p = true → k < s.routeCount → (∀ i < k, s.routeVeto ((p + 1 + i) % s.routeCount) = true) →
        s.routeVeto c = false → 1 < s.routeShare c →
        s.closeBatch flush n = s.closed c 1 false (m (s.routeDest c) 0#8 c)) ∧
      (s.routeVeto p = true → k < s.routeCount → (∀ i < k, s.routeVeto ((p + 1 + i) % s.routeCount) = true) →
        s.routeVeto c = false → s.routeShare c ≤ 1 → j < s.routeCount →
        (∀ i < j, s.routeVeto ((c + 1 + i) % s.routeCount) = true) → s.routeVeto e = false →
        s.closeBatch flush n = s.closed e 0 false (m (s.routeDest c) 0#8 c)) ∧
      (s.routeVeto p = true → (∀ i < s.routeCount, s.routeVeto ((p + 1 + i) % s.routeCount) = true) →
        s.closeBatch flush n =
          s.closed p s.br.uses true (m (BitVec.ofNat 8 (s.fieldOf .brFallback 0 8)) 2#8 p)))

/-! ### Settings with effects of their own (R18, R19, R29, R50, R93, R94, R105, R107, R109, R129) -/

/-- RANDOM_ENABLE, GENERATOR_ENABLE, STALL_LIMIT_WRITE, SOURCE_CHANGE and INDEX_USE_CHANGE (R18, R19, R29, R50): the
field is stored, the effect of the change follows, and nothing else changes. That setting INDEX_USE sets
LP_SINCE_INDEX to 0 only while SOURCE is External, and keeps it while Internal, is the model's choice (log 19), and so
is that a change of SOURCE to External with INDEX_USE clear leaves it as it stands until the next position event, as
R19 has it and not R26 (log 41). That the first sample after a change to External is that of the next edge, the level
at the change counting for none, is the model's choice too (log 48). -/
def Obligations.LineSettingsTakeEffect : Prop :=
  ∀ (s : State) (b : Bool) (ms : BitVec 16), s.tablesCanonical = true → s.listens →
    exec (.randomEnable b) s = .next
      { (s.wordDone Reg.csRandomEnable.address).setReg .csRandomEnable
          ((s.reg .csRandomEnable &&& ~~~1#32) ||| flagAt b 0) with
        cs := if b = true ∧ s.randomEnabled = false then
          { s.cs with
            sample := if s.reg .csSampleSeed = 0#32 then 1#32 else s.reg .csSampleSeed
            audit := if s.reg .csAuditSeed = 0#32 then 1#32 else s.reg .csAuditSeed }
          else s.cs } ∧
    exec (.generatorEnable b) s = .next
      { (s.wordDone Reg.lpGenEnable.address).setReg .lpGenEnable
          ((s.reg .lpGenEnable &&& ~~~1#32) ||| flagAt b 0) with
        lp := { s.lp with genTimer :=
          if b = false then none
          else if s.genEnabled = false ∧ s.sourceInternal = true then some 0 else s.lp.genTimer } } ∧
    exec (.stallLimitWrite ms) s = .next
      { (s.wordDone Reg.lpStallMs.address).setReg .lpStallMs
          ((s.reg .lpStallMs &&& ~~~0xFFFF#32) ||| ms.zeroExtend 32) with
        lp := { s.lp with stallTimer :=
          if ms = 0#16 then none
          else if s.stallMs = 0 ∧ s.lp.lineMoving = true then some 0 else s.lp.stallTimer } } ∧
    (s.port.installLock = false → exec (.sourceChange b) s = .next
      { (s.wordDone Reg.lpCfg.address).setReg .lpCfg ((s.reg .lpCfg &&& ~~~1#32) ||| flagAt b 0) with
        lp := if b = s.sourceInternal then s.lp
          else { s.lp with
            indexPending := false, genTimer := if b = true ∧ s.genEnabled = true then some 0 else none }
        sampled := if b = true ∨ s.sourceInternal = false then s.sampled
          else { s.sampled with encStep := none, encIndex := none } }) ∧
    (s.port.installLock = false → exec (.indexUseChange b) s = .next
      { (s.wordDone Reg.lpCfg.address).setReg .lpCfg ((s.reg .lpCfg &&& ~~~2#32) ||| flagAt b 1) with
        lp := if b = s.indexUse then s.lp
          else if b = false then { s.lp with indexPending := false }
          else { s.lp with sinceIndex := if s.sourceInternal then s.lp.sinceIndex else 0 } })

/-- RAW_MODE_CHANGE, PARSER_PAUSE, SILENCE_LIMIT_WRITE, SW_FLOW_CLEAR and HW_FLOW_CLEAR (in Halted) and
LINK_ENABLE_CHANGE: the field is stored, the effect of the change follows, and nothing else changes. A character that
starts on VC_TX takes the bit time as VC_DIVISOR stands, the model's choice while a new one waits for the receiver's
next start edge (log 36). -/
def Obligations.ChannelSettingsTakeEffect : Prop :=
  ∀ (s : State) (b : Bool) (ms : BitVec 16), s.tablesCanonical = true → s.listens →
    exec (.rawModeChange b) s = .next
      { (s.wordDone Reg.vcCfg.address).setReg .vcCfg ((s.reg .vcCfg &&& ~~~1#32) ||| flagAt b 0) with
        vc := if b = true ∧ s.rawMode = false ∧ s.vc.parser.phase ≠ .hunting then
          { s.vc with parser := Parser.cleared } else s.vc
        counters := if b = true ∧ s.rawMode = false ∧ s.vc.parser.phase ≠ .hunting then
          (s.bump .packetsCleared).counters else s.counters } ∧
    exec (.parserPause b) s = .next
      ((s.wordDone Reg.vcCfg.address).setReg .vcCfg ((s.reg .vcCfg &&& ~~~2#32) ||| flagAt b 1)) ∧
    exec (.silenceLimitWrite ms) s = .next
      { (s.wordDone Reg.vcSilenceMs.address).setReg .vcSilenceMs
          ((s.reg .vcSilenceMs &&& ~~~0xFFFF#32) ||| ms.zeroExtend 32) with
        vc := { s.vc with silence :=
          if ms ≠ 0#16 ∧ s.awaiting ≠ 0 ∧ s.vc.silent = false then some (s.vc.silence.getD 0) else none } } ∧
    (s.rc.state = .halted → exec .swFlowClear s = .next
      { (s.wordDone Reg.vcFlowCfg.address).setReg .vcFlowCfg (s.reg .vcFlowCfg &&& ~~~1#32) with
        vc :=
          if s.swFlow = true ∧ s.vc.flowPaused = true then
            (match s.vc.tx with
              | none => { s.vc with
                  flowPaused := false
                  tx := some
                    { char := .resume, data := s.flowData .resume, bitTime := s.vcBitTime, left := 11 * s.vcBitTime } }
              | some _ => { s.vc with flowPaused := false, waiting := some .resume })
          else s.vc
        counters := if s.swFlow = true ∧ s.vc.flowPaused = true ∧ s.vc.tx = none then
          (s.bump .resumeSent).counters else s.counters }) ∧
    (s.rc.state = .halted → exec .hwFlowClear s = .next
      { (s.wordDone Reg.vcFlowCfg.address).setReg .vcFlowCfg (s.reg .vcFlowCfg &&& ~~~2#32) with
        vc := { s.vc with stall := s.vc.stall && !s.hwFlow } }) ∧
    exec (.linkEnableChange b) s = .next
      { (s.wordDone Reg.slCfg.address).setReg .slCfg ((s.reg .slCfg &&& ~~~1#32) ||| flagAt b 0) with
        sl := if b = false then { (s.arrive .late).sl with pollTimer := none, pollDue := false }
          else if s.linkEnabled = false then { (s.arrive .late).sl with pollTimer := some s.pollUs }
          else (s.arrive .late).sl }

/-! ### Steps, index and sensor edges, faults, timers (chapters 2, 3, 12) -/

/-- ENCODER_STEP and GENERATOR_STEP settle against reverse debt and are offered to the accumulator (R17, R18, R20,
R21); INDEX_EDGE and SENSE_EDGE are taken, suppressed or merged (R24, R34, R35). That the edges also come as commands
is the model's choice (log 13), and so is that GENERATOR_STEP makes a step at any count of its running timer and does
nothing without one (log 1). That a pending SENSE edge which outlasts its span makes a further edge a bounce is its
choice too (log 32). Where a row stands among the rows of its edge is the model's choice (log 29). -/
def Obligations.RecognisedInputsAreSettled : Prop :=
  ∀ (s : State) (f : Bool) (n : Nat),
    (s.sourceInternal = true →
      exec (.encoderStep f) s = .next (s.arrive .encoder) ∧ exec .indexEdge s = .next (s.arrive .index)) ∧
    (s.sourceInternal = false →
      (s.lp.debt < 65534 →
        exec (.encoderStep false) s = .next { s.arrive .encoder with lp := { s.lp with debt := s.lp.debt + 1 } }) ∧
      (s.lp.debt = 65534 → exec (.encoderStep false) s =
        .next (({ s.arrive .encoder with
          lp := { s.lp with debt := 65535, reverseSat := true } }).raiseFault .lineAnomaly)) ∧
      (s.lp.debt = 65535 → exec (.encoderStep false) s = .next (s.arrive .encoder)) ∧
      (1 < s.lp.debt → exec (.encoderStep true) s =
        .next { s.arrive .encoder with lp := { s.lp with debt := s.lp.debt - 1 } }) ∧
      (s.lp.debt = 1 → exec (.encoderStep true) s =
        .next { s.arrive .encoder with lp := { s.lp with debt := 0, reverseSat := false } }) ∧
      (s.lp.debt = 0 → s.lp.acc < 4 → exec (.encoderStep true) s =
        .next { s.arrive .encoder with lp := { s.lp with acc := s.lp.acc + 1 } }) ∧
      (s.lp.debt = 0 → 4 ≤ s.lp.acc → exec (.encoderStep true) s =
        .next (({ s.arrive .encoder with counters := (s.bump .stepOverrun).counters }).raiseFault .lineAnomaly)) ∧
      exec .indexEdge s = .next
        { s.arrive .index with lp := { s.lp with indexPending := s.lp.indexPending || s.indexUse } }) ∧
    (s.lp.genTimer = some n →
      (1 < s.lp.debt → exec .generatorStep s =
        .next { s.arrive .generator with lp := { s.lp with genTimer := some 0, debt := s.lp.debt - 1 } }) ∧
      (s.lp.debt = 1 → exec .generatorStep s =
        .next { s.arrive .generator with lp := { s.lp with genTimer := some 0, debt := 0, reverseSat := false } }) ∧
      (s.lp.debt = 0 → s.lp.acc < 4 → exec .generatorStep s =
        .next { s.arrive .generator with lp := { s.lp with genTimer := some 0, acc := s.lp.acc + 1 } }) ∧
      (s.lp.debt = 0 → 4 ≤ s.lp.acc → exec .generatorStep s =
        .next (({ s.arrive .generator with
          lp := { s.lp with genTimer := some 0 }, counters := (s.bump .stepOverrun).counters }).raiseFault
            .lineAnomaly))) ∧
    (s.lp.genTimer = none → exec .generatorStep s = .next (s.arrive .generator)) ∧
    (s.senseIntake = false ∨ s.rc.state = .halted ∨ s.rc.state = .draining →
      exec .senseEdge s = .next { s.arrive .sense with counters := (s.bump .sensorIgnored).counters }) ∧
    (s.senseIntake = true → s.rc.state = .running ∨ s.rc.state = .faulted →
      exec .senseEdge s = .next (
        if s.cs.debounce < s.debounceSpan ∨ s.cs.sensePending = true then
          { s.arrive .sense with counters := (s.bump .senseBounce).counters }
        else { s.arrive .sense with cs := { s.cs with sensePending := true, debounce := 0 } }))

/-- A fault-capable event outside a position event (R172): its flag, and for a masked one the entry into Faulted with
its flush, which closes the batch as FlushClosesTheOpenBatch says, a further bit of CAUSES while Faulted, nothing more
in Halted. -/
def Obligations.FaultsAreEntered : Prop :=
  ∀ (s z : State) (e : Event), z = s.closeBatch true s.br.openCount →
    (s.flagOf .rcFaultMask e.num = false ∨ s.rc.state = .halted →
      s.raiseFault e = { s with rc := { s.rc with flags := s.rc.flags ||| 1#32 <<< e.num } }) ∧
    (s.flagOf .rcFaultMask e.num = true → s.rc.state = .faulted → s.raiseFault e = { s with
      rc := { s.rc with
        flags := s.rc.flags ||| 1#32 <<< e.num, faultCauses := s.rc.faultCauses ||| 1#32 <<< e.num } }) ∧
    (s.flagOf .rcFaultMask e.num = true → s.rc.state = .running ∨ s.rc.state = .draining → s.br.openCount = 0 →
      s.raiseFault e = { s with
        counters := (s.bump .flushEmpty).counters
        rc := { s.rc with
          state := .faulted, faultFirst := e.num, faultCauses := 1#32 <<< e.num
          flags := s.rc.flags ||| 1#32 <<< e.num ||| 2#32 } }) ∧
    (s.flagOf .rcFaultMask e.num = true → s.rc.state = .running ∨ s.rc.state = .draining → s.br.openCount ≠ 0 →
      s.raiseFault e = { z with
        rc := { s.rc with
          state := .faulted, faultFirst := e.num, faultCauses := 1#32 <<< e.num
          flags := z.rc.flags ||| 1#32 <<< e.num ||| 2#32 } })

/-- The timers' expiries (R29, R66, R70, R106, R109, R132) and the ends of the gate pulses (R115): each while its
timer or its countdown runs, each with its own effect and no other. A row is the expiry alone, the model's choice (log
3), and it takes the assertion that the time has come at its word, at any count of the running timer (log 1). An
expiry comes after the selection of its edge (R32), so what the fault's flush enqueues can start at the next
selection, and where a row stands among the rows of its edge is the model's choice (log 29). A character that starts
on VC_TX takes the bit time as VC_DIVISOR stands, the model's choice while a new one waits for the receiver's next
start edge (log 36). -/
def Obligations.TimersExpire : Prop :=
  ∀ (s : State) (n : Nat) (x : TxChar) (c : FlowChar) (g : Group),
    (s.lp.stallTimer = some n → exec .stallExpiry s =
      .next (({ s.arrive .late with lp := { s.lp with lineMoving := false, stallTimer := none } }).raiseFault
        .lineAnomaly)) ∧
    (s.lp.stallTimer = none → exec .stallExpiry s = .next (s.arrive .late)) ∧
    (s.vc.silence = some n → exec .silenceExpiry s =
      .next (({ s.arrive .late with vc := { s.vc with silent := true, silence := none } }).raiseFault .verdictSilent)) ∧
    (s.vc.silence = none → exec .silenceExpiry s = .next (s.arrive .late)) ∧
    (s.sl.pollTimer = some n → exec .pollTimerExpiry s =
      .next { s.arrive .late with sl := { (s.arrive .late).sl with pollDue := true, pollTimer := none } }) ∧
    (s.sl.pollTimer = none → exec .pollTimerExpiry s = .next (s.arrive .late)) ∧
    exec (.firePulseEnd .a) s = .next { s.arrive .late with ad := { s.ad with fireA := none } } ∧
    exec (.firePulseEnd .b) s = .next { s.arrive .late with ad := { s.ad with fireB := none } } ∧
    exec (.firePulseEnd .c) s = .next { s.arrive .late with ad := { s.ad with fireC := none } } ∧
    exec (.firePulseEnd .d) s = .next { s.arrive .late with ad := { s.ad with fireD := none } } ∧
    (s.vc.tx = none → exec .vcTxComplete s = .next (s.arrive .txEnd)) ∧
    (s.vc.tx = some x → s.vc.waiting = none →
      exec .vcTxComplete s = .next { s.arrive .txEnd with vc := { s.vc with tx := none } }) ∧
    (s.vc.tx = some x → s.vc.waiting = some c → exec .vcTxComplete s = .next { s.arrive .txEnd with
      vc := { s.vc with
        waiting := none
        tx := some { char := c, data := s.flowData c, bitTime := s.vcBitTime, left := 11 * s.vcBitTime } }
      counters := (s.bump (match c with | .pause => .pauseSent | .resume => .resumeSent)).counters }) ∧
    (s.gd.rejLeft = 1 → exec (.gatePulseEnd .reject) s =
      .next { s.arrive .step with gd := { s.gd with rejLeft := 0 } }) ∧
    (s.gd.rejLeft ≠ 1 → exec (.gatePulseEnd .reject) s = .next (s.arrive .step)) ∧
    (s.gd.divLeft = 1 → exec (.gatePulseEnd .divert) s =
      .next { s.arrive .step with gd := { s.gd with divLeft := 0 } }) ∧
    (s.gd.divLeft ≠ 1 → exec (.gatePulseEnd .divert) s = .next (s.arrive .step)) ∧
    ((s.model g).drain = none → exec (.modelDrain g) s = .next (s.arrive .late)) ∧
    ((s.model g).drain = some n → ∃ t, exec (.modelDrain g) s = .next t ∧
      t = { s.arrive .late with ad := { s.ad with
        modelA := t.ad.modelA, modelB := t.ad.modelB, modelC := t.ad.modelC, modelD := t.ad.modelD } } ∧
      (∀ h, h ≠ g → t.model h = s.model h) ∧
      t.model g =
        { occ := (s.model g).occ - 1
          drain := if (s.model g).occ ≤ 1 then none else some (s.drainUs g)
          hold :=
            if s.modelHigh g ≤ (s.model g).occ - 1 then true
            else if (s.model g).occ - 1 ≤ s.modelLow g then false else (s.model g).hold })

/-! ### The steps of a position event (chapters 2 to 5) -/

/-- CYCLE_START (R23, R45): the cycle index wraps, the cycle number and CycleStarts move on, and each reference
generator makes its occurrence test, served or skipped. MISSING_INDEX (R26): the index is declared missing. Neither
does anything before its condition holds. Each row is its step alone, the model's choice (log 3). Where a row stands
among the rows of its edge is the model's choice (log 29). Inside a position event: step 1 moves travel,
PositionEvents, the stall watch and the cycle index (R22, R23, R29); step 2 checks a pending index against the
expected value, records a mismatch in LP_PHASE with its signed offset, PhaseErrors and PhaseError, realigns in Realign
mode, where 0 makes a cycle start (R25, R27), or counts LP_SINCE_INDEX, in Internal mode up to the cycle start (R18),
and declares a missing index (R26). Past 8191 that count is a free value (log 10); a count left from another setting
of LP_CFG is set to 0 here with INDEX_USE clear (log 41). The row CYCLE_START is the advance with the three tests, and
each test's effect is stated. -/
def Obligations.CycleStartsAndMissingIndices : Prop :=
  (∀ (s x y : State) (start : Bool) (off : BitVec 16) (d : Int),
    (s.lp.cycleIndex + 1 < s.cycleLen → s.stepOne = { s with
      lp := { s.lp with
        travel := s.lp.travel + 1#32, lineMoving := true, cycleIndex := s.lp.cycleIndex + 1
        stallTimer := if s.stallMs = 0 then none else some 0 }
      counters := (s.bump .positionEvents).counters }) ∧
    (s.cycleLen ≤ s.lp.cycleIndex + 1 → s.stepOne = { s with
      lp := { s.lp with
        travel := s.lp.travel + 1#32, lineMoving := true, cycleIndex := 0, cycleNumber := s.lp.cycleNumber + 1#16
        stallTimer := if s.stallMs = 0 then none else some 0 }
      counters := ((s.bump .positionEvents).bump .cycleStarts).counters }) ∧
    (y = (if s.lp.sinceIndex < 8191 then { s with lp := { s.lp with sinceIndex := s.lp.sinceIndex + 1 } }
      else { s with
        lp := { s.lp with sinceIndex := (Config.sinceIndexBeyond s.freeCount).toNat }, freeCount := s.freeCount + 1 }) →
      (s.sourceInternal = true →
        s.stepTwo start = if start then { s with lp := { s.lp with sinceIndex := 0 } } else y) ∧
      (s.sourceInternal = false → s.indexUse = false →
        s.stepTwo start = { s with lp := { s.lp with sinceIndex := 0 } }) ∧
      (s.sourceInternal = false → s.indexUse = true → s.lp.indexPending = false →
        s.stepTwo start =
          if y.lp.sinceIndex = s.cycleLen + s.indexTol then { y with
            lp := { y.lp with sinceIndex := 0, phaseKind := .missing, phaseOffset := 0#16 }
            counters := (s.bump .phaseErrors).counters
            rc := s.noted .phaseError }
          else y)) ∧
    (s.sourceInternal = false → s.indexUse = true → s.lp.indexPending = true →
      (s.lp.cycleIndex = s.expectedIndex →
        s.stepTwo start = { s with lp := { s.lp with indexPending := false, sinceIndex := 0 } }) ∧
      (s.lp.cycleIndex ≠ s.expectedIndex → 0 < s.cycleLen →
        d = ((s.lp.cycleIndex : Int) - s.expectedIndex) % s.cycleLen →
        off = BitVec.ofInt 16 (if (s.cycleLen / 2 : Nat) < d then d - s.cycleLen else d) →
        x = { s with
          lp := { s.lp with indexPending := false, sinceIndex := 0, phaseKind := .mismatch, phaseOffset := off }
          counters := (s.bump .phaseErrors).counters
          rc := s.noted .phaseError } →
        (s.realigns = false → s.stepTwo start = x) ∧
        (s.realigns = true → s.expectedIndex ≠ 0 →
          s.stepTwo start = { x with lp := { x.lp with cycleIndex := s.expectedIndex } }) ∧
        (s.realigns = true → s.expectedIndex = 0 → s.stepTwo start = { x with
          lp := { x.lp with cycleIndex := 0, cycleNumber := s.lp.cycleNumber + 1#16 }
          counters := (x.bump .cycleStarts).counters })))) ∧
  (∀ (s t : State) (g : RefGen) (occurs : Bool), t = s.refTest g →
    (s.cycleLen ≤ s.lp.cycleIndex + 1 → s.row .cycleStart = [RefGen.a, .b, .c].foldl State.refTest { s with
      lp := { s.lp with cycleIndex := 0, cycleNumber := s.lp.cycleNumber + 1#16 }
      counters := (s.bump .cycleStarts).counters }) ∧
    (occurs = ((s.refEnabled g && s.lp.cycleNumber.toNat % s.periodOf (refCfg g) == 0) || s.refRequest g) →
      (occurs = false → t = s) ∧
      (occurs = true → (s.ref g).state ≠ .idle ∨ s.sq.sr.state ≠ .idle ∨ s.sq.fr.state ≠ .idle →
        t = { s with counters := (s.bump .refSkipped).counters }) ∧
      (occurs = true → (s.ref g).state = .idle → s.sq.sr.state = .idle → s.sq.fr.state = .idle →
        t = { s with
          cs := { s.cs with
            refA := t.cs.refA, refB := t.cs.refB, refC := t.cs.refC
            reqRefA := t.cs.reqRefA, reqRefB := t.cs.reqRefB, reqRefC := t.cs.reqRefC }
          sl := { s.sl with slots := t.sl.slots }, counters := t.counters } ∧
        t.ref g = { s.ref g with state := .requested, cancelled := false } ∧ t.refRequest g = false ∧
        (∀ h, h ≠ g → t.ref h = s.ref h ∧ t.refRequest h = s.refRequest h) ∧
        ((s.slot (refSlot g)).state = .idle → t.counters = s.counters ∧
          t.sl.slots = s.sl.slots.put (refSlot g) { s.slot (refSlot g) with state := .armed }) ∧
        ((s.slot (refSlot g)).state = .sending → t.counters = s.counters ∧
          t.sl.slots = s.sl.slots.put (refSlot g) { s.slot (refSlot g) with rerequest := true }) ∧
        ((s.slot (refSlot g)).state ≠ .idle → (s.slot (refSlot g)).state ≠ .sending →
          t.counters = (s.bump .requestMerged).counters ∧ t.sl.slots = s.sl.slots)))) ∧
  ∀ (s : State) (g : RefGen) (occurs : Bool), s.tablesCanonical = true →
    (s.lp.cycleIndex + 1 < s.cycleLen → exec .cycleStart s = .next (s.arrive .step)) ∧
    (s.cycleLen ≤ s.lp.cycleIndex + 1 →
      occurs = ((s.refEnabled g && (s.lp.cycleNumber + 1#16).toNat % s.periodOf (refCfg g) == 0) || s.refRequest g) →
      ∃ t, exec .cycleStart s = .next t ∧
        t = { s.arrive .step with
          lp := { s.lp with cycleIndex := 0, cycleNumber := s.lp.cycleNumber + 1#16 }
          cs := { s.cs with
            refA := t.cs.refA, refB := t.cs.refB, refC := t.cs.refC
            reqRefA := t.cs.reqRefA, reqRefB := t.cs.reqRefB, reqRefC := t.cs.reqRefC }
          sl := { (s.arrive .step).sl with slots := t.sl.slots }
          counters := t.counters } ∧
        t.counter .cycleStarts = s.counter .cycleStarts + 1#32 ∧
        t.counter .refSkipped = s.counter .refSkipped + BitVec.ofNat 32 ([RefGen.a, .b, .c].countP fun h =>
          ((s.refEnabled h && (s.lp.cycleNumber + 1#16).toNat % s.periodOf (refCfg h) == 0) || s.refRequest h) &&
            ((s.ref h).state != .idle || s.sq.sr.state != .idle || s.sq.fr.state != .idle)) ∧
        (occurs = false → t.ref g = s.ref g ∧ t.refRequest g = s.refRequest g ∧
          t.slot (refSlot g) = s.slot (refSlot g)) ∧
        (occurs = true → (s.ref g).state = .idle → s.sq.sr.state = .idle → s.sq.fr.state = .idle →
          t.ref g = { s.ref g with state := .requested, cancelled := false } ∧ t.refRequest g = false ∧
          ((s.slot (refSlot g)).state = .idle → (t.slot (refSlot g)).state = .armed)) ∧
        (occurs = true → (s.ref g).state ≠ .idle ∨ s.sq.sr.state ≠ .idle ∨ s.sq.fr.state ≠ .idle →
          t.ref g = s.ref g ∧ t.refRequest g = s.refRequest g ∧
          t.slot (refSlot g) = s.slot (refSlot g))) ∧
    (s.sourceInternal = true ∨ s.indexUse = false ∨ s.lp.indexPending = true ∨
      s.lp.sinceIndex + 1 ≠ s.cycleLen + s.indexTol → exec .missingIndex s = .next (s.arrive .step)) ∧
    (s.sourceInternal = false → s.indexUse = true → s.lp.indexPending = false →
      s.lp.sinceIndex + 1 = s.cycleLen + s.indexTol → s.rc.deferred = [] →
      exec .missingIndex s = .next (({ s.arrive .step with
        lp := { s.lp with sinceIndex := 0, phaseKind := .missing, phaseOffset := 0#16 }
        counters := (s.bump .phaseErrors).counters }).raiseFault .phaseError))

/-- SENSOR_DUE, BRACKET_PROPOSAL and REFERENCE_DUE (R38, R41, R46, R53): what is due leaves its place and proposes its
candidate; what is not due stays. Each row is its step alone, and the candidates stand in a field of the model's own
(logs 3 and 4). Where a row stands among the rows of its edge is the model's choice (log 29). Inside a position event
the ring's proposal and the run's are these rows; a reference generator is marked due at step 5 and proposes at step
6, together as its row, and at a cycle start it makes its occurrence test there too, in an order that is a free value
where the generator is due (log 11). -/
def Obligations.DueSourcesPropose : Prop :=
  (∀ (s t : State) (g : RefGen), s.ringProposal = s.row .sensorDue ∧ s.bracketPropose = s.row .bracketProposal ∧
    (t = s.refMark g →
      ((s.ref g).state ≠ .pending ∨ reached s.lp.travel (s.ref g).capture = false → t = s) ∧
      ((s.ref g).state = .pending → reached s.lp.travel (s.ref g).capture = true →
        t = { s with cs := { s.cs with refA := t.cs.refA, refB := t.cs.refB, refC := t.cs.refC } } ∧
        t.ref g = { s.ref g with due := true } ∧ ∀ h, h ≠ g → t.ref h = s.ref h) ∧
      t.refStep false g = s.row (.referenceDue g)) ∧
    ((s.ref g).due = false → s.refStep false g = s ∧ s.refStep true g = s.refTest g) ∧
    ((s.ref g).due = true → t = { s with freeCount := s.freeCount + 1 } →
      s.refStep true g = if Config.referenceTestFirst s.freeCount then (t.refTest g).refStep false g
        else (t.refStep false g).refTest g)) ∧
  ∀ (s : State) (pre post : List RingEntry) (e : RingEntry) (b : BracketRun) (g : RefGen),
    ((∀ x ∈ s.cs.ring, reached s.lp.travel x.due = false) → exec .sensorDue s = .next (s.arrive .step)) ∧
    (s.cs.ring = pre ++ e :: post → (∀ x ∈ pre, reached s.lp.travel x.due = false) →
      reached s.lp.travel e.due = true →
      exec .sensorDue s = .next { s.arrive .step with
        cs := { s.cs with ring := pre ++ post }
        candidates := s.candidates ++ [{ cls := .sensor, mask := s.classMask .sensor, item := true, audit := false }]
        counters := if s.lp.travel = e.due then s.counters else (s.bump .sensorSlip).counters }) ∧
    (s.cs.bracket = none → exec .bracketProposal s = .next (s.arrive .step)) ∧
    (s.cs.bracket = some b → reached s.lp.travel b.next = false → exec .bracketProposal s = .next (s.arrive .step)) ∧
    (s.cs.bracket = some b → reached s.lp.travel b.next = true → exec .bracketProposal s = .next { s.arrive .step with
      cs := { s.cs with
        bracket := if b.left ≤ 1 then none
          else some { next := b.next + BitVec.ofNat 32 b.step, left := b.left - 1, step := b.step } }
      candidates := s.candidates ++
        [{ cls := .bracket, mask := s.classMask .bracket, item := false, audit := false }] }) ∧
    ((s.ref g).due = false → (s.ref g).state ≠ .pending ∨ reached s.lp.travel (s.ref g).capture = false →
      exec (.referenceDue g) s = .next (s.arrive .step)) ∧
    ((s.ref g).state = .pending → reached s.lp.travel (s.ref g).capture = true →
      ∃ t, exec (.referenceDue g) s = .next t ∧
        t = { s.arrive .step with
          cs := { s.cs with refA := t.cs.refA, refB := t.cs.refB, refC := t.cs.refC }
          candidates := s.candidates ++
            [{ cls := .reference, mask := s.classMask .reference, item := false, audit := false }] } ∧
        t.ref g = Reference.idle ∧ ∀ h, h ≠ g → t.ref h = s.ref h)

/-- BRACKET_START and PERIODIC_OCCURRENCE (R40, R43, R44): a run or a burst starts and makes its first proposal, or
the window or occurrence is turned down and counted. Each row is its step alone, the model's choice (logs 3 and 4).
Where a row stands among the rows of its edge is the model's choice (log 29). With W stored as 0 a window formed under
another W starts a run of one proposal, the model's choice (log 47). Inside a position event every window that opens
is decided by the row in turn; a periodic generator's part is its row, and while a burst is in progress the row, which
can only turn an occurrence down, and the burst's next proposal. -/
def Obligations.RunsAndBurstsStart : Prop :=
  (∀ (s t : State) (g : PerGen),
    s.bracketStarts = (List.range s.cs.ring.length).foldl (fun x _ => x.row .bracketStart) s ∧
    (s.burstLeft g = 0 → (s.perTest g).perPropose g = s.row (.periodicOccurrence g)) ∧
    (s.burstLeft g ≠ 0 → t = (s.perTest g).perPropose g →
      t = { s.row (.periodicOccurrence g) with
        cs := { s.cs with p1Left := t.cs.p1Left, p2Left := t.cs.p2Left }
        candidates := s.candidates ++
          [{ cls := .periodic, mask := s.classMask .periodic, item := false, audit := false }] } ∧
      t.burstLeft g = s.burstLeft g - 1 ∧ ∀ h, h ≠ g → t.burstLeft h = s.burstLeft h)) ∧
  ∀ (s : State) (pre post : List RingEntry) (e : RingEntry) (w : Travel) (g h : PerGen) (occurs : Bool),
    ((∀ x ∈ s.cs.ring, opensWindow s.lp.travel x = false) → exec .bracketStart s = .next (s.arrive .step)) ∧
    (s.cs.ring = pre ++ e :: post → (∀ x ∈ pre, opensWindow s.lp.travel x = false) → e.window = some w →
      e.decided = false → reached s.lp.travel w = true → s.cs.bracket = none →
      exec .bracketStart s = .next { s.arrive .step with
        cs := { s.cs with
          ring := pre ++ { e with decided := true } :: post
          bracket := if s.bracketWidth = 0 then none
            else some { next := w + BitVec.ofNat 32 s.bracketStep, left := 2 * s.bracketWidth, step := s.bracketStep } }
        candidates := s.candidates ++
          [{ cls := .bracket, mask := s.classMask .bracket, item := false, audit := false }] }) ∧
    (s.cs.ring = pre ++ e :: post → (∀ x ∈ pre, opensWindow s.lp.travel x = false) → e.window = some w →
      e.decided = false → reached s.lp.travel w = true → s.cs.bracket ≠ none →
      exec .bracketStart s = .next { s.arrive .step with
        cs := { s.cs with ring := pre ++ { e with decided := true } :: post }
        counters := (s.bump .bracketBusy).counters }) ∧
    (occurs = (s.lp.cycleIndex == s.anchorOf (perCfg g) &&
        ((s.perEnabled g && s.lp.cycleNumber.toNat % s.periodOf (perCfg g) == 0) || s.perRequest g)) →
      (occurs = false → exec (.periodicOccurrence g) s = .next (s.arrive .step)) ∧
      (occurs = true → s.burstLeft g ≠ 0 ∨ s.sq.sr.state ≠ .idle ∨ s.sq.fr.state ≠ .idle →
        exec (.periodicOccurrence g) s = .next { s.arrive .step with counters := (s.bump .periodicSkipped).counters }) ∧
      (occurs = true → s.burstLeft g = 0 → s.sq.sr.state = .idle → s.sq.fr.state = .idle →
        ∃ t, exec (.periodicOccurrence g) s = .next t ∧
          t = { s.arrive .step with
            cs := { s.cs with
              p1Left := t.cs.p1Left, p2Left := t.cs.p2Left, reqP1 := t.cs.reqP1, reqP2 := t.cs.reqP2 }
            candidates := s.candidates ++
              [{ cls := .periodic, mask := s.classMask .periodic, item := false, audit := false }] } ∧
          t.burstLeft g = s.burst g - 1 ∧ t.perRequest g = false ∧
          (h ≠ g → t.burstLeft h = s.burstLeft h ∧ t.perRequest h = s.perRequest h)))

/-- POSITION_EVENT (R21 to R23, R25, R27, R29, R30): with an empty accumulator nothing; otherwise one position is
taken, travel moves on, LINE_MOVING sets and the stall timer restarts, the cycle index advances or, with an index
pending in Realign mode, becomes the expected index; the eight steps follow in order, each the one that another
statement gives: steps 1 and 2 CycleStartsAndMissingIndices, step 4 RetirementsAreDispatched, step 5
SlotsFollowTheCycleIndex, SequencesAndDrainsEnd, SequencesStart and DueSourcesPropose, the first sources of step 6
DueSourcesPropose and RunsAndBurstsStart, step 7 AdmissionsAreHandedOn and HeldProposalsKeepTheirItems, step 8
ProposalsAndHoldsAreEvaluated. The silence watchdog runs after the event as R109 has it: it does not run where its
conditions fail, it starts from 0 where step 4 left no entry Awaiting and step 7 made one, and otherwise its count
stands. No step touches the blocks named. The pin levels come with the command, the model's choice (log 9), and so is
that a command is taken at any count of periods since the event before (log 42). The event is the first of its edge
(R32), so what stands startable before it was made so earlier (log 29). Step 3 takes the pending SENSE edge into the
ring, judges a bracket window that has already opened, or loses the item to a full ring (R35 to R37, R42). The last
sources of step 6 are the pattern memory (R48), the random sampler (R50, R51) and the host demand (R52). -/
def Obligations.PositionEventsAdvanceTheLine : Prop :=
  ∀ (s : State) (p : Pins), (s.lp.acc = 0 → exec (.positionEvent p) s = .next s) ∧
    (s.lp.acc ≠ 0 → ∃ t, exec (.positionEvent p) s = .next t ∧ t.lp.acc = s.lp.acc - 1 ∧
      t.lp.travel = s.lp.travel + 1#32 ∧ t.clk = { s.clk with sincePosition := 0 } ∧ t.lp.lineMoving = true ∧
      t.lp.stallTimer = (if s.stallMs = 0 then none else some 0) ∧ t.lp.debt = s.lp.debt ∧
      t.lp.reverseSat = s.lp.reverseSat ∧ t.lp.genTimer = s.lp.genTimer ∧ t.pins = p ∧ t.candidates = [] ∧
      (s.sourceInternal = true ∨ s.indexUse = false ∨ s.lp.indexPending = false ∨ s.realigns = false →
        t.lp.cycleIndex = (if s.cycleLen ≤ s.lp.cycleIndex + 1 then 0 else s.lp.cycleIndex + 1) ∧
        t.lp.cycleNumber =
          if s.cycleLen ≤ s.lp.cycleIndex + 1 then s.lp.cycleNumber + 1#16 else s.lp.cycleNumber) ∧
      (s.sourceInternal = false → s.indexUse = true → s.lp.indexPending = true → s.realigns = true →
        t.lp.cycleIndex = s.expectedIndex) ∧
      (s.sourceInternal = false → s.indexUse = true → s.lp.indexPending = true →
        t.lp.indexPending = false ∧ t.lp.sinceIndex = 0) ∧
      t.port = s.port ∧ t.regs = s.regs ∧ t.pattern = s.pattern ∧ t.route = s.route ∧ t.pending = s.pending ∧
      t.vc = { s.vc with silence := t.vc.silence } ∧ t.shadows = s.shadows ∧ t.snapTravel = s.snapTravel ∧
      t.snapCount = s.snapCount ∧ t.sl.stations = s.sl.stations ∧ t.sl.link = s.sl.link ∧ t.sl.frame = s.sl.frame ∧
      t.sl.earlier = s.startableNow ∧ t.sl.place = .position ∧
      t.sq.srCount = s.sq.srCount ∧ t.gd.latch0 = s.gd.latch0 ∧ t.gd.latch1 = s.gd.latch1 ∧
      t.gd.latch2 = s.gd.latch2 ∧
      ∃ (o u x y v w : State) (start : Bool),
        o = { s.arrive .position with
          pins := p, lp := { s.lp with acc := s.lp.acc - 1 }, clk := { s.clk with sincePosition := 0 } } ∧
        u = o.stepOne.stepTwo (decide (s.cycleLen ≤ s.lp.cycleIndex + 1)) ∧
        start = (decide (s.cycleLen ≤ s.lp.cycleIndex + 1) || u.lp.cycleIndex == 0) ∧
        x = u.stepThree.stepFour.slotPass ∧
        y = ((((((x.seqWork .station).seqWork .full).periodicResync.seqStarts.refMark .a).refMark .b).refMark
          .c).ringProposal.bracketPropose.bracketStarts) ∧
        v = (((((((y.perTest .p1).perPropose .p1).perTest .p2).perPropose .p2).refStep start .a).refStep start
          .b).refStep start .c) ∧
        w = v.patternStep.randomStep.hostStep ∧ t.lp = u.lp ∧ v.lp = u.lp ∧ v.regs = s.regs ∧ v.pattern = s.pattern ∧
        v.cs.sample = s.cs.sample ∧ v.cs.audit = s.cs.audit ∧ v.cs.captureNow = s.cs.captureNow ∧
        t.vc.silence = (if s.silenceMs = 0 ∨ t.awaiting = 0 ∨ s.vc.silent = true then none
          else some (if w.awaiting = 0 then 0 else s.vc.silence.getD 0)) ∧
        t = w.stepSeven.stepEight w.activeHolds w.globalHold (w.proposal.isSome && !w.globalHold)
          (w.sq.fr.state == .quiescing && w.sq.fr.count == 0)) ∧
    (s.cs.sensePending = false →
      s.stepThree = { s with cs := { s.cs with debounce := min 255 (s.cs.debounce + 1) } }) ∧
    (s.cs.sensePending = true → s.senseIntake = false ∨ s.rc.state = .halted ∨ s.rc.state = .draining →
      s.stepThree = { s with
        cs := { s.cs with debounce := min 255 (s.cs.debounce + 1), sensePending := false }
        counters := (s.bump .sensorIgnored).counters }) ∧
    (s.cs.sensePending = true → s.senseIntake = true → s.rc.state = .running ∨ s.rc.state = .faulted →
      32 ≤ s.cs.ring.length → s.stepThree = { s with
        cs := { s.cs with debounce := min 255 (s.cs.debounce + 1), sensePending := false }
        counters := (s.bump .sensorOverrun).counters
        rc := { s.rc with
          flags := s.rc.flags ||| 4#32
          deferred := if s.flagOf .rcFaultMask 2 = true ∧ s.rc.state = .running then s.rc.deferred ++ [.blindItem]
            else s.rc.deferred
          faultCauses := if s.flagOf .rcFaultMask 2 = true ∧ s.rc.state = .faulted then s.rc.faultCauses ||| 4#32
            else s.rc.faultCauses } }) ∧
    (∀ (pre post : List RingEntry) (e : RingEntry) (x : Travel) (m : Nat), s.cs.sensePending = true →
      s.senseIntake = true → s.rc.state = .running ∨ s.rc.state = .faulted → s.cs.ring.length < 32 →
      s.cs.ring = pre ++ post → (∀ y ∈ pre, later y.due e.due = false) → (∀ y ∈ post.head?, later y.due e.due = true) →
      e.due = s.lp.travel + BitVec.ofNat 32 s.senseDelay → e.marked = s.pins.mark →
      x = e.due - BitVec.ofNat 32 (s.bracketWidth * s.bracketStep) →
      e.window = (if s.pins.mark = true ∧ s.bracketWidth ≠ 0 then some x else none) →
      e.decided = (e.window.isSome && later s.lp.travel x) →
      m = ((List.range (2 * s.bracketWidth + 1)).countP fun k =>
        later s.lp.travel (x + BitVec.ofNat 32 (k * s.bracketStep))) →
      s.stepThree = { s with
        cs := { s.cs with
          debounce := min 255 (s.cs.debounce + 1), sensePending := false, ring := pre ++ e :: post
          bracket := if e.decided = true ∧ s.cs.bracket = none then
              some { next := x + BitVec.ofNat 32 (m * s.bracketStep), left := 2 * s.bracketWidth + 1 - m
                     step := s.bracketStep }
            else s.cs.bracket }
        counters := if e.decided = true then
            (if s.cs.bracket = none then (s.bumpBy .bracketSkip m).counters else (s.bump .bracketBusy).counters)
          else s.counters }) ∧
    (s.patternEnabled = false → s.patternStep = s) ∧
    (∀ (e : Word) (l : List Candidate), s.patternEnabled = true → e = readTable 0#32 s.pattern s.lp.cycleIndex →
      l = (if bit e 0 then s.candidates ++
        [{ cls := .pattern, mask := s.classMask .pattern, item := false, audit := false }] else s.candidates) →
      s.patternStep = { s with
        candidates := if bit e 1 then l.map fun k => if k.cls = .sensor then { k with audit := true } else k else l }) ∧
    (s.randomEnabled = false → s.randomStep = s) ∧
    (∀ (x y : Word) (l : List Candidate), s.randomEnabled = true →
      (∀ n, 0 < n → n < 32 → bit x n = bit s.cs.sample (n - 1) ∧ bit y n = bit s.cs.audit (n - 1)) →
      bit x 0 = (bit s.cs.sample 31 ^^ bit s.cs.sample 21 ^^ bit s.cs.sample 1 ^^ bit s.cs.sample 0) →
      bit y 0 = (bit s.cs.audit 31 ^^ bit s.cs.audit 21 ^^ bit s.cs.audit 1 ^^ bit s.cs.audit 0) →
      l = (if x.toNat < (s.reg .csSampleThresh).toNat then s.candidates ++
        [{ cls := .random, mask := s.classMask .random, item := false, audit := false }] else s.candidates) →
      s.randomStep = { s with
        cs := { s.cs with sample := x, audit := y }
        candidates := if y.toNat < (s.reg .csAuditThresh).toNat then
          l.map fun k => if k.cls = .sensor then { k with audit := true } else k else l }) ∧
    (s.cs.captureNow = false → s.hostStep = s) ∧
    (s.cs.captureNow = true → s.hostStep = { s with
      cs := { s.cs with captureNow := false }
      candidates := s.candidates ++ [{ cls := .host, mask := s.classMask .host, item := false, audit := false }] })

/-- The capture proposal of an event (R55): the class of highest priority, the OR of the masks, item-present and audit
of the Sensor candidate, the verdict expectation. The candidates stand in a field of the model's own (log 4), and with
none step 7 does nothing. The global hold is on when some source is active and enabled (R57 to R63), and a station
holds its group while it is busy, or Absent with ABSENT_HOLDS (R59); the sources stand in the order of the bits of
AD_HOLD_STATUS (R64). Step 8 (R30) first sets the spacing and quota counts (R61, R62), the ledger-high flag with its
event (R78, with LG_HIGH above 512 as log 34 says), AD_HOLD_STATUS and the hold-position counters (R64). Then comes
the flush of a Full Resync that entered Quiescing (R157), then the entry into Faulted for the masked events raised
inside the position event, FIRST the one raised first and CAUSES all of them, with its own flush (R172), and last the
drained test (R169). -/
def Obligations.ProposalsAndHoldsAreEvaluated : Prop :=
  (∀ s : State, (s.candidates = [] ↔ s.proposal = none) ∧ (s.candidates = [] → s.stepSeven = s) ∧
    ∀ p ∈ s.proposal,
      (∃ c ∈ s.candidates, c.cls = p.cls) ∧ (∀ c ∈ s.candidates, c.cls.code ≤ p.cls.code) ∧
      (∀ g, inMask p.mask g = s.candidates.any fun c => inMask c.mask g) ∧
      p.item = s.candidates.any Candidate.item ∧ p.audit = s.candidates.any Candidate.audit ∧
      p.expects = (p.item || s.classExpects p.cls)) ∧
  (∀ (s : State) (g : Group), (s.linkHold g = true ↔ ∃ x ∈ s.sl.stations, x.group = g ∧
      ((x.state = .present ∨ x.state = .suspect) ∧ s.busyLevel ≤ x.busy.toNat ∨
        x.state = .absent ∧ s.absentHolds = true)) ∧
    s.activeHolds = [s.ad.modelA.hold, s.ad.modelB.hold, s.ad.modelC.hold, s.ad.modelD.hold, s.pins.busy0,
      s.pins.busy1, s.linkHold .a, s.linkHold .b, s.linkHold .c, s.linkHold .d, s.flagOf .adPause 0,
      decide (s.ad.spacing < s.minSpacing), s.sq.sr.state != .idle || s.sq.fr.state != .idle,
      decide (s.ledgerHigh ≤ s.lg.entries.length), decide (56 ≤ s.sl.tagQ.length), decide (6 ≤ s.sl.routeQ.length),
      decide (512 ≤ s.lg.entries.length), decide ((s.reg .adQuota).toNat ≤ s.ad.quotaCount.toNat),
      s.rc.state != .running] ∧
    s.globalHold = (
      s.ad.modelA.hold && s.flagOf .adHoldEn 0 || s.ad.modelB.hold && s.flagOf .adHoldEn 1 ||
      s.ad.modelC.hold && s.flagOf .adHoldEn 2 || s.ad.modelD.hold && s.flagOf .adHoldEn 3 ||
      s.pins.busy0 && s.flagOf .adHoldEn 4 || s.pins.busy1 && s.flagOf .adHoldEn 5 ||
      s.linkHold .a && s.flagOf .adHoldEn 6 || s.linkHold .b && s.flagOf .adHoldEn 7 ||
      s.linkHold .c && s.flagOf .adHoldEn 8 || s.linkHold .d && s.flagOf .adHoldEn 9 ||
      s.flagOf .adPause 0 || decide (s.ad.spacing < s.minSpacing) ||
      (s.sq.sr.state != .idle || s.sq.fr.state != .idle) ||
      s.flagOf .adSafetyEn 0 && (decide (s.ledgerHigh ≤ s.lg.entries.length) || decide (56 ≤ s.sl.tagQ.length) ||
        decide (6 ≤ s.sl.routeQ.length)) ||
      decide (512 ≤ s.lg.entries.length) ||
      s.flagOf .adQuotaEn 0 && decide ((s.reg .adQuota).toNat ≤ s.ad.quotaCount.toNat) ||
      s.rc.state != .running)) ∧
  (∀ (s t u z : State) (active : List Bool) (global admitted flush : Bool) (q : Word) (i : Nat) (k : Event)
      (ks : List Event), s.tablesCanonical = true → active.length = 19 → z = u.closeBatch true s.br.openCount →
    u = ((s.countAdmission admitted).evalLedgerHigh).writeHolds active global →
    t = s.stepEight active global admitted flush →
    q = (if admitted = true ∧ s.ad.quotaCount ≠ 0xFFFFFFFF#32 then s.ad.quotaCount + 1#32 else s.ad.quotaCount) →
    u = { s with ad := u.ad, lg := u.lg, counters := u.counters, rc := { s.rc with flags := u.rc.flags } } ∧
    u.ad = { s.ad with
      spacing := if admitted then 1 else min 65535 (s.ad.spacing + 1), quotaCount := q,
        holdStatus := u.ad.holdStatus } ∧
    u.lg = { s.lg with high := decide (s.ledgerHigh ≤ s.lg.entries.length) } ∧
    u.rc.flags = s.rc.flags |||
      (if admitted = true ∧ s.quotaEnabled = true ∧ q = s.reg .adQuota then 0x40000#32 else 0#32) |||
      (if s.lg.high = false ∧ s.ledgerHigh ≤ s.lg.entries.length then 0x80#32 else 0#32) ∧
    (i < 19 → bit u.ad.holdStatus i = active.getD i false ∧
      u.counter (.holdPosition i) = s.counter (.holdPosition i) + if active.getD i false then 1#32 else 0#32) ∧
    (19 ≤ i → i < 31 → bit u.ad.holdStatus i = false) ∧ bit u.ad.holdStatus 31 = global ∧
    u.counter .heldPositions = s.counter .heldPositions + (if global then 1#32 else 0#32) ∧
    (flush = false → s.rc.deferred = [] → s.rc.state ≠ .draining → t = u) ∧
    (flush = false → s.rc.deferred = [] → s.rc.state = .draining →
      (s.lg.entries = [] → s.cs.ring = [] → s.cs.sensePending = false → s.sl.tagQ = [] → s.sl.routeQ = [] →
        t = { u with rc := { u.rc with state := .halted, flags := u.rc.flags ||| 0x10000#32 } }) ∧
      (s.lg.entries ≠ [] ∨ s.cs.ring ≠ [] ∨ s.cs.sensePending = true ∨ s.sl.tagQ ≠ [] ∨ s.sl.routeQ ≠ [] → t = u)) ∧
    (flush = true → s.rc.deferred = [] →
      (s.br.openCount = 0 → s.rc.state ≠ .draining ∨ s.lg.entries ≠ [] ∨ s.cs.ring ≠ [] ∨ s.cs.sensePending = true ∨
        s.sl.tagQ ≠ [] ∨ s.sl.routeQ ≠ [] → t = { u with counters := (u.bump .flushEmpty).counters }) ∧
      (s.br.openCount = 0 → s.rc.state = .draining → s.lg.entries = [] → s.cs.ring = [] → s.cs.sensePending = false →
        s.sl.tagQ = [] → s.sl.routeQ = [] → t = { u with
          counters := (u.bump .flushEmpty).counters
          rc := { u.rc with state := .halted, flags := u.rc.flags ||| 0x10000#32 } }) ∧
      (s.br.openCount ≠ 0 → t = z)) ∧
    (s.rc.deferred = k :: ks →
      t.rc = { u.rc with
        state := .faulted, faultFirst := k.num, deferred := [], flags := t.rc.flags
        faultCauses := (k :: ks).foldl (fun w x => w ||| 1#32 <<< x.num) 0#32 } ∧
      (s.br.openCount = 0 → t = { u with
        rc := { t.rc with flags := u.rc.flags ||| 2#32 }
        counters := (if flush then (u.bump .flushEmpty).bump .flushEmpty else u.bump .flushEmpty).counters }) ∧
      (s.br.openCount ≠ 0 → t = { z with
        rc := { t.rc with flags := z.rc.flags ||| 2#32 }
        counters := if flush then (z.bump .flushEmpty).counters else z.counters })))

/-- Admission at step 7 with no hold (R56, R65 to R67, R69, R73, R74, R76, R81, R109, R145, R152): the identity, the
fire lines, the buffer models with their hold flags, the Captured entry, the tag, the open batch, which its K-th
admission closes as FlushClosesTheOpenBatch says, the counters, the silence watchdog, and nothing else. After the
admission the watchdog runs exactly where its three conditions hold, AWAITING with the new entry counted: from 0 where
it did not run before, and otherwise with its count (R109). The payload of a capture tag (R128) holds its fields at
these bits. -/
def Obligations.AdmissionsAreHandedOn : Prop :=
  (∀ (c : CaptureClass) (item audit : Bool) (mask : BitVec 4) (id : Ident) (lane : Byte), ∃ b1 b2 b3 b4 b5 : Byte,
    tagPayload c item audit mask id lane = [b1, b2, b3, b4, b5, lane] ∧
    b1.toNat = c.code * 32 + (if item then 16 else 0) + mask.toNat ∧
    b2.toNat * 2 ^ 24 + b3.toNat * 2 ^ 16 + b4.toNat * 2 ^ 8 + b5.toNat =
      id.epoch.toNat * 2 ^ 28 + id.itemId.toNat * 2 ^ 4 + if audit then 8 else 0) ∧
  ∀ (s t b : State) (p : Proposal) (g : Group) (e : Entry), s.proposal = some p → s.globalHold = false →
    e = { ident := some { epoch := s.ad.epoch, itemId := s.ad.nextId }, cls := p.cls, item := p.item, audit := p.audit,
          expects := p.expects, captureTravel := s.lp.travel, cycleLow := s.lp.cycleNumber.extractLsb' 0 8,
          gateTravel := s.lp.travel + BitVec.ofNat 32 s.gateDistance, mask := p.mask, lane := s.pins.lane,
          verdict := none } →
    b = { s with br := { s.br with openCount := s.br.openCount + 1, openEpoch := s.ad.epoch } } →
    t = s.stepSeven →
    t = { s with
      candidates := [], ad := t.ad, lg := t.lg, sl := t.sl, br := t.br, counters := t.counters
      rc := { s.rc with flags := t.rc.flags }
      vc := { s.vc with silence :=
        (if s.silenceMs = 0 ∨ s.awaiting = 0 ∧ p.expects = false ∨ s.vc.silent = true then none
          else some (s.vc.silence.getD 0)) } } ∧
    t.ad.nextId = s.ad.nextId + 1#24 ∧ t.ad.epoch = s.ad.epoch ∧ t.ad.quotaCount = s.ad.quotaCount ∧
    t.ad.spacing = s.ad.spacing ∧ t.ad.holdStatus = s.ad.holdStatus ∧
    t.fire g = (if inMask p.mask g then some s.fireWidth else s.fire g) ∧
    (inMask p.mask g = false → t.model g = s.model g) ∧
    (inMask p.mask g = true → 63 ≤ (s.model g).occ → t.model g = s.model g) ∧
    (inMask p.mask g = true → (s.model g).occ < 63 → t.model g =
      { occ := (s.model g).occ + 1
        drain := if (s.model g).occ = 0 then some (s.drainUs g) else (s.model g).drain
        hold :=
          if s.modelHigh g ≤ (s.model g).occ + 1 then true
          else if (s.model g).occ + 1 ≤ s.modelLow g then false else (s.model g).hold }) ∧
    t.lg = { s.lg with
      entries := s.lg.entries ++ [e]
      window := if s.lg.entries.any (fun x => x.ident == e.ident) || s.lg.window.any (fun r => some r.ident == e.ident)
        then s.lg.window.filter (fun r => some r.ident ≠ e.ident) else s.lg.window } ∧
    t.sl = { s.sl with
      tagQ := if s.sl.tagQ.length < 64 then s.sl.tagQ ++ [tagPayload p.cls p.item p.audit p.mask
        { epoch := s.ad.epoch, itemId := s.ad.nextId } s.pins.lane] else s.sl.tagQ
      routeQ := t.sl.routeQ } ∧
    (s.br.openCount + 1 ≠ s.batchSize → t.br = b.br ∧ t.sl.routeQ = s.sl.routeQ ∧
      t.rc.flags = s.rc.flags ||| (if s.sl.tagQ.length < 64 then 0#32 else 0x2000#32)) ∧
    (s.br.openCount + 1 = s.batchSize → t.br = (b.closeBatch false s.batchSize).br ∧
      t.sl.routeQ = (b.closeBatch false s.batchSize).sl.routeQ ∧
      t.rc.flags = (b.closeBatch false s.batchSize).rc.flags |||
        (if s.sl.tagQ.length < 64 then 0#32 else 0x2000#32)) ∧
    (s.tablesCanonical = true →
      (∀ c, t.counter (.admitted c) = s.counter (.admitted c) + if c = p.cls then 1#32 else 0#32) ∧
      t.counter (.fireOverlap g) = s.counter (.fireOverlap g) +
        (if inMask p.mask g = true ∧ (s.fire g).isSome then 1#32 else 0#32) ∧
      t.counter .modelSaturate = s.counter .modelSaturate + BitVec.ofNat 32 ([Group.a, .b, .c, .d].countP fun h =>
        inMask p.mask h && decide (63 ≤ (s.model h).occ)) ∧
      t.counter .idReuse = s.counter .idReuse +
        (if s.lg.entries.any (fun x => x.ident == e.ident) || s.lg.window.any (fun r => some r.ident == e.ident)
          then 1#32 else 0#32) ∧
      t.counter .tagLost = s.counter .tagLost + (if s.sl.tagQ.length < 64 then 0#32 else 1#32) ∧
      t.counter .unfiredAdmission = s.counter .unfiredAdmission + (if p.mask = 0#4 then 1#32 else 0#32) ∧
      (∀ c ∈ [Ctr.batches, .routeLost, .routeExhausted],
        t.counter c = if s.br.openCount + 1 = s.batchSize then (b.closeBatch false s.batchSize).counter c
          else s.counter c))

/-- Holding at step 7 (R57, R68, R75): no identity, no pulse, no model, no tag, no batch; Held counts; an item leaves
an Uncaptured entry that expects no verdict, or with a full ledger is a blind item. Outside Running every proposal is
held. No held proposal makes an Awaiting entry, so the silence watchdog runs where its three conditions hold, and its
count stands (R109). -/
def Obligations.HeldProposalsKeepTheirItems : Prop :=
  ∀ (s t : State) (p : Proposal), (s.rc.state ≠ .running → s.globalHold = true) ∧ (s.proposal = some p →
    s.globalHold = true → t = s.stepSeven →
    (p.item = false → t = { s with
      candidates := []
      counters := (s.bump (.held p.cls)).counters
      vc := { s.vc with silence :=
        if s.silenceMs = 0 ∨ s.awaiting = 0 ∨ s.vc.silent = true then none else some (s.vc.silence.getD 0) } }) ∧
    (p.item = true → s.lg.entries.length < 512 → t = { s with
      candidates := []
      counters := (s.bump (.held p.cls)).counters
      vc := { s.vc with silence :=
        if s.silenceMs = 0 ∨ s.awaiting = 0 ∨ s.vc.silent = true then none else some (s.vc.silence.getD 0) }
      lg := { s.lg with entries := s.lg.entries ++
        [{ ident := none, cls := p.cls, item := true, audit := p.audit, expects := false, captureTravel := s.lp.travel
           cycleLow := s.lp.cycleNumber.extractLsb' 0 8
           gateTravel := s.lp.travel + BitVec.ofNat 32 s.gateDistance, mask := 0#4, lane := s.pins.lane
           verdict := none }] } }) ∧
    (p.item = true → 512 ≤ s.lg.entries.length → t = { s with
      candidates := []
      counters := ((s.bump (.held p.cls)).bump .gateBlind).counters
      vc := { s.vc with silence :=
        if s.silenceMs = 0 ∨ s.awaiting = 0 ∨ s.vc.silent = true then none else some (s.vc.silence.getD 0) }
      rc := { s.rc with
        flags := s.rc.flags ||| 4#32
        deferred :=
          if s.flagOf .rcFaultMask 2 = true ∧ (s.rc.state = RunState.running ∨ s.rc.state = RunState.draining) then
            s.rc.deferred ++ [.blindItem] else s.rc.deferred
        faultCauses :=
          if s.flagOf .rcFaultMask 2 = true ∧ s.rc.state = RunState.faulted then s.rc.faultCauses ||| 4#32
          else s.rc.faultCauses } }))

/-! ### Retirement and verdicts (chapters 5 and 7) -/

/-- GATE_RETIREMENT (R80, R109, R111, R115 to R120): the first due entry in creation order leaves with its decided
outcome: its pulse, its counters (Dispositions, Defaulted, GateOverlap, LogLost, NoticeLost), its log record, its
notice, its place in the retired window; with none due no entry leaves and nothing else changes. The silence watchdog
then runs exactly where its three conditions hold, with its count, and stops where no entry is left Awaiting (R109).
The row is the step alone, the model's choice (log 3). Where the row stands among the rows of its edge is the model's
choice (log 29). Step 4 of a position event counts both pulses down (R115) and then performs the row until no entry is
due. The words of a record (section 7.5, R121) and the payload of a notice (R128) hold their fields at these bits, and
every other bit is 0. -/
def Obligations.RetirementsAreDispatched : Prop :=
  (∀ s : State, s.stepFour = (List.range (s.lg.entries.length + 1)).foldl (fun x _ => x.row .gateRetirement)
    { s with gd := { s.gd with rejLeft := s.gd.rejLeft - 1, divLeft := s.gd.divLeft - 1 } }) ∧
  (∀ (e : Entry) (o : Disposition) (src : Source) (travel : Travel) (r : LogRecord) (id : Ident),
    r = entryRecord e o src travel →
    id = (match e.ident with | some i => i | none => { epoch := 0#4, itemId := 0#24 }) →
    field r.word0 0 2 = o.code ∧ field r.word0 2 3 = src.code ∧ field r.word0 5 3 = e.cls.code ∧
    bit r.word0 8 = e.ident.isNone ∧ bit r.word0 9 = e.item ∧ bit r.word0 10 = e.audit ∧
    bit r.word0 11 = (match e.verdict with | some v => v.outOfOrder | none => false) ∧ bit r.word0 12 = false ∧
    bit r.word0 13 = e.ident.isSome ∧ field r.word0 14 2 = 0 ∧ field r.word0 16 4 = id.epoch.toNat ∧
    field r.word0 20 4 = e.mask.toNat ∧ field r.word0 24 8 = 0 ∧ field r.word1 0 24 = id.itemId.toNat ∧
    field r.word1 24 8 = (match e.verdict with | some v => v.detail.toNat | none => 0) ∧
    field r.word2 0 16 = travel.toNat % 65536 ∧ field r.word2 16 8 = e.cycleLow.toNat ∧
    field r.word2 24 8 = e.lane.toNat) ∧
  (∀ (o : Disposition) (src : Source) (id : Ident) (detail : Byte), ∃ b1 b2 b3 b4 b5 : Byte,
    noticePayload o src id detail = [b1, b2, b3, b4, b5, detail] ∧
    b1.toNat = o.code * 64 + src.code * 8 ∧
    b2.toNat * 2 ^ 24 + b3.toNat * 2 ^ 16 + b4.toNat * 2 ^ 8 + b5.toNat =
      id.epoch.toNat * 2 ^ 28 + id.itemId.toNat * 2 ^ 4) ∧
  ∀ (s : State) (pre post : List Entry) (e : Entry) (o : Disposition) (src : Source),
    ((∀ x ∈ s.lg.entries, reached s.lp.travel x.gateTravel = false) →
      exec .gateRetirement s = .next { s.arrive .step with vc := { s.vc with silence :=
        if s.silenceMs = 0 ∨ s.awaiting = 0 ∨ s.vc.silent = true then none else some (s.vc.silence.getD 0) } }) ∧
    (s.lg.entries = pre ++ e :: post → (∀ x ∈ pre, reached s.lp.travel x.gateTravel = false) →
      reached s.lp.travel e.gateTravel = true → (o, src) = s.decideOutcome e →
      ∃ t, exec .gateRetirement s = .next t ∧
        t = { s.arrive .step with
          lg := t.lg, gd := t.gd, counters := t.counters, sl := { (s.arrive .step).sl with noticeQ := t.sl.noticeQ }
          rc := { s.rc with flags := t.rc.flags }
          vc := { s.vc with silence :=
            (if s.silenceMs = 0 ∨ (pre ++ post).countP Entry.awaiting = 0 ∨ s.vc.silent = true then none
              else some (s.vc.silence.getD 0)) } } ∧
        t.lg.entries = pre ++ post ∧ t.lg.high = s.lg.high ∧
        (e.ident = none ∨ e.expects = false → t.lg.window = s.lg.window) ∧
        (∀ id, e.ident = some id → e.expects = true →
          t.lg.window = (if (s.lg.window.filter fun x => x.ident ≠ id).length < 32
            then s.lg.window.filter fun x => x.ident ≠ id
            else (s.lg.window.filter fun x => x.ident ≠ id).drop 1) ++ [{ ident := id, outcome := o }]) ∧
        (o = .reject → t.gd.rejLeft = s.pulseLength ∧ t.gd.divLeft = 0) ∧
        (o = .divert → t.gd.divLeft = s.pulseLength ∧ t.gd.rejLeft = 0) ∧
        (o = .pass ∨ o = .none → t.gd.rejLeft = s.gd.rejLeft ∧ t.gd.divLeft = s.gd.divLeft) ∧
        t.gd.log = (if s.gd.log.length < 128 ∧ (s.fieldOf .gdLogMode 0 2 = 1 → e.item = true) ∧
            (s.fieldOf .gdLogMode 0 2 = 2 → src ≠ .verdict ∧ src ≠ .aux ∧ src ≠ .lateVerdict ∧ src ≠ .abandoned)
          then s.gd.log ++ [entryRecord e o src s.lp.travel] else s.gd.log) ∧
        (s.noticesEnabled = false ∨ e.ident = none ∨ 32 ≤ s.sl.noticeQ.length → t.sl.noticeQ = s.sl.noticeQ) ∧
        (∀ id, e.ident = some id → s.noticesEnabled = true → s.sl.noticeQ.length < 32 →
          t.sl.noticeQ = s.sl.noticeQ ++ [noticePayload o src id ((e.verdict.map Verdict.detail).getD 0#8)]) ∧
        (s.tablesCanonical = true →
          (∀ k, t.counter (.dispositions k) = s.counter (.dispositions k) + if k = o then 1#32 else 0#32) ∧
          t.counter .defaulted = s.counter .defaulted + (if src = .default then 1#32 else 0#32) ∧
          t.counter .gateOverlap = s.counter .gateOverlap +
            (if o = .reject ∧ s.gd.divLeft ≠ 0 ∨ o = .divert ∧ s.gd.rejLeft ≠ 0 then 1#32 else 0#32) ∧
          t.counter .logLost = s.counter .logLost +
            (if 128 ≤ s.gd.log.length ∧ (s.fieldOf .gdLogMode 0 2 = 1 → e.item = true) ∧
              (s.fieldOf .gdLogMode 0 2 = 2 → src ≠ .verdict ∧ src ≠ .aux ∧ src ≠ .lateVerdict ∧ src ≠ .abandoned)
            then 1#32 else 0#32) ∧
          t.counter .noticeLost = s.counter .noticeLost +
            (if s.noticesEnabled = true ∧ e.ident ≠ none ∧ 32 ≤ s.sl.noticeQ.length then 1#32 else 0#32)))

/-- The disposition decision (R112, R113): no item, the override, the policy of an Uncaptured entry, the verdict, the
default policy, and the audit that turns a Pass into a Divert. -/
def Obligations.OutcomesAreDecided : Prop :=
  ∀ (s : State) (e : Entry) (v : Verdict) (id : Ident),
    (e.item = false → s.decideOutcome e = (.none, .aux)) ∧
    (e.item = true →
      (s.fieldOf .gdOverride 0 2 = 1 → s.decideOutcome e = (.pass, .override)) ∧
      (s.fieldOf .gdOverride 0 2 = 2 → s.decideOutcome e = (.reject, .override)) ∧
      (s.fieldOf .gdOverride 0 2 = 0 ∨ s.fieldOf .gdOverride 0 2 = 3 →
        (e.ident = none → s.decideOutcome e =
          (if s.fieldOf .gdUncapturedPolicy 0 2 = 1 then .pass
            else if s.fieldOf .gdUncapturedPolicy 0 2 = 3 then .divert else .reject, .policy)) ∧
        (e.ident = some id → e.verdict = some v → (e.audit = false ∨ v.code ≠ .pass) →
          s.decideOutcome e = (v.code, .verdict)) ∧
        (e.ident = some id → e.verdict = some v → e.audit = true → v.code = .pass →
          s.decideOutcome e = (.divert, .audit)) ∧
        (e.ident = some id → e.verdict = none → s.fieldOf .gdDefaultPolicy 0 2 = 1 →
          s.decideOutcome e = if e.audit then (.divert, .audit) else (.pass, .default)) ∧
        (e.ident = some id → e.verdict = none → s.fieldOf .gdDefaultPolicy 0 2 = 3 →
          s.decideOutcome e = (.divert, .default)) ∧
        (e.ident = some id → e.verdict = none →
          s.fieldOf .gdDefaultPolicy 0 2 = 0 ∨ s.fieldOf .gdDefaultPolicy 0 2 = 2 →
          s.decideOutcome e = (.reject, .default))))

/-- PACKET_ACCEPT (R82 to R88, R103, R104, R109): the sequence check, and the record's class: invalid, matched,
duplicate, unsolicited, late, unknown, out of sequence. The records of a longer packet are applied one after another,
each seeing what the earlier ones did: one more record does what it would do as the next packet of its own, but for
the packet's count and number. A late record holds the fields of R121 at the bits of section 7.5. A packet without 1
to 16 records is refused by name, the model's choice (log 20). Where the row stands among the rows of its edge is the
model's choice (log 29). -/
def Obligations.RecordsAreClassified : Prop :=
  (∀ (s : State) (id : Ident) (c : Disposition) (detail : Byte) (ooo conflict : Bool) (r : LogRecord),
    r = s.lateRecord id c detail ooo conflict →
    field r.word0 0 2 = c.code ∧ field r.word0 2 3 = 6 ∧ field r.word0 5 6 = 0 ∧ bit r.word0 11 = ooo ∧
    bit r.word0 12 = conflict ∧ bit r.word0 13 = true ∧ field r.word0 14 2 = 0 ∧
    field r.word0 16 4 = id.epoch.toNat ∧ field r.word0 20 12 = 0 ∧ field r.word1 0 24 = id.itemId.toNat ∧
    field r.word1 24 8 = detail.toNat ∧ field r.word2 0 16 = s.lp.travel.toNat % 65536 ∧
    field r.word2 16 8 = s.lp.cycleNumber.toNat % 256 ∧ field r.word2 24 8 = 0) ∧
  ∀ (s : State) (n : Byte) (r : VerdictRecord) (rs : List VerdictRecord) (id : Ident) (c : Disposition)
    (pre post : List Entry) (e : Entry) (v : Verdict) (w : WindowRecord) (gap plain : Bool),
    s.tablesCanonical = true →
    id = { epoch := r.epoch, itemId := r.itemId } →
    gap = (s.vc.seqValid && decide (n ≠ s.vc.lastSeq + 1#8)) →
    plain = (!s.ordered ||
      (s.lg.entries.find? fun x => x.expects && x.verdict.isNone).map Entry.ident == some (some id)) →
    (rs.length = 0 ∨ 16 < rs.length → exec (.packetAccept n rs) s = .refused .malformedPacket) ∧
    (1 ≤ rs.length → rs.length < 16 → ∃ t v u, exec (.packetAccept n rs) s = .next t ∧
      exec (.packetAccept (n + 1#8) [r]) t = .next v ∧ exec (.packetAccept n (rs ++ [r])) s = .next u ∧
      u = { v with vc := { v.vc with lastSeq := n }, counters := u.counters, sl := (s.arrive .accept).sl } ∧
      ∀ k : Ctr, u.counter k = v.counter k - if k.offset = Ctr.packetsAccepted.offset then 1#32 else 0#32) ∧
    ∃ t, exec (.packetAccept n [r]) s = .next t ∧
      t = { s.arrive .accept with
        lg := { s.lg with entries := t.lg.entries }
        vc := { s.vc with
          lastSeq := n, seqValid := true, silent := false, lastError := if gap then 6 else s.vc.lastError
          silence := if s.silenceMs ≠ 0 ∧ t.awaiting ≠ 0 then some 0 else none }
        gd := { s.gd with log := t.gd.log, alert := t.gd.alert }
        rc := { s.rc with flags := t.rc.flags }, counters := t.counters } ∧
      t.counter .packetsAccepted = s.counter .packetsAccepted + 1#32 ∧
      t.counter .sequenceGap = s.counter .sequenceGap + (if gap then 1#32 else 0#32) ∧
      (gap = true → bit t.rc.flags 11 = true) ∧
      (r.code = 0#4 ∨ 3 < r.code.toNat → t.lg = s.lg ∧ t.gd = s.gd ∧ bit t.rc.flags 10 = true ∧
        t.counter .invalidRecord = s.counter .invalidRecord + 1#32) ∧
      (r.code = 1#4 ∧ c = .pass ∨ r.code = 2#4 ∧ c = .reject ∨ r.code = 3#4 ∧ c = .divert →
        (plain = false → s.seqKeep = false → t.lg = s.lg ∧ t.gd = s.gd ∧ bit t.rc.flags 10 = true ∧
          t.counter .sequenceError = s.counter .sequenceError + 1#32) ∧
        (plain = true ∨ s.seqKeep = true →
          (s.lg.entries = pre ++ e :: post → (∀ x ∈ pre, x.ident ≠ some id) → e.ident = some id →
            (e.expects = true → e.verdict = none →
              t.lg.entries =
                pre ++ { e with verdict := some { code := c, detail := r.detail, outOfOrder := !plain } } :: post ∧
              t.gd = s.gd ∧ t.counter .matched = s.counter .matched + 1#32) ∧
            (e.expects = true → e.verdict = some v → t.lg = s.lg ∧ t.gd = s.gd ∧
              t.counter .duplicate = s.counter .duplicate + 1#32 ∧
              t.counter .duplicateConflict = s.counter .duplicateConflict + (if v.code = c then 0#32 else 1#32) ∧
              (v.code ≠ c → bit t.rc.flags 10 = true)) ∧
            (e.expects = false → t.lg = s.lg ∧ t.gd = s.gd ∧ bit t.rc.flags 10 = true ∧
              t.counter .unsolicited = s.counter .unsolicited + 1#32)) ∧
          ((∀ x ∈ s.lg.entries, x.ident ≠ some id) →
            (s.lg.window.find? (fun x => x.ident == id) = some w → t.lg = s.lg ∧ bit t.rc.flags 8 = true ∧
              t.counter .lateVerdicts = s.counter .lateVerdicts + 1#32 ∧
              t.gd.log = if s.gd.log.length < 128 then
                s.gd.log ++ [s.lateRecord id c r.detail (!plain) (w.outcome ≠ .none && w.outcome ≠ c)]
                else s.gd.log) ∧
            (s.lg.window.find? (fun x => x.ident == id) = none → t.lg = s.lg ∧ t.gd = s.gd ∧
              bit t.rc.flags 9 = true ∧ t.counter .unknownVerdicts = s.counter .unknownVerdicts + 1#32))))

/-! ### The verdict channel (chapter 6) -/

/-- The receiver (R90): a start edge takes the bit time and the gap flag of its instant, is confirmed half a bit time
later or is a glitch, nine bits follow one bit time apart, and the stop bit completes the character. VC_CHARACTER (R90
to R92, R105, R107) names a completion, the model's choice (log 12): its gap flag is that of the character under way,
or of a start edge at this instant; the character enters the FIFO with its error and gap flags, or is lost to a full
one; a rising fill pauses and stalls the controller, and a Pause is sent again as long as characters come, at a count
of at least the re-send limit, which is deduced (log 14); a parser that is not suspended then works as at PARSE_ENTRY.
Where a row stands among the rows of its edge is the model's choice (log 29). A character that starts on VC_TX takes
the bit time as VC_DIVISOR stands, the model's choice while a new one waits for the receiver's next start edge (log
36). -/
def Obligations.CharactersAreReceived : Prop :=
  (∀ (r : Receiver) (x : Reception) (level gap : Bool) (bitTime : Nat) (b0 b1 b2 b3 b4 b5 b6 b7 b8 : Bool),
    (r.char = none → r.edge level bitTime gap =
      ({ last := some level
         char := if r.last = some true ∧ level = false then
           some { bitTime := bitTime, gap := gap, left := bitTime / 2, confirmed := false, bits := [] } else none },
        none)) ∧
    (r.char = some x → 1 < x.left →
      r.edge level bitTime gap = ({ last := some level, char := some { x with left := x.left - 1 } }, none)) ∧
    (r.char = some x → x.left ≤ 1 → x.confirmed = false → r.edge level bitTime gap =
      ({ last := some level
         char := if level then none else some { x with left := x.bitTime, confirmed := true } }, none)) ∧
    (r.char = some x → x.left ≤ 1 → x.confirmed = true → x.bits.length < 9 → r.edge level bitTime gap =
      ({ last := some level, char := some { x with left := x.bitTime, bits := x.bits ++ [level] } }, none)) ∧
    (r.char = some x → x.left ≤ 1 → x.confirmed = true → x.bits = [b0, b1, b2, b3, b4, b5, b6, b7, b8] →
      ∃ c, r.edge level bitTime gap = ({ last := some level, char := none }, some (c, x.gap)) ∧
        [0, 1, 2, 3, 4, 5, 6, 7].map c.data.getLsbD = [b0, b1, b2, b3, b4, b5, b6, b7] ∧ c.marker = b8 ∧
        c.stop = level)) ∧
  ∀ (s u : State) (c : LineChar) (idle : Nat) (gap : Bool) (e : FifoEntry),
    (∀ x, s.vc.rx.char = some x → gap = x.gap) →
    (s.vc.rx.char = none → gap = decide (s.gapLimit < s.vc.idle + idle)) →
    e = { data := c.data, marker := c.marker, error := !c.stop, gap := gap } →
    u = { s.arrive .parse with vc := { s.vc with rx := { last := some c.stop, char := none }, idle := 0 } } →
    (s.suspended = true → s.swFlow = false → s.hwFlow = false → s.vc.flowPaused = false →
      (s.vc.fifo.length < 256 → exec (.vcCharacter c idle) s = .next { u with
        vc := { u.vc with fifo := s.vc.fifo ++ [e] }
        counters := if c.stop then s.counters else (s.bump .framingErrors).counters }) ∧
      (256 ≤ s.vc.fifo.length → exec (.vcCharacter c idle) s = .next { u with
        counters := ((if c.stop then s else s.bump .framingErrors).bump .rxOverrun).counters
        rc := { s.rc with flags := s.rc.flags ||| 0x1000#32 } })) ∧
    (s.suspended = false → s.vc.fifo.length < 256 → s.vc.flowPaused = false →
      ∃ v, exec .parseEntry { u with
        vc := { u.vc with fifo := s.vc.fifo ++ [e] }
        counters := if c.stop then s.counters else (s.bump .framingErrors).counters } = .next v ∧
      exec (.vcCharacter c idle) s = .next { v with sl := u.sl }) ∧
    (s.suspended = true → s.swFlow = true → s.hwFlow = true → s.vc.stall = false → s.vc.tx = none →
      c.stop = true → s.vc.fifo.length < 256 → s.upperLevel < s.vc.fifo.length + 1 →
      (s.vc.flowPaused = false → exec (.vcCharacter c idle) s = .next { u with
        vc := { u.vc with
          fifo := s.vc.fifo ++ [e], flowPaused := true, resend := 0, stall := true
          tx := some { char := .pause, data := s.flowData .pause, bitTime := s.vcBitTime, left := 11 * s.vcBitTime } }
        counters := (s.bump .pauseSent).counters }) ∧
      (s.vc.flowPaused = true → s.lowerLevel < s.vc.fifo.length + 1 → s.vc.resend + 1 < s.resendK →
        exec (.vcCharacter c idle) s = .next { u with
          vc := { u.vc with
            fifo := s.vc.fifo ++ [e], stall := true, resend := s.vc.resend + 1 } }) ∧
      (s.vc.flowPaused = true → s.lowerLevel < s.vc.fifo.length + 1 → s.resendK ≤ s.vc.resend + 1 →
        exec (.vcCharacter c idle) s = .next { u with
          vc := { u.vc with
            fifo := s.vc.fifo ++ [e], stall := true, resend := 0
            tx := some
              { char := .pause, data := s.flowData .pause, bitTime := s.vcBitTime, left := 11 * s.vcBitTime } }
          counters := (s.bump .pauseSent).counters }))

/-- PARSE_ENTRY and TRUNCATED_GAP (R93, R96 to R102), flow control being off and no transaction open: what the parser
does with the head entry in each of its phases, and the discard of a packet that stops on a silent line, which no
character under way breaks. TRUNCATED_GAP says that the line has been silent beyond the gap limit, and the idle
measure then stands beyond it, the model's choice (logs 1 and 13); at an edge of the clock the measure decides (R100).
That a start edge not yet confirmed already counts as a character under way is the model's choice (log 43). Where a
row stands among the rows of its edge is the model's choice (log 29). Each record of a packet is five characters
(R95). That the on-line gap check takes the bit time as VC_DIVISOR stands, a new one at once, is the model's choice
(log 49). -/
def Obligations.EntriesAreParsed : Prop :=
  (∀ (l rest : List Byte) (c1 c2 c3 c4 c5 : Byte), (l.length < 5 → decodeRecords l = []) ∧
    (l = c1 :: c2 :: c3 :: c4 :: c5 :: rest → ∃ r, decodeRecords l = r :: decodeRecords rest ∧
      r.epoch.toNat = c1.toNat / 16 ∧ r.itemId.toNat =
        c1.toNat % 16 * 2 ^ 20 + c2.toNat * 2 ^ 12 + c3.toNat * 2 ^ 4 + c4.toNat / 16 ∧
      r.code.toNat = c4.toNat % 16 ∧ r.detail = c5)) ∧
  ∀ (s : State) (e : FifoEntry) (rest : List FifoEntry) (n : Byte) (drop : State → Nat → State),
    (∀ x k, drop x k = { x with
      vc := { s.vc with fifo := rest, parser := Parser.cleared, lastError := k }
      counters := (s.bump .packetErrors).counters
      rc := { s.rc with flags := s.rc.flags ||| 0x800#32 } }) →
    (s.suspended = true ∨ s.vc.fifo = [] → exec .parseEntry s = .next (s.arrive .parse)) ∧
    (s.suspended = false → s.vc.fifo = [] → s.vc.parser.phase ≠ .hunting → s.vc.rx.char = none → rest = [] →
      exec .truncatedGap s = .next { drop (s.arrive .parse) 2 with
        vc := { (drop s 2).vc with idle := max s.vc.idle (s.gapLimit + 1) } } ∧
      s.gapCheck = if s.gapLimit < s.vc.idle then drop s 2 else s) ∧
    (s.suspended = true ∨ s.vc.fifo ≠ [] ∨ s.vc.parser.phase = .hunting ∨ s.vc.rx.char ≠ none →
      exec .truncatedGap s = .next (s.arrive .parse) ∧ s.gapCheck = s) ∧
    (s.suspended = false → s.swFlow = false → s.hwFlow = false → s.port.txn = none → s.vc.fifo = e :: rest →
      (s.vc.parser.phase = .hunting → e.marker = true → e.data = s.vcAddr ∨ e.data = 255#8 →
        exec .parseEntry s = .next { s.arrive .parse with vc := { s.vc with
          fifo := rest
          parser :=
            { phase := .header, seqNo := none, count := 0, chars := [], sum := e.data, poisoned := e.error } } }) ∧
      (s.vc.parser.phase = .hunting → e.marker = true → e.data ≠ s.vcAddr → e.data ≠ 255#8 →
        exec .parseEntry s = .next { s.arrive .parse with
          vc := { s.vc with fifo := rest }, counters := (s.bump .foreignPackets).counters }) ∧
      (s.vc.parser.phase = .hunting → e.marker = false → exec .parseEntry s = .next { s.arrive .parse with
          vc := { s.vc with fifo := rest }, counters := (s.bump .huntSkipped).counters }) ∧
      (s.vc.parser.phase ≠ .hunting → e.gap = true → e.marker = false →
        exec .parseEntry s = .next { drop (s.arrive .parse) 2 with
          counters := ((s.bump .packetErrors).bump .huntSkipped).counters }) ∧
      (s.vc.parser.phase ≠ .hunting → e.gap = false → e.marker = true → e.data = s.vcAddr ∨ e.data = 255#8 →
        exec .parseEntry s = .next { drop (s.arrive .parse) 1 with vc := { s.vc with
          fifo := rest, lastError := 1
          parser :=
            { phase := .header, seqNo := none, count := 0, chars := [], sum := e.data, poisoned := e.error } } }) ∧
      (e.gap = false → e.marker = false →
        (s.vc.parser.phase = .header → s.vc.parser.seqNo = none → exec .parseEntry s = .next { s.arrive .parse with
          vc := { s.vc with
            fifo := rest
            parser := { s.vc.parser with
              seqNo := some e.data, sum := s.vc.parser.sum + e.data,
                poisoned := s.vc.parser.poisoned || e.error } } }) ∧
        (s.vc.parser.phase = .header → s.vc.parser.seqNo = some n → 1 ≤ e.data.toNat → e.data.toNat ≤ 16 →
          exec .parseEntry s = .next { s.arrive .parse with vc := { s.vc with
            fifo := rest
            parser := { s.vc.parser with
              phase := .records, count := e.data.toNat, sum := s.vc.parser.sum + e.data
              poisoned := s.vc.parser.poisoned || e.error } } }) ∧
        (s.vc.parser.phase = .header → s.vc.parser.seqNo = some n → e.data.toNat = 0 ∨ 16 < e.data.toNat →
          exec .parseEntry s = .next (drop (s.arrive .parse) 3)) ∧
        (s.vc.parser.phase = .records → exec .parseEntry s = .next { s.arrive .parse with vc := { s.vc with
          fifo := rest
          parser := { s.vc.parser with
            chars := s.vc.parser.chars ++ [e.data]
            phase := if s.vc.parser.chars.length + 1 < 5 * s.vc.parser.count then .records else .check
            sum := s.vc.parser.sum + e.data, poisoned := s.vc.parser.poisoned || e.error } } }) ∧
        (s.vc.parser.phase = .check → (s.vc.parser.poisoned || e.error) = true →
          exec .parseEntry s = .next (drop (s.arrive .parse) 4)) ∧
        (s.vc.parser.phase = .check → s.vc.parser.poisoned = false → e.error = false →
          s.vc.parser.sum + e.data ≠ 0#8 → exec .parseEntry s = .next (drop (s.arrive .parse) 5)) ∧
        (s.vc.parser.phase = .check → s.vc.parser.poisoned = false → e.error = false →
          s.vc.parser.sum + e.data = 0#8 → s.vc.parser.seqNo = some n →
          1 ≤ (decodeRecords s.vc.parser.chars).length → (decodeRecords s.vc.parser.chars).length ≤ 16 →
          ∃ v, exec (.packetAccept n (decodeRecords s.vc.parser.chars))
              { s with vc := { s.vc with fifo := rest, parser := Parser.cleared } } = .next v ∧
            exec .parseEntry s = .next { v with sl := (s.arrive .parse).sl })))

/-! ### The Station Link and its slots (chapters 8 and 9) -/

/-- FRAME_SELECTION with a Due slot (R46, R47, R65, R128, R143, R146 to R149, R163), at a later edge than the one at
which it became Due: the Due slot of highest priority sends its frame, with the effect the frame's start has on its
owner; the drained test follows (R169). The row is the selection of one edge, and what stood startable at the edge
before is kept for it, the model's choice (log 29). A slot whose anchor changed while it was Due does not start, its
choice too (R139, log 30), and so is that a reset frame leaves the hold flags of the models it clears clear, as R71
says, where R69 would set one whose HIGH is stored as 0 (log 33). -/
def Obligations.AnchoredFramesStart : Prop :=
  ∀ (o s d : State) (i : SlotId) (g : RefGen), s = o.arrive .selection →
    s.sl.link = .idle → s.linkEnabled = true → (s.slot i).state = .due →
    (s.slot i).waits = false → i ∈ s.sl.earlier.slots →
    (∀ j ∈ higherSlots i, (s.slot j).state ≠ .due ∨ (s.slot j).waits = true ∨ j ∉ s.sl.earlier.slots) →
    d = { s with sl := { s.sl with slots := s.sl.slots.put i Slot.sent } } →
    (i = .cycleMark → s.rc.countRestart = false → exec .frameSelection o = .next (d.frameBegun
      { kind := 1#4, addr := 0#4, payload := [s.lp.cycleNumber.extractLsb' 0 8,
          0#1 ++ s.ad.epoch ++ 0#1 ++ BitVec.ofNat 2 s.rc.state.code] }).drainedTest.closeEdge) ∧
    (i = .cycleMark → s.rc.countRestart = true → exec .frameSelection o = .next (({ d with
      ad := { s.ad with nextId := 0#24, epoch := s.ad.epoch + 1#4 }
      rc := { s.rc with countRestart := false } }).frameBegun
      { kind := 1#4, addr := 0#4, payload := [s.lp.cycleNumber.extractLsb' 0 8,
          1#1 ++ (s.ad.epoch + 1#4) ++ 0#1 ++ BitVec.ofNat 2 s.rc.state.code] }).drainedTest.closeEdge) ∧
    (i = .fullReset → exec .frameSelection o = .next (({ d with
      ad := { s.ad with
        nextId := 0#24, epoch := s.ad.epoch + 1#4
        modelA := Model.empty, modelB := Model.empty, modelC := Model.empty, modelD := Model.empty }
      rc := { s.rc with countRestart := false }
      lg := { s.lg with window := [] }
      sq := { s.sq with
        fr := if s.sq.fr.state = SeqState.signalling then
            { state := .recovering, count := 0 } else s.sq.fr } }).frameBegun
      { kind := 2#4, addr := 0#4, payload := [0#4 ++ (s.ad.epoch + 1#4), 0#8] }).drainedTest.closeEdge) ∧
    (i = .stationReset → exec .frameSelection o = .next (({ d with
      ad := { s.ad with
        modelA := if inMask s.srGroups .a then Model.empty else s.ad.modelA
        modelB := if inMask s.srGroups .b then Model.empty else s.ad.modelB
        modelC := if inMask s.srGroups .c then Model.empty else s.ad.modelC
        modelD := if inMask s.srGroups .d then Model.empty else s.ad.modelD }
      sq := { s.sq with
        srCount := s.sq.srCount + 1#16
        sr := if s.sq.sr.state = SeqState.signalling then
            { state := .recovering, count := 0 } else s.sq.sr } }).frameBegun
      { kind := 3#4, addr := 0#4, payload := [0#4 ++ s.srGroups,
        (s.sq.srCount + 1#16).extractLsb' 0 8] }).drainedTest.closeEdge) ∧
    (i = refSlot g → (s.ref g).state = .requested →
      ((s.ref g).cancelled = false → s.sq.sr.state = .idle → s.sq.fr.state = .idle →
        exec .frameSelection o = .next ((d.setRef g
          { state := .pending, capture := s.lp.travel + BitVec.ofNat 32 (s.refDelay g), due := false
            cancelled := false }).frameBegun
          { kind := 4#4, addr := 0#4, payload := [BitVec.ofNat 8 (refBit g + 1),
            s.refCode g] }).drainedTest.closeEdge) ∧
      ((s.ref g).cancelled = true ∨ s.sq.sr.state ≠ .idle ∨ s.sq.fr.state ≠ .idle →
        exec .frameSelection o = .next (({ d.setRef g Reference.idle with
          counters := (s.bump .refCancelled).counters }).frameBegun
          { kind := 4#4, addr := 0#4, payload := [BitVec.ofNat 8 (refBit g + 1),
            s.refCode g] }).drainedTest.closeEdge)) ∧
    (i = .user → exec .frameSelection o = .next (({ d with sl := { d.sl with userRequest := false } }).frameBegun
      { kind := 5#4, addr := (s.reg .slUserWord).extractLsb' 16 4
        payload := [(s.reg .slUserWord).extractLsb' 8 8, (s.reg .slUserWord).extractLsb' 0 8] }).drainedTest.closeEdge)

/-- FRAME_SELECTION with no slot to start (R132, R133, R146, R169): a Guarding or Due slot keeps the link free;
otherwise the route queue goes before the tag queue, the tag queue before the notice queue, and a poll comes last, to
the next address whose turn it is. The drained test follows each start. The selection passes over what was not
startable at the end of the edge before (log 29): a slot that became Due since, an entry that joined an empty queue
since; its end is the end of its edge, where what then stands startable is kept. An edge ends too where a row arrives
that cannot stand at the edge of the row before it, in the order of R32 (log 29). That a Due slot which waits for a
new anchor cannot start here, and still keeps the link from free frames and polls, is the model's choice, R139 and
R143 differing (log 30). -/
def Obligations.FreeFramesStartInOrder : Prop :=
  ∀ (o s : State) (m : List Byte) (rest : List (List Byte)) (a turn : Nat), s = o.arrive .selection →
    (∀ p, o.arrive p = { o with sl := { o.sl with
      place := p, earlier := if p.follows o.sl.place then o.sl.earlier else o.startableNow } }) ∧
    (∀ p q : Place, p.follows q = true ↔ p = .late ∨ p = .step ∧ (q = .position ∨ q = .step) ∨
      p ≠ .position ∧ q.rank < p.rank) ∧
    (s.sl.link ≠ .idle ∨ s.linkEnabled = false → exec .frameSelection o = .next s.closeEdge) ∧
    s.closeEdge = { s with sl := { s.sl with earlier := s.startableNow, place := .late } } ∧
    (∀ i, i ∈ s.startableNow.slots ↔ (s.slot i).state = .due ∧ (s.slot i).waits = false) ∧
    (s.startableNow.route = true ↔ s.sl.routeQ ≠ []) ∧ (s.startableNow.tag = true ↔ s.sl.tagQ ≠ []) ∧
    (s.startableNow.notice = true ↔ s.sl.noticeQ ≠ []) ∧
    (∀ k b, s.pollable k b = true ↔ (s.station (b - 1)).state ≠ .disabled ∧
      ((s.station (b - 1)).state = .absent → k = 0)) ∧
    (s.sl.link = .idle → s.linkEnabled = true →
      ((∃ i, (s.slot i).state = .guarding ∨ (s.slot i).state = .due) →
        (∀ i ∈ s.sl.earlier.slots, (s.slot i).state ≠ .due ∨ (s.slot i).waits = true) →
        exec .frameSelection o = .next s.closeEdge) ∧
      ((∀ i, (s.slot i).state ≠ .due ∧ (s.slot i).state ≠ .guarding) →
        (s.sl.routeQ = m :: rest → s.sl.earlier.route = true → exec .frameSelection o =
          .next ((({ s with sl := { s.sl with routeQ := rest } }).frameBegun
            { kind := 6#4, addr := 0#4, payload := m }).drainedTest).closeEdge) ∧
        (s.sl.routeQ = [] ∨ s.sl.earlier.route = false → s.sl.tagQ = m :: rest →
          s.sl.earlier.tag = true → exec .frameSelection o =
          .next ((({ s with sl := { s.sl with tagQ := rest } }).frameBegun
            { kind := 7#4, addr := 0#4, payload := m }).drainedTest).closeEdge) ∧
        (s.sl.routeQ = [] ∨ s.sl.earlier.route = false →
          s.sl.tagQ = [] ∨ s.sl.earlier.tag = false → s.sl.noticeQ = m :: rest →
          s.sl.earlier.notice = true → exec .frameSelection o =
          .next ((({ s with sl := { s.sl with noticeQ := rest } }).frameBegun
            { kind := 8#4, addr := 0#4, payload := m }).drainedTest).closeEdge) ∧
        (s.sl.routeQ = [] ∨ s.sl.earlier.route = false →
          s.sl.tagQ = [] ∨ s.sl.earlier.tag = false →
          s.sl.noticeQ = [] ∨ s.sl.earlier.notice = false →
          (s.sl.pollDue = false → exec .frameSelection o = .next s.closeEdge) ∧
          (s.sl.pollDue = true →
            (s.sl.lastPolled < a ∧ a ≤ 15 ∧ turn = s.sl.turn ∧ s.pollable turn a = true ∧
                (∀ b < a, s.sl.lastPolled < b → s.pollable turn b = false) ∨
              1 ≤ a ∧ a ≤ s.sl.lastPolled ∧ turn = (s.sl.turn + 1) % 16 ∧ s.pollable turn a = true ∧
                (∀ b < 16, s.sl.lastPolled < b → s.pollable s.sl.turn b = false) ∧
                (∀ b < a, 1 ≤ b → s.pollable turn b = false) →
              exec .frameSelection o = .next ((({ s with
                sl := { s.sl with
                  pollDue := false, lastPolled := a, turn := turn, polled := a, pollSent := s.sl.pollSeq
                  pollSeq := s.sl.pollSeq + 1#8, discard := false, reply := [] }
                counters := (s.bump .polls).counters }).frameBegun
                { kind := 9#4, addr := BitVec.ofNat 4 a, payload := [s.sl.pollSeq, 0#8] }).drainedTest).closeEdge) ∧
            ((∀ b < 16, s.sl.lastPolled < b → s.pollable s.sl.turn b = false) →
              (∀ b < s.sl.lastPolled + 1, 1 ≤ b → s.pollable ((s.sl.turn + 1) % 16) b = false) →
              exec .frameSelection o = .next ({ s with sl := { s.sl with
                pollDue := false, turn := (s.sl.turn + 1) % 16, pollTimer := some s.pollUs } }).closeEdge)))))

/-- FRAME_END and SPACING_END (R124, R125, R129, R134, R141, R143): a poll's frame opens the reply window of
SL_REPLY_CT character times, another frame leads to Spacing of one character time; the receiver resumes with the
sample of this edge; a Sending slot returns to Idle or to where its re-request stands; Spacing ends in Idle. That both
character times are those of the link's bit time in force is deduced (log 16); that a row ends its frame or Spacing at
any count, and does nothing outside its state, is the model's choice (log 1). Where a row stands among the rows of its
edge is the model's choice (log 29). -/
def Obligations.FramesAndSpacingEnd : Prop :=
  ∀ (s : State) (i : SlotId),
    (s.sl.link ≠ .sending → exec .frameEnd s = .next (s.arrive .linkEnd)) ∧
    (s.sl.link = .sending → ∃ t, exec .frameEnd s = .next t ∧
      t = { s.arrive .linkEnd with sl := { (s.arrive .linkEnd).sl with
        rx := { last := some s.lines.linkRx, char := none }
        frame := none, slots := t.sl.slots, link := t.sl.link, left := t.sl.left, reply := t.sl.reply } } ∧
      (s.sl.frame.map Frame.kind = some 9#4 →
        t.sl.link = .reply ∧ t.sl.left = max 2 (s.fieldOf .slReplyCt 0 5) * 11 * s.sl.bitTime ∧ t.sl.reply = []) ∧
      (s.sl.frame.map Frame.kind ≠ some 9#4 →
        t.sl.link = .spacing ∧ t.sl.left = 11 * s.sl.bitTime ∧ t.sl.reply = s.sl.reply) ∧
      ((s.slot i).state ≠ .sending → t.slot i = s.slot i) ∧
      ((s.slot i).state = .sending → t.slot i =
        { state := if (s.slot i).rerequest = false then .idle
            else if (s.slot i).anchorPassed then .due
            else if (s.slot i).openingPassed then .guarding else .armed
          again := (s.slot i).again, rerequest := false, openingPassed := false, anchorPassed := false
          waits := false })) ∧
    (s.sl.link ≠ .spacing → exec .spacingEnd s = .next (s.arrive .linkEnd)) ∧
    (s.sl.link = .spacing →
      exec .spacingEnd s = .next { s.arrive .linkEnd with
        sl := { (s.arrive .linkEnd).sl with link := .idle, left := 0 } })

/-- REPLY_TIMEOUT, SHORT_REPLY and a bad reply (R131, R134, R135): the transaction ends, the reason is kept, the miss
is charged to the polled station and moves its state; the loss of a station is an event. A discarded outcome charges
nothing and leaves the reason as it is, the model's choice (log 17). That the two rows tell when the reply window or
the time for the next character is over is the model's choice (log 13), and so is that they do nothing outside Reply
or while a character is under way (log 1); at an edge of the clock the count decides (R134). The length of the Spacing
is deduced (log 16). Where a row stands among the rows of its edge is the model's choice (log 29). -/
def Obligations.PollMissesAreCharged : Prop :=
  ∀ (o s u y : State) (c : Instr) (m : Nat) (h a b k : LineChar) (x z : Station), s = o.arrive .linkEnd →
    (s.sl.link ≠ .reply ∨ s.sl.rx.char ≠ none → exec .replyTimeout o = .next s ∧ exec .shortReply o = .next s) ∧
    (s.sl.link = .reply → s.sl.rx.char = none → s.sl.left = 0 →
      exec (if s.sl.reply = [] then .replyTimeout else .shortReply) o = .next s.replyExpiry) ∧
    (s.sl.link ≠ .reply ∨ s.sl.rx.char ≠ none ∨ s.sl.left ≠ 0 → s.replyExpiry = s) ∧
    (c = .replyTimeout ∧ s.sl.reply = [] ∧ m = 1 ∧ s.sl.rx.char = none ∧ u = s ∨
        c = .shortReply ∧ s.sl.reply ≠ [] ∧ m = 2 ∧ s.sl.rx.char = none ∧ u = s ∨
        (c = .statusReply k ∨ c = .replyCharacter k ∨ c = .unsolicitedCharacter k) ∧ s.sl.reply = [h, a, b] ∧
          replyFault s.sl.polled s.sl.pollSent h a b k = some m ∧
          u = { s with sl := { s.sl with rx := { last := some k.stop, char := none } } } →
      s.sl.link = .reply →
      (s.sl.discard = true → exec c o = .next u.pollOver) ∧
      (s.sl.discard = false → x = s.station (s.sl.polled - 1) → z = x.missed s.retry →
        y = { u with
          sl := { u.sl with missReason := m, stations := s.sl.stations.set (s.sl.polled - 1) z }
          counters := ((if m = 4 then s.bump .linkCollision else s).bump .misses).counters } →
        (z.state ≠ .absent ∨ x.state = .absent → exec c o = .next y.pollOver) ∧
        (z.state = .absent → x.state = .unknown → exec c o =
          .next ({ y with counters := (y.bump .unknownToAbsent).counters }).pollOver) ∧
        (z.state = .absent → x.state = .present ∨ x.state = .suspect →
          exec c o = .next (y.raiseFault .stationLost).pollOver)))

/-- STATUS_REPLY, REPLY_CHARACTER and UNSOLICITED_CHARACTER (R125, R131, R134 to R136): each names a character
completed on LINK_RX, the model's choice (log 13), and what it is follows from the link: while the part sends, nothing
(log 1); in Idle and Spacing, unsolicited; in Reply the next of the reply, which starts the time for the one after it,
and the fourth is judged. A good reply makes its station Present with the levels it reports. The length of the Spacing
after it is deduced (log 16). Where a row stands among the rows of its edge is the model's choice (log 29). -/
def Obligations.StatusRepliesAreJudged : Prop :=
  ∀ (o s u : State) (c : Instr) (h a b k : LineChar) (x : Station) (p : Nat) (sent : Byte),
    s = o.arrive (if o.sl.link = .reply then .linkEnd else .linkChar) →
    replyFault p sent h a b k =
      (if h.marker = false ∨ h.stop = false ∨ h.data.toNat / 16 ≠ 10 then some 3
        else if h.data.toNat % 16 ≠ p then some 4
        else if a.marker = true ∨ a.stop = false ∨ b.marker = true ∨ b.stop = false ∨ k.marker = true ∨
          k.stop = false then some 5
        else if (h.data.toNat + a.data.toNat + b.data.toNat + k.data.toNat) % 256 ≠ 0 then some 6
        else if b.data ≠ sent then some 7 else none) ∧
    (c = .statusReply k ∨ c = .replyCharacter k ∨ c = .unsolicitedCharacter k →
      u = { s with sl := { s.sl with rx := { last := some k.stop, char := none } } } →
      (s.sl.link = .sending → exec c o = .next s) ∧
      (s.sl.link = .idle ∨ s.sl.link = .spacing → exec c o = .next { u with
        counters := (s.bump .unsolicitedChars).counters, rc := { s.rc with flags := s.rc.flags ||| 0x2000#32 } }) ∧
      (s.sl.link = .reply → s.sl.reply.length < 3 → exec c o = .next { u with
        sl := { u.sl with reply := s.sl.reply ++ [k], left := 11 * s.sl.bitTime } }) ∧
      (s.sl.link = .reply → s.sl.reply = [h, a, b] → s.sl.discard = true → exec c o = .next u.pollOver) ∧
      (s.sl.link = .reply → s.sl.reply = [h, a, b] → s.sl.discard = false →
        replyFault s.sl.polled s.sl.pollSent h a b k = none → x = s.station (s.sl.polled - 1) →
        exec c o = .next ({ u with
          sl := { u.sl with
            stations := s.sl.stations.set (s.sl.polled - 1)
              { group := x.group, state := .present, misses := 0, busy := a.data.extractLsb' 6 2
                faults := a.data.extractLsb' 0 6, replies := x.replies + 1#8 } }
          counters := (s.bump .linkReplies).counters
          rc := { s.rc with
            flags := if x.state = StationState.absent then s.rc.flags ||| 0x20000#32 else s.rc.flags } }).pollOver))

/-- SLOT_GUARD_OPENING and SLOT_ANCHOR (R141, R142): what a slot does at its guard opening and at its anchor in each
of its states; at other indices nothing happens. Each row is its step alone, the model's choice (log 3); that a Due
slot which waits for a new anchor (R139) counts an overrun at it and waits no longer is the model's too (log 30).
Where a row stands among the rows of its edge is the model's choice (log 29). The slot pass of step 5 performs the two
rows for each slot in turn, in order of priority (R141). -/
def Obligations.SlotsFollowTheCycleIndex : Prop :=
  (∀ s : State, s.slotPass =
    [SlotId.cycleMark, .fullReset, .stationReset, .refA, .refB, .refC, .user].foldl
      (fun x i => (x.row (.slotGuardOpening i)).row (.slotAnchor i)) s) ∧
  ∀ (s : State) (i j : SlotId), s.tablesCanonical = true →
    (s.lp.cycleIndex ≠ s.slotOpening i → exec (.slotGuardOpening i) s = .next (s.arrive .step)) ∧
    (s.lp.cycleIndex ≠ s.slotAnchor i → exec (.slotAnchor i) s = .next (s.arrive .step)) ∧
    (s.lp.cycleIndex = s.slotOpening i →
      ((s.slot i).state = .armed ∨ (s.slot i).state = .idle ∧ i = .cycleMark ∧ s.linkEnabled = true →
        exec (.slotGuardOpening i) s =
          .next { s.arrive .step with sl := { (s.arrive .step).sl with slots := s.sl.slots.put i { s.slot i with
            state := .guarding } } }) ∧
      ((s.slot i).state = .sending → i = .cycleMark → s.linkEnabled = true → exec (.slotGuardOpening i) s =
        .next { s.arrive .step with sl := { (s.arrive .step).sl with
          slots := s.sl.slots.put i { s.slot i with rerequest := true, openingPassed := true } } }) ∧
      ((s.slot i).state = .guarding ∨ (s.slot i).state = .due ∨
          (s.slot i).state ≠ .armed ∧ (i ≠ .cycleMark ∨ s.linkEnabled = false) →
        exec (.slotGuardOpening i) s = .next (s.arrive .step))) ∧
    (s.lp.cycleIndex = s.slotAnchor i →
      ((s.slot i).state = .idle ∨ (s.slot i).state = .armed ∧ (s.slot i).again = false ∨
          (s.slot i).state = .sending ∧ (s.slot i).openingPassed = false →
            exec (.slotAnchor i) s = .next (s.arrive .step)) ∧
      ((s.slot i).state = .armed → (s.slot i).again = true →
        exec (.slotAnchor i) s = .next { s.arrive .step with counters := (s.bump .anchorOverrun).counters }) ∧
      ((s.slot i).state = .due → exec (.slotAnchor i) s = .next { s.arrive .step with
        counters := (s.bump .anchorOverrun).counters
        sl := { (s.arrive .step).sl with slots := s.sl.slots.put i { s.slot i with waits := false } } }) ∧
      ((s.slot i).state = .sending → (s.slot i).openingPassed = true →
        exec (.slotAnchor i) s = .next { s.arrive .step with
        counters := (s.bump .anchorOverrun).counters
        sl := { (s.arrive .step).sl with slots := s.sl.slots.put i { s.slot i with anchorPassed := true } } }) ∧
      ((s.slot i).state = .guarding → ((higherSlots i).any fun k =>
          (s.slot k).state == .guarding || (s.slot k).state == .due || (s.slot k).state == .sending) = true →
        exec (.slotAnchor i) s = .next { s.arrive .step with
          counters := (s.bump .yields).counters
          sl := { (s.arrive .step).sl with
            slots := s.sl.slots.put i { s.slot i with state := .armed, again := true, waits := false } } }) ∧
      ((s.slot i).state = .guarding → (∀ k ∈ higherSlots i,
          (s.slot k).state ≠ .guarding ∧ (s.slot k).state ≠ .due ∧ (s.slot k).state ≠ .sending) →
        ∃ t, exec (.slotAnchor i) s = .next t ∧
          t = { s.arrive .step with
            sl := { (s.arrive .step).sl with slots := t.sl.slots }, counters := t.counters
            rc := { s.rc with flags :=
              if s.sl.link = .sending ∨ s.sl.link = .reply then s.rc.flags ||| 0x2000#32 else s.rc.flags } } ∧
          t.slot i = { s.slot i with state := .due } ∧ (j ∈ higherSlots i → t.slot j = s.slot j) ∧
          (j ∈ lowerSlots i → t.slot j =
            if (s.slot j).state = .due then
              { s.slot j with state := .armed, again := true, waits := false } else s.slot j) ∧
          t.counter .lateStart = s.counter .lateStart +
            (if s.sl.link = .sending ∨ s.sl.link = .reply then 1#32 else 0#32) ∧
          t.counter .yields = s.counter .yields +
            BitVec.ofNat 32 ((lowerSlots i).countP fun k => (s.slot k).state == .due)))

/-! ### The resync sequences and the drain (chapters 11 and 12) -/

/-- FULL_RESYNC_START and STATION_RESYNC_START (R47, R157, R160, R161, R165): the sequence enters Quiescing, the
reference generators react, a Full Resync preempts an active Station Resync and flushes the open batch; outside its
conditions neither starts. Each row is its step alone, the model's choice (log 3). Where a row stands among the rows
of its edge is the model's choice (log 29). Step 5 of a position event sets the periodic Station Resync request (R159)
and then makes the two start tests, which are the rows, but that the flush of a Full Resync waits for step 8
(R157). -/
def Obligations.SequencesStart : Prop :=
  (∀ (s t : State) (full : Bool),
    (s.fieldOf .sqSrPeriod 0 16 ≠ 0 → s.lp.cycleIndex = s.seqStart .station →
      s.lp.cycleNumber.toNat % s.fieldOf .sqSrPeriod 0 16 = 0 →
      s.periodicResync = { s with sq := { s.sq with demandSr := true } }) ∧
    (s.fieldOf .sqSrPeriod 0 16 = 0 ∨ s.lp.cycleIndex ≠ s.seqStart .station ∨
      s.lp.cycleNumber.toNat % s.fieldOf .sqSrPeriod 0 16 ≠ 0 → s.periodicResync = s) ∧
    (full = (s.sq.demandFr && s.sq.fr.state == .idle && decide (s.lp.cycleIndex = s.seqStart .full) &&
        (s.rc.state == .halted || s.rc.state == .running)) →
      (full = false → s.seqStarts = s.row .stationResyncStart) ∧
      (full = true → t = s.seqStarts → t.flushRoute = s.row .fullResyncStart ∧ t.br = s.br ∧ t.rc = s.rc ∧
        t.sl.routeQ = s.sl.routeQ))) ∧
  ∀ (s : State) (g : RefGen), s.tablesCanonical = true →
    (s.sq.demandFr = false ∨ s.sq.fr.state ≠ .idle ∨ s.lp.cycleIndex ≠ s.seqStart .full ∨
      s.rc.state = .draining ∨ s.rc.state = .faulted → exec .fullResyncStart s = .next (s.arrive .step)) ∧
    (s.sq.demandSr = false ∨ s.sq.sr.state ≠ .idle ∨ s.sq.fr.state ≠ .idle ∨
      s.lp.cycleIndex ≠ s.seqStart .station ∨ s.rc.state = .draining ∨ s.rc.state = .faulted →
      exec .stationResyncStart s = .next (s.arrive .step)) ∧
    (s.sq.demandFr = true → s.sq.fr.state = .idle → s.lp.cycleIndex = s.seqStart .full →
      s.rc.state = .halted ∨ s.rc.state = .running → ∃ t, exec .fullResyncStart s = .next t ∧
      t = { s.arrive .step with
        sq := { s.sq with
          demandFr := false, fr := { state := .quiescing, count := 0 }
          sr := if s.sq.sr.state = .idle then s.sq.sr else { state := .idle, count := 0 } }
        cs := { s.cs with refA := t.cs.refA, refB := t.cs.refB, refC := t.cs.refC }
        sl := { (s.arrive .step).sl with slots := t.sl.slots, routeQ := t.sl.routeQ }
        br := t.br, counters := t.counters, rc := { s.rc with flags := t.rc.flags } } ∧
      t.br.openCount = 0 ∧ t.counter .frStarts = s.counter .frStarts + 1#32 ∧
      t.counter .srPreempted = s.counter .srPreempted + (if s.sq.sr.state = .idle then 0#32 else 1#32) ∧
      (s.sq.sr.state ≠ .idle → (s.slot .stationReset).state ≠ .sending →
        (t.slot .stationReset).state = .idle) ∧
      ((s.ref g).state = .pending → t.ref g = Reference.idle) ∧
      ((s.ref g).state = .requested → (s.slot (refSlot g)).state = .armed ∨ (s.slot (refSlot g)).state = .guarding →
        t.ref g = Reference.idle ∧ (t.slot (refSlot g)).state = .idle) ∧
      ((s.ref g).state = .requested → (s.slot (refSlot g)).state = .due →
        t.ref g = { s.ref g with cancelled := true } ∧ t.slot (refSlot g) = s.slot (refSlot g))) ∧
    (s.sq.demandSr = true → s.sq.sr.state = .idle → s.sq.fr.state = .idle →
      s.lp.cycleIndex = s.seqStart .station → s.rc.state = .halted ∨ s.rc.state = .running →
      ∃ t, exec .stationResyncStart s = .next t ∧
      t = { s.arrive .step with
        sq := { s.sq with demandSr := false, sr := { state := .quiescing, count := 0 } }
        cs := { s.cs with refA := t.cs.refA, refB := t.cs.refB, refC := t.cs.refC }
        sl := { (s.arrive .step).sl with slots := t.sl.slots }, counters := t.counters } ∧
      t.counter .srStarts = s.counter .srStarts + 1#32 ∧
      ((s.ref g).state = .pending → t.ref g = Reference.idle) ∧
      ((s.ref g).state = .requested → (s.slot (refSlot g)).state = .armed ∨ (s.slot (refSlot g)).state = .guarding →
        t.ref g = Reference.idle ∧ (t.slot (refSlot g)).state = .idle) ∧
      ((s.ref g).state = .requested → (s.slot (refSlot g)).state = .due →
        t.ref g = { s.ref g with cancelled := true } ∧ t.slot (refSlot g) = s.slot (refSlot g)))

/-- QUIESCE_END, RECOVER_END and RUN_DRAINED (R162 to R164, R169): a Quiescing sequence that is quiet, or whose wait
has run out, enters Signalling and requests its slot, whatever the slot's state; a Recovering one whose time is over
returns to Idle; a drained run ends in Halted. Otherwise nothing happens. That the counts of R162 and R164 are
compared with at least is deduced (log 14). Each row is its step alone, the model's choice (log 3). Where a row stands
among the rows of its edge is the model's choice (log 29). Step 5 of a position event moves a sequence's position
count on, up to 131071 (section 11.1), and then performs the rows for it. Section 11.1 counts since the entry into the
present state; that the count moves on in Idle too is deduced from it (log 27). SQ_STATUS and SQ_POSITIONS read the
states, the Station Resync count and the counts, which show at most 65535 (section 11.1). -/
def Obligations.SequencesAndDrainsEnd : Prop :=
  (∀ (s t : State) (i : SeqId), t.seq i = { s.seq i with count := min 131071 ((s.seq i).count + 1) } →
    (∀ j, j ≠ i → t.seq j = s.seq j) → t = { s with sq := { s.sq with sr := t.sq.sr, fr := t.sq.fr } } →
    s.seqWork i = (t.row (.quiesceEnd i)).row (.recoverEnd i)) ∧
  (∀ s : State, field (s.readRegister .sqStatus) 0 2 = s.sq.sr.state.code ∧
    field (s.readRegister .sqStatus) 2 2 = s.sq.fr.state.code ∧
    field (s.readRegister .sqStatus) 16 16 = s.sq.srCount.toNat ∧
    field (s.readRegister .sqPositions) 0 16 = min 65535 s.sq.sr.count ∧
    field (s.readRegister .sqPositions) 16 16 = min 65535 s.sq.fr.count) ∧
  ∀ (s : State) (i : SeqId) (quiet : Bool),
    quiet = (decide (s.seqQuiesce i ≤ (s.seq i).count) && match i with
      | .station => [Group.a, .b, .c, .d].all fun g => !inMask s.srGroups g || (s.model g).occ == 0
      | .full => s.sl.tagQ.isEmpty && s.sl.routeQ.isEmpty && [Group.a, .b, .c, .d].all fun g => (s.model g).occ == 0) →
    ((s.seq i).state ≠ .quiescing ∨ quiet = false ∧ (s.seq i).count < s.seqQuiesce i + s.seqExtra i →
      exec (.quiesceEnd i) s = .next (s.arrive .step)) ∧
    ((s.seq i).state = .quiescing → quiet = true ∨ s.seqQuiesce i + s.seqExtra i ≤ (s.seq i).count →
      ∃ t, exec (.quiesceEnd i) s = .next t ∧
      t = { s.arrive .step with
        sq := { s.sq with sr := t.sq.sr, fr := t.sq.fr }
        sl := { (s.arrive .step).sl with slots := t.sl.slots }
        counters := t.counters } ∧
      t.seq i = { state := .signalling, count := 0 } ∧ (∀ j, j ≠ i → t.seq j = s.seq j) ∧
      ((s.slot (seqSlot i)).state = .idle →
        t.sl.slots = s.sl.slots.put (seqSlot i) { s.slot (seqSlot i) with state := .armed } ∧
        t.counters = if quiet then s.counters else (s.bump .forcedResync).counters) ∧
      ((s.slot (seqSlot i)).state = .sending →
        t.sl.slots = s.sl.slots.put (seqSlot i) { s.slot (seqSlot i) with rerequest := true } ∧
        t.counters = if quiet then s.counters else (s.bump .forcedResync).counters) ∧
      ((s.slot (seqSlot i)).state ≠ .idle → (s.slot (seqSlot i)).state ≠ .sending → t.sl.slots = s.sl.slots ∧
        t.counters = ((if quiet then s else s.bump .forcedResync).bump .requestMerged).counters)) ∧
    ((s.seq i).state ≠ .recovering ∨ (s.seq i).count < s.seqRecover i →
      exec (.recoverEnd i) s = .next (s.arrive .step)) ∧
    ((s.seq i).state = .recovering → s.seqRecover i ≤ (s.seq i).count → ∃ t, exec (.recoverEnd i) s = .next t ∧
      t = { s.arrive .step with sq := { s.sq with sr := t.sq.sr, fr := t.sq.fr } } ∧
        t.seq i = { state := .idle, count := 0 } ∧
      ∀ j, j ≠ i → t.seq j = s.seq j) ∧
    (s.rc.state = .draining → s.lg.entries = [] → s.cs.ring = [] → s.cs.sensePending = false → s.sl.tagQ = [] →
      s.sl.routeQ = [] → exec .runDrained s = .next { s.arrive .step with
        rc := { s.rc with state := .halted, flags := s.rc.flags ||| 0x10000#32 } }) ∧
    (s.rc.state ≠ .draining ∨ s.lg.entries ≠ [] ∨ s.cs.ring ≠ [] ∨ s.cs.sensePending = true ∨ s.sl.tagQ ≠ [] ∨
      s.sl.routeQ ≠ [] → exec .runDrained s = .next (s.arrive .step))

/-! ### Rules of the whole machine -/

/-- What changes the measures that identify captures (R22, R65). Travel moves on by position events alone, and returns
to 0 by resets and by an accepted Start. Item IDs move on by admissions, at position events, and the numbering
restarts in a new epoch by frame starts and by resets; no other command touches either. A reset is PIN_RESET or a word
with DEVICE_RESET at RC_ACTION while the soft reset is armed (R176), an accepted Start a word at RC_COMMAND with START
alone (R167). At an edge of the clock (log 2) travel moves on exactly when a position waits and its time has come
(R21), and then alone may an item ID be used; the numbering restarts in the next epoch or the epoch stays. -/
def Obligations.TravelAndIdentityAreKept : Prop :=
  (∀ (s t : State) (c : Instr), exec c s = .next t →
    (t.lp.travel = s.lp.travel ∨ t.lp.travel = s.lp.travel + 1#32 ∧ (∃ p, c = .positionEvent p) ∨
      t.lp.travel = 0#32 ∧
        (c = .pinReset ∨ s.rc.resetArmed = true ∧ (actionWord c).any (bit · 4) = true ∨
          s.rc.state = .halted ∧ t.rc.state = .running ∧ (commandWord c).any (· &&& 0xF#32 == 1#32) = true)) ∧
    (t.ad.nextId = s.ad.nextId ∧ t.ad.epoch = s.ad.epoch ∨
      t.ad.nextId = s.ad.nextId + 1#24 ∧ t.ad.epoch = s.ad.epoch ∧ (∃ p, c = .positionEvent p) ∨
      t.ad.nextId = 0#24 ∧ t.ad.epoch = s.ad.epoch + 1#4 ∧ c = .frameSelection ∨
      t.ad.nextId = 0#24 ∧ t.ad.epoch = 0#4 ∧
        (c = .pinReset ∨ s.rc.resetArmed = true ∧ (actionWord c).any (bit · 4) = true))) ∧
  ∀ (s t : State) (taken : Bool), s.pending = [] → step s = .next t →
    taken = (decide (s.lp.acc ≠ 0) && decide (39 ≤ s.clk.sincePosition)) →
    t.lp.travel = (if taken then s.lp.travel + 1#32 else s.lp.travel) ∧
    (t.ad.epoch = s.ad.epoch ∧ (t.ad.nextId = s.ad.nextId ∨ taken = true ∧ t.ad.nextId = s.ad.nextId + 1#24) ∨
      t.ad.epoch = s.ad.epoch + 1#4 ∧ t.ad.nextId = 0#24 ∧ (s.sl.link = .idle ∨ s.sl.link = .spacing))

/-- Every step keeps the addressed memories in their canonical form and every list within its capacity (R14, R21, R37,
R73, R80, R90, R92, R119, R145, section 8.5). -/
def Obligations.StepsKeepTheCapacities : Prop :=
  ∀ s t : State, s.tablesCanonical = true → s.withinCapacity → step s = .next t →
    t.tablesCanonical = true ∧ t.withinCapacity

/-- Every step keeps these: the gate lines are never active together (R116), no Uncaptured entry expects a verdict
(R75), at most one slot is Due, with none of higher priority Due or Sending beside it (R142), only the Cycle Mark slot
is marked re-requested at its own guard opening (R141), only a Due slot waits for a new anchor (R139, log 30), and the
link's receiver is held idle while the part sends (R125). -/
def Obligations.StepsKeepTheExclusions : Prop :=
  ∀ s t : State, s.gatesExclusive → s.uncapturedReady → s.dueAlone → s.receiverHeld → step s = .next t →
    t.gatesExclusive ∧ t.uncapturedReady ∧ t.dueAlone ∧ t.receiverHeld

/-- What the steps keep holds after reset. -/
def Obligations.ResetMeetsTheInvariants : Prop :=
  State.reset.tablesCanonical = true ∧ State.reset.withinCapacity ∧ State.reset.gatesExclusive ∧
    State.reset.uncapturedReady ∧ State.reset.dueAlone ∧ State.reset.receiverHeld
end

