-- ==== Sys2Proof/Laws/State.lean ====
section
/-! SUPPORT. What the updates of State do to the fields they write: a member of a series read back after one of the
series was replaced, and the values that counters and events write. What they leave alone is in Laws/Frame1.lean. -/

namespace Sys2Proof.Machine

/-! ### Slots -/

@[simp] theorem Slots.put_put (t : Slots) (i : SlotId) (x y : Slot) : (t.put i x).put i y = t.put i y := by
  cases i <;> rfl

@[simp] theorem State.slot_setSlot_self (s : State) (i : SlotId) (x : Slot) : (s.setSlot i x).slot i = x := by
  cases i <;> rfl

theorem State.slot_setSlot_other (s : State) (i j : SlotId) (x : Slot) (h : j ≠ i) :
    (s.setSlot i x).slot j = s.slot j := by
  cases i <;> cases j <;> first | rfl | exact absurd rfl h

@[simp] theorem State.setSlot_slots (s : State) (i : SlotId) (x : Slot) :
    (s.setSlot i x).sl.slots = s.sl.slots.put i x := rfl

@[simp] theorem State.setSlot_link (s : State) (i : SlotId) (x : Slot) : (s.setSlot i x).sl.link = s.sl.link := rfl

@[simp] theorem State.setSlot_queues (s : State) (i : SlotId) (x : Slot) :
    (s.setSlot i x).sl.routeQ = s.sl.routeQ ∧ (s.setSlot i x).sl.tagQ = s.sl.tagQ ∧
      (s.setSlot i x).sl.noticeQ = s.sl.noticeQ ∧ (s.setSlot i x).sl.stations = s.sl.stations := ⟨rfl, rfl, rfl, rfl⟩

/-- Every slot is in the list of R139. -/
theorem mem_allSlots (i : SlotId) : i ∈ allSlots := by cases i <;> decide

/-- No slot is of higher priority than itself. -/
theorem not_mem_higherSlots (i : SlotId) : i ∉ higherSlots i := by cases i <;> decide

/-- A slot that is not of higher priority and is not the slot itself is of lower priority. -/
theorem mem_higher_or_lower (i j : SlotId) (h : j ≠ i) : j ∈ higherSlots i ∨ j ∈ lowerSlots i := by
  cases i <;> cases j <;> first | exact absurd rfl h | decide

/-- Of lower priority the one way is of higher priority the other. -/
theorem mem_lowerSlots_iff (i j : SlotId) : j ∈ lowerSlots i ↔ i ∈ higherSlots j := by
  cases i <;> cases j <;> decide

/-! ### Reference generators, models, fire lines, bursts, sequences, stations -/

@[simp] theorem State.ref_setRef_self (s : State) (g : RefGen) (x : Reference) : (s.setRef g x).ref g = x := by
  cases g <;> rfl

theorem State.ref_setRef_other (s : State) (g h : RefGen) (x : Reference) (n : h ≠ g) :
    (s.setRef g x).ref h = s.ref h := by
  cases g <;> cases h <;> first | rfl | exact absurd rfl n

@[simp] theorem State.ref_setRefRequest (s : State) (g h : RefGen) (b : Bool) :
    (s.setRefRequest g b).ref h = s.ref h := by
  cases g <;> cases h <;> rfl

@[simp] theorem State.refRequest_setRefRequest_self (s : State) (g : RefGen) (b : Bool) :
    (s.setRefRequest g b).refRequest g = b := by
  cases g <;> rfl

@[simp] theorem State.refRequest_setRef (s : State) (g h : RefGen) (x : Reference) :
    (s.setRef g x).refRequest h = s.refRequest h := by
  cases g <;> cases h <;> rfl

@[simp] theorem State.model_setModel_self (s : State) (g : Group) (x : Model) : (s.setModel g x).model g = x := by
  cases g <;> rfl

theorem State.model_setModel_other (s : State) (g h : Group) (x : Model) (n : h ≠ g) :
    (s.setModel g x).model h = s.model h := by
  cases g <;> cases h <;> first | rfl | exact absurd rfl n

@[simp] theorem State.fire_setModel (s : State) (g h : Group) (x : Model) : (s.setModel g x).fire h = s.fire h := by
  cases g <;> cases h <;> rfl

@[simp] theorem State.fire_setFire_self (s : State) (g : Group) (x : Option Nat) : (s.setFire g x).fire g = x := by
  cases g <;> rfl

theorem State.fire_setFire_other (s : State) (g h : Group) (x : Option Nat) (n : h ≠ g) :
    (s.setFire g x).fire h = s.fire h := by
  cases g <;> cases h <;> first | rfl | exact absurd rfl n

@[simp] theorem State.model_setFire (s : State) (g h : Group) (x : Option Nat) :
    (s.setFire g x).model h = s.model h := by
  cases g <;> cases h <;> rfl

@[simp] theorem State.burstLeft_setBurstLeft_self (s : State) (g : PerGen) (n : Nat) :
    (s.setBurstLeft g n).burstLeft g = n := by
  cases g <;> rfl

@[simp] theorem State.perRequest_setPerRequest_self (s : State) (g : PerGen) (b : Bool) :
    (s.setPerRequest g b).perRequest g = b := by
  cases g <;> rfl

@[simp] theorem State.seq_setSeq_self (s : State) (i : SeqId) (x : Sequence) : (s.setSeq i x).seq i = x := by
  cases i <;> rfl

theorem State.seq_setSeq_other (s : State) (i j : SeqId) (x : Sequence) (h : j ≠ i) :
    (s.setSeq i x).seq j = s.seq j := by
  cases i <;> cases j <;> first | rfl | exact absurd rfl h

@[simp] theorem State.setStation_length (s : State) (i : Nat) (x : Station) :
    (s.setStation i x).sl.stations.length = s.sl.stations.length := by
  simp [State.setStation]

/-! ### Counters, events, registers -/

@[simp] theorem State.bumpBy_counters (s : State) (c : Ctr) (n : Nat) :
    (s.bumpBy c n).counters = writeTable 0#32 s.counters c.offset (s.counter c + BitVec.ofNat 32 n) := rfl

@[simp] theorem State.bump_counters (s : State) (c : Ctr) :
    (s.bump c).counters = writeTable 0#32 s.counters c.offset (s.counter c + 1#32) := rfl

@[simp] theorem State.raise_rc (s : State) (e : Event) :
    (s.raise e).rc = { s.rc with flags := s.rc.flags ||| (1#32 <<< Event.num e) } := rfl

@[simp] theorem State.setReg_regs (s : State) (r : Reg) (v : Word) :
    (s.setReg r v).regs = writeTable r.info.reset s.regs r.info.addr v := rfl

/-- A register depends on nothing but the stored registers. -/
theorem State.reg_congr {s t : State} (h : t.regs = s.regs) (r : Reg) : t.reg r = s.reg r := by
  simp [State.reg, h]

/-- A counter depends on nothing but the live bank. -/
theorem State.counter_congr {s t : State} (h : t.counters = s.counters) (c : Ctr) : t.counter c = s.counter c := by
  simp [State.counter, h]

end Sys2Proof.Machine
end

