-- ==== Sys2Proof/Laws/Frame1.lean ====
section
/-! SUPPORT. What the operations over registers, counters, events, series, routing, faults and slots leave alone: one lemma for each, a conjunction over the fields of State. -/

namespace Sys2Proof.Machine

@[simp] theorem State.setReg_frame (s : State) (r : Reg) (v : Word) :
    (s.setReg r v).pending = s.pending ∧ (s.setReg r v).port = s.port ∧ (s.setReg r v).pattern = s.pattern ∧
    (s.setReg r v).route = s.route ∧ (s.setReg r v).lp = s.lp ∧ (s.setReg r v).clk = s.clk ∧
    (s.setReg r v).cs = s.cs ∧ (s.setReg r v).candidates = s.candidates ∧ (s.setReg r v).ad = s.ad ∧
    (s.setReg r v).lg = s.lg ∧ (s.setReg r v).vc = s.vc ∧ (s.setReg r v).gd = s.gd ∧ (s.setReg r v).sl = s.sl ∧
    (s.setReg r v).br = s.br ∧ (s.setReg r v).sq = s.sq ∧ (s.setReg r v).rc = s.rc ∧
    (s.setReg r v).counters = s.counters ∧ (s.setReg r v).shadows = s.shadows ∧
    (s.setReg r v).snapTravel = s.snapTravel ∧ (s.setReg r v).snapCount = s.snapCount ∧
    (s.setReg r v).pins = s.pins ∧ (s.setReg r v).lines = s.lines ∧ (s.setReg r v).sampled = s.sampled ∧
    (s.setReg r v).inputs = s.inputs ∧ (s.setReg r v).freeCount = s.freeCount := by
  refine ⟨rfl, rfl, rfl, rfl, rfl, rfl, rfl, rfl, rfl, rfl, rfl, rfl, rfl, rfl, rfl, rfl, rfl, rfl, rfl, rfl, rfl, rfl, rfl, rfl, rfl⟩

@[simp] theorem State.bumpBy_frame (s : State) (c : Ctr) (n : Nat) :
    (s.bumpBy c n).pending = s.pending ∧ (s.bumpBy c n).port = s.port ∧ (s.bumpBy c n).regs = s.regs ∧
    (s.bumpBy c n).pattern = s.pattern ∧ (s.bumpBy c n).route = s.route ∧ (s.bumpBy c n).lp = s.lp ∧
    (s.bumpBy c n).clk = s.clk ∧ (s.bumpBy c n).cs = s.cs ∧ (s.bumpBy c n).candidates = s.candidates ∧
    (s.bumpBy c n).ad = s.ad ∧ (s.bumpBy c n).lg = s.lg ∧ (s.bumpBy c n).vc = s.vc ∧ (s.bumpBy c n).gd = s.gd ∧
    (s.bumpBy c n).sl = s.sl ∧ (s.bumpBy c n).br = s.br ∧ (s.bumpBy c n).sq = s.sq ∧ (s.bumpBy c n).rc = s.rc ∧
    (s.bumpBy c n).shadows = s.shadows ∧ (s.bumpBy c n).snapTravel = s.snapTravel ∧
    (s.bumpBy c n).snapCount = s.snapCount ∧ (s.bumpBy c n).pins = s.pins ∧ (s.bumpBy c n).lines = s.lines ∧
    (s.bumpBy c n).sampled = s.sampled ∧ (s.bumpBy c n).inputs = s.inputs ∧ (s.bumpBy c n).freeCount = s.freeCount := by
  refine ⟨rfl, rfl, rfl, rfl, rfl, rfl, rfl, rfl, rfl, rfl, rfl, rfl, rfl, rfl, rfl, rfl, rfl, rfl, rfl, rfl, rfl, rfl, rfl, rfl, rfl⟩

@[simp] theorem State.bump_frame (s : State) (c : Ctr) :
    (s.bump c).pending = s.pending ∧ (s.bump c).port = s.port ∧ (s.bump c).regs = s.regs ∧
    (s.bump c).pattern = s.pattern ∧ (s.bump c).route = s.route ∧ (s.bump c).lp = s.lp ∧ (s.bump c).clk = s.clk ∧
    (s.bump c).cs = s.cs ∧ (s.bump c).candidates = s.candidates ∧ (s.bump c).ad = s.ad ∧ (s.bump c).lg = s.lg ∧
    (s.bump c).vc = s.vc ∧ (s.bump c).gd = s.gd ∧ (s.bump c).sl = s.sl ∧ (s.bump c).br = s.br ∧
    (s.bump c).sq = s.sq ∧ (s.bump c).rc = s.rc ∧ (s.bump c).shadows = s.shadows ∧
    (s.bump c).snapTravel = s.snapTravel ∧ (s.bump c).snapCount = s.snapCount ∧ (s.bump c).pins = s.pins ∧
    (s.bump c).lines = s.lines ∧ (s.bump c).sampled = s.sampled ∧ (s.bump c).inputs = s.inputs ∧
    (s.bump c).freeCount = s.freeCount := by
  refine ⟨rfl, rfl, rfl, rfl, rfl, rfl, rfl, rfl, rfl, rfl, rfl, rfl, rfl, rfl, rfl, rfl, rfl, rfl, rfl, rfl, rfl, rfl, rfl, rfl, rfl⟩

@[simp] theorem State.raise_frame (s : State) (e : Event) :
    (s.raise e).pending = s.pending ∧ (s.raise e).port = s.port ∧ (s.raise e).regs = s.regs ∧
    (s.raise e).pattern = s.pattern ∧ (s.raise e).route = s.route ∧ (s.raise e).lp = s.lp ∧
    (s.raise e).clk = s.clk ∧ (s.raise e).cs = s.cs ∧ (s.raise e).candidates = s.candidates ∧
    (s.raise e).ad = s.ad ∧ (s.raise e).lg = s.lg ∧ (s.raise e).vc = s.vc ∧ (s.raise e).gd = s.gd ∧
    (s.raise e).sl = s.sl ∧ (s.raise e).br = s.br ∧ (s.raise e).sq = s.sq ∧ (s.raise e).counters = s.counters ∧
    (s.raise e).shadows = s.shadows ∧ (s.raise e).snapTravel = s.snapTravel ∧ (s.raise e).snapCount = s.snapCount ∧
    (s.raise e).pins = s.pins ∧ (s.raise e).lines = s.lines ∧ (s.raise e).sampled = s.sampled ∧
    (s.raise e).inputs = s.inputs ∧ (s.raise e).freeCount = s.freeCount := by
  refine ⟨rfl, rfl, rfl, rfl, rfl, rfl, rfl, rfl, rfl, rfl, rfl, rfl, rfl, rfl, rfl, rfl, rfl, rfl, rfl, rfl, rfl, rfl, rfl, rfl, rfl⟩

@[simp] theorem State.setRef_frame (s : State) (g : RefGen) (x : Reference) :
    (s.setRef g x).pending = s.pending ∧ (s.setRef g x).port = s.port ∧ (s.setRef g x).regs = s.regs ∧
    (s.setRef g x).pattern = s.pattern ∧ (s.setRef g x).route = s.route ∧ (s.setRef g x).lp = s.lp ∧
    (s.setRef g x).clk = s.clk ∧ (s.setRef g x).candidates = s.candidates ∧ (s.setRef g x).ad = s.ad ∧
    (s.setRef g x).lg = s.lg ∧ (s.setRef g x).vc = s.vc ∧ (s.setRef g x).gd = s.gd ∧ (s.setRef g x).sl = s.sl ∧
    (s.setRef g x).br = s.br ∧ (s.setRef g x).sq = s.sq ∧ (s.setRef g x).rc = s.rc ∧
    (s.setRef g x).counters = s.counters ∧ (s.setRef g x).shadows = s.shadows ∧
    (s.setRef g x).snapTravel = s.snapTravel ∧ (s.setRef g x).snapCount = s.snapCount ∧
    (s.setRef g x).pins = s.pins ∧ (s.setRef g x).lines = s.lines ∧ (s.setRef g x).sampled = s.sampled ∧
    (s.setRef g x).inputs = s.inputs ∧ (s.setRef g x).freeCount = s.freeCount := by
  cases g <;> simp [State.setRef]

@[simp] theorem State.setRefRequest_frame (s : State) (g : RefGen) (b : Bool) :
    (s.setRefRequest g b).pending = s.pending ∧ (s.setRefRequest g b).port = s.port ∧
    (s.setRefRequest g b).regs = s.regs ∧ (s.setRefRequest g b).pattern = s.pattern ∧
    (s.setRefRequest g b).route = s.route ∧ (s.setRefRequest g b).lp = s.lp ∧ (s.setRefRequest g b).clk = s.clk ∧
    (s.setRefRequest g b).candidates = s.candidates ∧ (s.setRefRequest g b).ad = s.ad ∧
    (s.setRefRequest g b).lg = s.lg ∧ (s.setRefRequest g b).vc = s.vc ∧ (s.setRefRequest g b).gd = s.gd ∧
    (s.setRefRequest g b).sl = s.sl ∧ (s.setRefRequest g b).br = s.br ∧ (s.setRefRequest g b).sq = s.sq ∧
    (s.setRefRequest g b).rc = s.rc ∧ (s.setRefRequest g b).counters = s.counters ∧
    (s.setRefRequest g b).shadows = s.shadows ∧ (s.setRefRequest g b).snapTravel = s.snapTravel ∧
    (s.setRefRequest g b).snapCount = s.snapCount ∧ (s.setRefRequest g b).pins = s.pins ∧
    (s.setRefRequest g b).lines = s.lines ∧ (s.setRefRequest g b).sampled = s.sampled ∧
    (s.setRefRequest g b).inputs = s.inputs ∧ (s.setRefRequest g b).freeCount = s.freeCount := by
  cases g <;> simp [State.setRefRequest]

@[simp] theorem State.setBurstLeft_frame (s : State) (g : PerGen) (n : Nat) :
    (s.setBurstLeft g n).pending = s.pending ∧ (s.setBurstLeft g n).port = s.port ∧
    (s.setBurstLeft g n).regs = s.regs ∧ (s.setBurstLeft g n).pattern = s.pattern ∧
    (s.setBurstLeft g n).route = s.route ∧ (s.setBurstLeft g n).lp = s.lp ∧ (s.setBurstLeft g n).clk = s.clk ∧
    (s.setBurstLeft g n).candidates = s.candidates ∧ (s.setBurstLeft g n).ad = s.ad ∧
    (s.setBurstLeft g n).lg = s.lg ∧ (s.setBurstLeft g n).vc = s.vc ∧ (s.setBurstLeft g n).gd = s.gd ∧
    (s.setBurstLeft g n).sl = s.sl ∧ (s.setBurstLeft g n).br = s.br ∧ (s.setBurstLeft g n).sq = s.sq ∧
    (s.setBurstLeft g n).rc = s.rc ∧ (s.setBurstLeft g n).counters = s.counters ∧
    (s.setBurstLeft g n).shadows = s.shadows ∧ (s.setBurstLeft g n).snapTravel = s.snapTravel ∧
    (s.setBurstLeft g n).snapCount = s.snapCount ∧ (s.setBurstLeft g n).pins = s.pins ∧
    (s.setBurstLeft g n).lines = s.lines ∧ (s.setBurstLeft g n).sampled = s.sampled ∧
    (s.setBurstLeft g n).inputs = s.inputs ∧ (s.setBurstLeft g n).freeCount = s.freeCount := by
  cases g <;> simp [State.setBurstLeft]

@[simp] theorem State.setPerRequest_frame (s : State) (g : PerGen) (b : Bool) :
    (s.setPerRequest g b).pending = s.pending ∧ (s.setPerRequest g b).port = s.port ∧
    (s.setPerRequest g b).regs = s.regs ∧ (s.setPerRequest g b).pattern = s.pattern ∧
    (s.setPerRequest g b).route = s.route ∧ (s.setPerRequest g b).lp = s.lp ∧ (s.setPerRequest g b).clk = s.clk ∧
    (s.setPerRequest g b).candidates = s.candidates ∧ (s.setPerRequest g b).ad = s.ad ∧
    (s.setPerRequest g b).lg = s.lg ∧ (s.setPerRequest g b).vc = s.vc ∧ (s.setPerRequest g b).gd = s.gd ∧
    (s.setPerRequest g b).sl = s.sl ∧ (s.setPerRequest g b).br = s.br ∧ (s.setPerRequest g b).sq = s.sq ∧
    (s.setPerRequest g b).rc = s.rc ∧ (s.setPerRequest g b).counters = s.counters ∧
    (s.setPerRequest g b).shadows = s.shadows ∧ (s.setPerRequest g b).snapTravel = s.snapTravel ∧
    (s.setPerRequest g b).snapCount = s.snapCount ∧ (s.setPerRequest g b).pins = s.pins ∧
    (s.setPerRequest g b).lines = s.lines ∧ (s.setPerRequest g b).sampled = s.sampled ∧
    (s.setPerRequest g b).inputs = s.inputs ∧ (s.setPerRequest g b).freeCount = s.freeCount := by
  cases g <;> simp [State.setPerRequest]

@[simp] theorem State.setModel_frame (s : State) (g : Group) (x : Model) :
    (s.setModel g x).pending = s.pending ∧ (s.setModel g x).port = s.port ∧ (s.setModel g x).regs = s.regs ∧
    (s.setModel g x).pattern = s.pattern ∧ (s.setModel g x).route = s.route ∧ (s.setModel g x).lp = s.lp ∧
    (s.setModel g x).clk = s.clk ∧ (s.setModel g x).cs = s.cs ∧ (s.setModel g x).candidates = s.candidates ∧
    (s.setModel g x).lg = s.lg ∧ (s.setModel g x).vc = s.vc ∧ (s.setModel g x).gd = s.gd ∧
    (s.setModel g x).sl = s.sl ∧ (s.setModel g x).br = s.br ∧ (s.setModel g x).sq = s.sq ∧
    (s.setModel g x).rc = s.rc ∧ (s.setModel g x).counters = s.counters ∧ (s.setModel g x).shadows = s.shadows ∧
    (s.setModel g x).snapTravel = s.snapTravel ∧ (s.setModel g x).snapCount = s.snapCount ∧
    (s.setModel g x).pins = s.pins ∧ (s.setModel g x).lines = s.lines ∧ (s.setModel g x).sampled = s.sampled ∧
    (s.setModel g x).inputs = s.inputs ∧ (s.setModel g x).freeCount = s.freeCount := by
  cases g <;> simp [State.setModel]

@[simp] theorem State.setFire_frame (s : State) (g : Group) (x : Option Nat) :
    (s.setFire g x).pending = s.pending ∧ (s.setFire g x).port = s.port ∧ (s.setFire g x).regs = s.regs ∧
    (s.setFire g x).pattern = s.pattern ∧ (s.setFire g x).route = s.route ∧ (s.setFire g x).lp = s.lp ∧
    (s.setFire g x).clk = s.clk ∧ (s.setFire g x).cs = s.cs ∧ (s.setFire g x).candidates = s.candidates ∧
    (s.setFire g x).lg = s.lg ∧ (s.setFire g x).vc = s.vc ∧ (s.setFire g x).gd = s.gd ∧ (s.setFire g x).sl = s.sl ∧
    (s.setFire g x).br = s.br ∧ (s.setFire g x).sq = s.sq ∧ (s.setFire g x).rc = s.rc ∧
    (s.setFire g x).counters = s.counters ∧ (s.setFire g x).shadows = s.shadows ∧
    (s.setFire g x).snapTravel = s.snapTravel ∧ (s.setFire g x).snapCount = s.snapCount ∧
    (s.setFire g x).pins = s.pins ∧ (s.setFire g x).lines = s.lines ∧ (s.setFire g x).sampled = s.sampled ∧
    (s.setFire g x).inputs = s.inputs ∧ (s.setFire g x).freeCount = s.freeCount := by
  cases g <;> simp [State.setFire]

@[simp] theorem State.setSlot_frame (s : State) (i : SlotId) (x : Slot) :
    (s.setSlot i x).pending = s.pending ∧ (s.setSlot i x).port = s.port ∧ (s.setSlot i x).regs = s.regs ∧
    (s.setSlot i x).pattern = s.pattern ∧ (s.setSlot i x).route = s.route ∧ (s.setSlot i x).lp = s.lp ∧
    (s.setSlot i x).clk = s.clk ∧ (s.setSlot i x).cs = s.cs ∧ (s.setSlot i x).candidates = s.candidates ∧
    (s.setSlot i x).ad = s.ad ∧ (s.setSlot i x).lg = s.lg ∧ (s.setSlot i x).vc = s.vc ∧ (s.setSlot i x).gd = s.gd ∧
    (s.setSlot i x).br = s.br ∧ (s.setSlot i x).sq = s.sq ∧ (s.setSlot i x).rc = s.rc ∧
    (s.setSlot i x).counters = s.counters ∧ (s.setSlot i x).shadows = s.shadows ∧
    (s.setSlot i x).snapTravel = s.snapTravel ∧ (s.setSlot i x).snapCount = s.snapCount ∧
    (s.setSlot i x).pins = s.pins ∧ (s.setSlot i x).lines = s.lines ∧ (s.setSlot i x).sampled = s.sampled ∧
    (s.setSlot i x).inputs = s.inputs ∧ (s.setSlot i x).freeCount = s.freeCount := by
  refine ⟨rfl, rfl, rfl, rfl, rfl, rfl, rfl, rfl, rfl, rfl, rfl, rfl, rfl, rfl, rfl, rfl, rfl, rfl, rfl, rfl, rfl, rfl, rfl, rfl, rfl⟩

@[simp] theorem State.setStation_frame (s : State) (i : Nat) (x : Station) :
    (s.setStation i x).pending = s.pending ∧ (s.setStation i x).port = s.port ∧ (s.setStation i x).regs = s.regs ∧
    (s.setStation i x).pattern = s.pattern ∧ (s.setStation i x).route = s.route ∧ (s.setStation i x).lp = s.lp ∧
    (s.setStation i x).clk = s.clk ∧ (s.setStation i x).cs = s.cs ∧ (s.setStation i x).candidates = s.candidates ∧
    (s.setStation i x).ad = s.ad ∧ (s.setStation i x).lg = s.lg ∧ (s.setStation i x).vc = s.vc ∧
    (s.setStation i x).gd = s.gd ∧ (s.setStation i x).br = s.br ∧ (s.setStation i x).sq = s.sq ∧
    (s.setStation i x).rc = s.rc ∧ (s.setStation i x).counters = s.counters ∧
    (s.setStation i x).shadows = s.shadows ∧ (s.setStation i x).snapTravel = s.snapTravel ∧
    (s.setStation i x).snapCount = s.snapCount ∧ (s.setStation i x).pins = s.pins ∧
    (s.setStation i x).lines = s.lines ∧ (s.setStation i x).sampled = s.sampled ∧
    (s.setStation i x).inputs = s.inputs ∧ (s.setStation i x).freeCount = s.freeCount := by
  refine ⟨rfl, rfl, rfl, rfl, rfl, rfl, rfl, rfl, rfl, rfl, rfl, rfl, rfl, rfl, rfl, rfl, rfl, rfl, rfl, rfl, rfl, rfl, rfl, rfl, rfl⟩

@[simp] theorem State.setSeq_frame (s : State) (i : SeqId) (x : Sequence) :
    (s.setSeq i x).pending = s.pending ∧ (s.setSeq i x).port = s.port ∧ (s.setSeq i x).regs = s.regs ∧
    (s.setSeq i x).pattern = s.pattern ∧ (s.setSeq i x).route = s.route ∧ (s.setSeq i x).lp = s.lp ∧
    (s.setSeq i x).clk = s.clk ∧ (s.setSeq i x).cs = s.cs ∧ (s.setSeq i x).candidates = s.candidates ∧
    (s.setSeq i x).ad = s.ad ∧ (s.setSeq i x).lg = s.lg ∧ (s.setSeq i x).vc = s.vc ∧ (s.setSeq i x).gd = s.gd ∧
    (s.setSeq i x).sl = s.sl ∧ (s.setSeq i x).br = s.br ∧ (s.setSeq i x).rc = s.rc ∧
    (s.setSeq i x).counters = s.counters ∧ (s.setSeq i x).shadows = s.shadows ∧
    (s.setSeq i x).snapTravel = s.snapTravel ∧ (s.setSeq i x).snapCount = s.snapCount ∧
    (s.setSeq i x).pins = s.pins ∧ (s.setSeq i x).lines = s.lines ∧ (s.setSeq i x).sampled = s.sampled ∧
    (s.setSeq i x).inputs = s.inputs ∧ (s.setSeq i x).freeCount = s.freeCount := by
  cases i <;> simp [State.setSeq]

@[simp] theorem State.pushRoute_frame (s : State) (m : List Byte) :
    (s.pushRoute m).pending = s.pending ∧ (s.pushRoute m).port = s.port ∧ (s.pushRoute m).regs = s.regs ∧
    (s.pushRoute m).pattern = s.pattern ∧ (s.pushRoute m).route = s.route ∧ (s.pushRoute m).lp = s.lp ∧
    (s.pushRoute m).clk = s.clk ∧ (s.pushRoute m).cs = s.cs ∧ (s.pushRoute m).candidates = s.candidates ∧
    (s.pushRoute m).ad = s.ad ∧ (s.pushRoute m).lg = s.lg ∧ (s.pushRoute m).vc = s.vc ∧ (s.pushRoute m).gd = s.gd ∧
    (s.pushRoute m).br = s.br ∧ (s.pushRoute m).sq = s.sq ∧ (s.pushRoute m).shadows = s.shadows ∧
    (s.pushRoute m).snapTravel = s.snapTravel ∧ (s.pushRoute m).snapCount = s.snapCount ∧
    (s.pushRoute m).pins = s.pins ∧ (s.pushRoute m).lines = s.lines ∧ (s.pushRoute m).sampled = s.sampled ∧
    (s.pushRoute m).inputs = s.inputs ∧ (s.pushRoute m).freeCount = s.freeCount := by
  unfold State.pushRoute
  dsimp only
  (repeat' split) <;> simp

@[simp] theorem State.useRoute_frame (s : State) :
    (s.useRoute).pending = s.pending ∧ (s.useRoute).port = s.port ∧ (s.useRoute).regs = s.regs ∧
    (s.useRoute).pattern = s.pattern ∧ (s.useRoute).route = s.route ∧ (s.useRoute).lp = s.lp ∧
    (s.useRoute).clk = s.clk ∧ (s.useRoute).cs = s.cs ∧ (s.useRoute).candidates = s.candidates ∧
    (s.useRoute).ad = s.ad ∧ (s.useRoute).lg = s.lg ∧ (s.useRoute).vc = s.vc ∧ (s.useRoute).gd = s.gd ∧
    (s.useRoute).sl = s.sl ∧ (s.useRoute).sq = s.sq ∧ (s.useRoute).rc = s.rc ∧ (s.useRoute).counters = s.counters ∧
    (s.useRoute).shadows = s.shadows ∧ (s.useRoute).snapTravel = s.snapTravel ∧
    (s.useRoute).snapCount = s.snapCount ∧ (s.useRoute).pins = s.pins ∧ (s.useRoute).lines = s.lines ∧
    (s.useRoute).sampled = s.sampled ∧ (s.useRoute).inputs = s.inputs ∧ (s.useRoute).freeCount = s.freeCount := by
  unfold State.useRoute
  dsimp only
  (repeat' split) <;> simp

@[simp] theorem State.closeBatch_frame (s : State) (flush : Bool) (count : Nat) :
    (s.closeBatch flush count).pending = s.pending ∧ (s.closeBatch flush count).port = s.port ∧
    (s.closeBatch flush count).regs = s.regs ∧ (s.closeBatch flush count).pattern = s.pattern ∧
    (s.closeBatch flush count).route = s.route ∧ (s.closeBatch flush count).lp = s.lp ∧
    (s.closeBatch flush count).clk = s.clk ∧ (s.closeBatch flush count).cs = s.cs ∧
    (s.closeBatch flush count).candidates = s.candidates ∧ (s.closeBatch flush count).ad = s.ad ∧
    (s.closeBatch flush count).lg = s.lg ∧ (s.closeBatch flush count).vc = s.vc ∧
    (s.closeBatch flush count).gd = s.gd ∧ (s.closeBatch flush count).sq = s.sq ∧
    (s.closeBatch flush count).shadows = s.shadows ∧ (s.closeBatch flush count).snapTravel = s.snapTravel ∧
    (s.closeBatch flush count).snapCount = s.snapCount ∧ (s.closeBatch flush count).pins = s.pins ∧
    (s.closeBatch flush count).lines = s.lines ∧ (s.closeBatch flush count).sampled = s.sampled ∧
    (s.closeBatch flush count).inputs = s.inputs ∧ (s.closeBatch flush count).freeCount = s.freeCount := by
  unfold State.closeBatch
  dsimp only
  (repeat' split) <;> simp

@[simp] theorem State.flushRoute_frame (s : State) :
    (s.flushRoute).pending = s.pending ∧ (s.flushRoute).port = s.port ∧ (s.flushRoute).regs = s.regs ∧
    (s.flushRoute).pattern = s.pattern ∧ (s.flushRoute).route = s.route ∧ (s.flushRoute).lp = s.lp ∧
    (s.flushRoute).clk = s.clk ∧ (s.flushRoute).cs = s.cs ∧ (s.flushRoute).candidates = s.candidates ∧
    (s.flushRoute).ad = s.ad ∧ (s.flushRoute).lg = s.lg ∧ (s.flushRoute).vc = s.vc ∧ (s.flushRoute).gd = s.gd ∧
    (s.flushRoute).sq = s.sq ∧ (s.flushRoute).shadows = s.shadows ∧ (s.flushRoute).snapTravel = s.snapTravel ∧
    (s.flushRoute).snapCount = s.snapCount ∧ (s.flushRoute).pins = s.pins ∧ (s.flushRoute).lines = s.lines ∧
    (s.flushRoute).sampled = s.sampled ∧ (s.flushRoute).inputs = s.inputs ∧ (s.flushRoute).freeCount = s.freeCount := by
  unfold State.flushRoute
  (repeat' split) <;> simp

@[simp] theorem State.countIntoBatch_frame (s : State) (epoch : BitVec 4) :
    (s.countIntoBatch epoch).pending = s.pending ∧ (s.countIntoBatch epoch).port = s.port ∧
    (s.countIntoBatch epoch).regs = s.regs ∧ (s.countIntoBatch epoch).pattern = s.pattern ∧
    (s.countIntoBatch epoch).route = s.route ∧ (s.countIntoBatch epoch).lp = s.lp ∧
    (s.countIntoBatch epoch).clk = s.clk ∧ (s.countIntoBatch epoch).cs = s.cs ∧
    (s.countIntoBatch epoch).candidates = s.candidates ∧ (s.countIntoBatch epoch).ad = s.ad ∧
    (s.countIntoBatch epoch).lg = s.lg ∧ (s.countIntoBatch epoch).vc = s.vc ∧ (s.countIntoBatch epoch).gd = s.gd ∧
    (s.countIntoBatch epoch).sq = s.sq ∧ (s.countIntoBatch epoch).shadows = s.shadows ∧
    (s.countIntoBatch epoch).snapTravel = s.snapTravel ∧ (s.countIntoBatch epoch).snapCount = s.snapCount ∧
    (s.countIntoBatch epoch).pins = s.pins ∧ (s.countIntoBatch epoch).lines = s.lines ∧
    (s.countIntoBatch epoch).sampled = s.sampled ∧ (s.countIntoBatch epoch).inputs = s.inputs ∧
    (s.countIntoBatch epoch).freeCount = s.freeCount := by
  unfold State.countIntoBatch
  dsimp only
  (repeat' split) <;> simp

@[simp] theorem State.resetRouting_frame (s : State) :
    (s.resetRouting).pending = s.pending ∧ (s.resetRouting).port = s.port ∧ (s.resetRouting).regs = s.regs ∧
    (s.resetRouting).pattern = s.pattern ∧ (s.resetRouting).route = s.route ∧ (s.resetRouting).lp = s.lp ∧
    (s.resetRouting).clk = s.clk ∧ (s.resetRouting).cs = s.cs ∧ (s.resetRouting).candidates = s.candidates ∧
    (s.resetRouting).ad = s.ad ∧ (s.resetRouting).lg = s.lg ∧ (s.resetRouting).vc = s.vc ∧
    (s.resetRouting).gd = s.gd ∧ (s.resetRouting).sl = s.sl ∧ (s.resetRouting).sq = s.sq ∧
    (s.resetRouting).rc = s.rc ∧ (s.resetRouting).counters = s.counters ∧ (s.resetRouting).shadows = s.shadows ∧
    (s.resetRouting).snapTravel = s.snapTravel ∧ (s.resetRouting).snapCount = s.snapCount ∧
    (s.resetRouting).pins = s.pins ∧ (s.resetRouting).lines = s.lines ∧ (s.resetRouting).sampled = s.sampled ∧
    (s.resetRouting).inputs = s.inputs ∧ (s.resetRouting).freeCount = s.freeCount := by
  refine ⟨rfl, rfl, rfl, rfl, rfl, rfl, rfl, rfl, rfl, rfl, rfl, rfl, rfl, rfl, rfl, rfl, rfl, rfl, rfl, rfl, rfl, rfl, rfl, rfl, rfl⟩

@[simp] theorem State.enterFault_frame (s : State) (first : Event) (all : List Event) :
    (s.enterFault first all).pending = s.pending ∧ (s.enterFault first all).port = s.port ∧
    (s.enterFault first all).regs = s.regs ∧ (s.enterFault first all).pattern = s.pattern ∧
    (s.enterFault first all).route = s.route ∧ (s.enterFault first all).lp = s.lp ∧
    (s.enterFault first all).clk = s.clk ∧ (s.enterFault first all).cs = s.cs ∧
    (s.enterFault first all).candidates = s.candidates ∧ (s.enterFault first all).ad = s.ad ∧
    (s.enterFault first all).lg = s.lg ∧ (s.enterFault first all).vc = s.vc ∧ (s.enterFault first all).gd = s.gd ∧
    (s.enterFault first all).sq = s.sq ∧ (s.enterFault first all).shadows = s.shadows ∧
    (s.enterFault first all).snapTravel = s.snapTravel ∧ (s.enterFault first all).snapCount = s.snapCount ∧
    (s.enterFault first all).pins = s.pins ∧ (s.enterFault first all).lines = s.lines ∧
    (s.enterFault first all).sampled = s.sampled ∧ (s.enterFault first all).inputs = s.inputs ∧
    (s.enterFault first all).freeCount = s.freeCount := by
  unfold State.enterFault
  dsimp only
  simp

@[simp] theorem State.addCause_frame (s : State) (e : Event) :
    (s.addCause e).pending = s.pending ∧ (s.addCause e).port = s.port ∧ (s.addCause e).regs = s.regs ∧
    (s.addCause e).pattern = s.pattern ∧ (s.addCause e).route = s.route ∧ (s.addCause e).lp = s.lp ∧
    (s.addCause e).clk = s.clk ∧ (s.addCause e).cs = s.cs ∧ (s.addCause e).candidates = s.candidates ∧
    (s.addCause e).ad = s.ad ∧ (s.addCause e).lg = s.lg ∧ (s.addCause e).vc = s.vc ∧ (s.addCause e).gd = s.gd ∧
    (s.addCause e).sl = s.sl ∧ (s.addCause e).br = s.br ∧ (s.addCause e).sq = s.sq ∧
    (s.addCause e).counters = s.counters ∧ (s.addCause e).shadows = s.shadows ∧
    (s.addCause e).snapTravel = s.snapTravel ∧ (s.addCause e).snapCount = s.snapCount ∧
    (s.addCause e).pins = s.pins ∧ (s.addCause e).lines = s.lines ∧ (s.addCause e).sampled = s.sampled ∧
    (s.addCause e).inputs = s.inputs ∧ (s.addCause e).freeCount = s.freeCount := by
  refine ⟨rfl, rfl, rfl, rfl, rfl, rfl, rfl, rfl, rfl, rfl, rfl, rfl, rfl, rfl, rfl, rfl, rfl, rfl, rfl, rfl, rfl, rfl, rfl, rfl, rfl⟩

@[simp] theorem State.raiseFault_frame (s : State) (e : Event) :
    (s.raiseFault e).pending = s.pending ∧ (s.raiseFault e).port = s.port ∧ (s.raiseFault e).regs = s.regs ∧
    (s.raiseFault e).pattern = s.pattern ∧ (s.raiseFault e).route = s.route ∧ (s.raiseFault e).lp = s.lp ∧
    (s.raiseFault e).clk = s.clk ∧ (s.raiseFault e).cs = s.cs ∧ (s.raiseFault e).candidates = s.candidates ∧
    (s.raiseFault e).ad = s.ad ∧ (s.raiseFault e).lg = s.lg ∧ (s.raiseFault e).vc = s.vc ∧
    (s.raiseFault e).gd = s.gd ∧ (s.raiseFault e).sq = s.sq ∧ (s.raiseFault e).shadows = s.shadows ∧
    (s.raiseFault e).snapTravel = s.snapTravel ∧ (s.raiseFault e).snapCount = s.snapCount ∧
    (s.raiseFault e).pins = s.pins ∧ (s.raiseFault e).lines = s.lines ∧ (s.raiseFault e).sampled = s.sampled ∧
    (s.raiseFault e).inputs = s.inputs ∧ (s.raiseFault e).freeCount = s.freeCount := by
  unfold State.raiseFault
  (repeat' split) <;> simp

@[simp] theorem State.raiseInEvent_frame (s : State) (e : Event) :
    (s.raiseInEvent e).pending = s.pending ∧ (s.raiseInEvent e).port = s.port ∧ (s.raiseInEvent e).regs = s.regs ∧
    (s.raiseInEvent e).pattern = s.pattern ∧ (s.raiseInEvent e).route = s.route ∧ (s.raiseInEvent e).lp = s.lp ∧
    (s.raiseInEvent e).clk = s.clk ∧ (s.raiseInEvent e).cs = s.cs ∧ (s.raiseInEvent e).candidates = s.candidates ∧
    (s.raiseInEvent e).ad = s.ad ∧ (s.raiseInEvent e).lg = s.lg ∧ (s.raiseInEvent e).vc = s.vc ∧
    (s.raiseInEvent e).gd = s.gd ∧ (s.raiseInEvent e).sl = s.sl ∧ (s.raiseInEvent e).br = s.br ∧
    (s.raiseInEvent e).sq = s.sq ∧ (s.raiseInEvent e).counters = s.counters ∧
    (s.raiseInEvent e).shadows = s.shadows ∧ (s.raiseInEvent e).snapTravel = s.snapTravel ∧
    (s.raiseInEvent e).snapCount = s.snapCount ∧ (s.raiseInEvent e).pins = s.pins ∧
    (s.raiseInEvent e).lines = s.lines ∧ (s.raiseInEvent e).sampled = s.sampled ∧
    (s.raiseInEvent e).inputs = s.inputs ∧ (s.raiseInEvent e).freeCount = s.freeCount := by
  unfold State.raiseInEvent
  dsimp only
  (repeat' split) <;> simp

@[simp] theorem State.settleFaults_frame (s : State) :
    (s.settleFaults).pending = s.pending ∧ (s.settleFaults).port = s.port ∧ (s.settleFaults).regs = s.regs ∧
    (s.settleFaults).pattern = s.pattern ∧ (s.settleFaults).route = s.route ∧ (s.settleFaults).lp = s.lp ∧
    (s.settleFaults).clk = s.clk ∧ (s.settleFaults).cs = s.cs ∧ (s.settleFaults).candidates = s.candidates ∧
    (s.settleFaults).ad = s.ad ∧ (s.settleFaults).lg = s.lg ∧ (s.settleFaults).vc = s.vc ∧
    (s.settleFaults).gd = s.gd ∧ (s.settleFaults).sq = s.sq ∧ (s.settleFaults).shadows = s.shadows ∧
    (s.settleFaults).snapTravel = s.snapTravel ∧ (s.settleFaults).snapCount = s.snapCount ∧
    (s.settleFaults).pins = s.pins ∧ (s.settleFaults).lines = s.lines ∧ (s.settleFaults).sampled = s.sampled ∧
    (s.settleFaults).inputs = s.inputs ∧ (s.settleFaults).freeCount = s.freeCount := by
  unfold State.settleFaults
  dsimp only
  (repeat' split) <;> simp

@[simp] theorem State.drainedTest_frame (s : State) :
    (s.drainedTest).pending = s.pending ∧ (s.drainedTest).port = s.port ∧ (s.drainedTest).regs = s.regs ∧
    (s.drainedTest).pattern = s.pattern ∧ (s.drainedTest).route = s.route ∧ (s.drainedTest).lp = s.lp ∧
    (s.drainedTest).clk = s.clk ∧ (s.drainedTest).cs = s.cs ∧ (s.drainedTest).candidates = s.candidates ∧
    (s.drainedTest).ad = s.ad ∧ (s.drainedTest).lg = s.lg ∧ (s.drainedTest).vc = s.vc ∧ (s.drainedTest).gd = s.gd ∧
    (s.drainedTest).sl = s.sl ∧ (s.drainedTest).br = s.br ∧ (s.drainedTest).sq = s.sq ∧
    (s.drainedTest).counters = s.counters ∧ (s.drainedTest).shadows = s.shadows ∧
    (s.drainedTest).snapTravel = s.snapTravel ∧ (s.drainedTest).snapCount = s.snapCount ∧
    (s.drainedTest).pins = s.pins ∧ (s.drainedTest).lines = s.lines ∧ (s.drainedTest).sampled = s.sampled ∧
    (s.drainedTest).inputs = s.inputs ∧ (s.drainedTest).freeCount = s.freeCount := by
  unfold State.drainedTest
  dsimp only
  (repeat' split) <;> simp

@[simp] theorem State.refreshSilence_frame (s : State) :
    (s.refreshSilence).pending = s.pending ∧ (s.refreshSilence).port = s.port ∧ (s.refreshSilence).regs = s.regs ∧
    (s.refreshSilence).pattern = s.pattern ∧ (s.refreshSilence).route = s.route ∧ (s.refreshSilence).lp = s.lp ∧
    (s.refreshSilence).clk = s.clk ∧ (s.refreshSilence).cs = s.cs ∧ (s.refreshSilence).candidates = s.candidates ∧
    (s.refreshSilence).ad = s.ad ∧ (s.refreshSilence).lg = s.lg ∧ (s.refreshSilence).gd = s.gd ∧
    (s.refreshSilence).sl = s.sl ∧ (s.refreshSilence).br = s.br ∧ (s.refreshSilence).sq = s.sq ∧
    (s.refreshSilence).rc = s.rc ∧ (s.refreshSilence).counters = s.counters ∧
    (s.refreshSilence).shadows = s.shadows ∧ (s.refreshSilence).snapTravel = s.snapTravel ∧
    (s.refreshSilence).snapCount = s.snapCount ∧ (s.refreshSilence).pins = s.pins ∧
    (s.refreshSilence).lines = s.lines ∧ (s.refreshSilence).sampled = s.sampled ∧
    (s.refreshSilence).inputs = s.inputs ∧ (s.refreshSilence).freeCount = s.freeCount := by
  refine ⟨rfl, rfl, rfl, rfl, rfl, rfl, rfl, rfl, rfl, rfl, rfl, rfl, rfl, rfl, rfl, rfl, rfl, rfl, rfl, rfl, rfl, rfl, rfl, rfl, rfl⟩

@[simp] theorem State.requestSlot_frame (s : State) (i : SlotId) :
    (s.requestSlot i).pending = s.pending ∧ (s.requestSlot i).port = s.port ∧ (s.requestSlot i).regs = s.regs ∧
    (s.requestSlot i).pattern = s.pattern ∧ (s.requestSlot i).route = s.route ∧ (s.requestSlot i).lp = s.lp ∧
    (s.requestSlot i).clk = s.clk ∧ (s.requestSlot i).cs = s.cs ∧ (s.requestSlot i).candidates = s.candidates ∧
    (s.requestSlot i).ad = s.ad ∧ (s.requestSlot i).lg = s.lg ∧ (s.requestSlot i).vc = s.vc ∧
    (s.requestSlot i).gd = s.gd ∧ (s.requestSlot i).br = s.br ∧ (s.requestSlot i).sq = s.sq ∧
    (s.requestSlot i).rc = s.rc ∧ (s.requestSlot i).shadows = s.shadows ∧
    (s.requestSlot i).snapTravel = s.snapTravel ∧ (s.requestSlot i).snapCount = s.snapCount ∧
    (s.requestSlot i).pins = s.pins ∧ (s.requestSlot i).lines = s.lines ∧ (s.requestSlot i).sampled = s.sampled ∧
    (s.requestSlot i).inputs = s.inputs ∧ (s.requestSlot i).freeCount = s.freeCount := by
  unfold State.requestSlot
  dsimp only
  (repeat' split) <;> simp

@[simp] theorem State.idleSlot_frame (s : State) (i : SlotId) :
    (s.idleSlot i).pending = s.pending ∧ (s.idleSlot i).port = s.port ∧ (s.idleSlot i).regs = s.regs ∧
    (s.idleSlot i).pattern = s.pattern ∧ (s.idleSlot i).route = s.route ∧ (s.idleSlot i).lp = s.lp ∧
    (s.idleSlot i).clk = s.clk ∧ (s.idleSlot i).cs = s.cs ∧ (s.idleSlot i).candidates = s.candidates ∧
    (s.idleSlot i).ad = s.ad ∧ (s.idleSlot i).lg = s.lg ∧ (s.idleSlot i).vc = s.vc ∧ (s.idleSlot i).gd = s.gd ∧
    (s.idleSlot i).br = s.br ∧ (s.idleSlot i).sq = s.sq ∧ (s.idleSlot i).rc = s.rc ∧
    (s.idleSlot i).counters = s.counters ∧ (s.idleSlot i).shadows = s.shadows ∧
    (s.idleSlot i).snapTravel = s.snapTravel ∧ (s.idleSlot i).snapCount = s.snapCount ∧
    (s.idleSlot i).pins = s.pins ∧ (s.idleSlot i).lines = s.lines ∧ (s.idleSlot i).sampled = s.sampled ∧
    (s.idleSlot i).inputs = s.inputs ∧ (s.idleSlot i).freeCount = s.freeCount := by
  unfold State.idleSlot
  dsimp only
  simp

@[simp] theorem State.dropRerequest_frame (s : State) (i : SlotId) :
    (s.dropRerequest i).pending = s.pending ∧ (s.dropRerequest i).port = s.port ∧
    (s.dropRerequest i).regs = s.regs ∧ (s.dropRerequest i).pattern = s.pattern ∧
    (s.dropRerequest i).route = s.route ∧ (s.dropRerequest i).lp = s.lp ∧ (s.dropRerequest i).clk = s.clk ∧
    (s.dropRerequest i).cs = s.cs ∧ (s.dropRerequest i).candidates = s.candidates ∧ (s.dropRerequest i).ad = s.ad ∧
    (s.dropRerequest i).lg = s.lg ∧ (s.dropRerequest i).vc = s.vc ∧ (s.dropRerequest i).gd = s.gd ∧
    (s.dropRerequest i).br = s.br ∧ (s.dropRerequest i).sq = s.sq ∧ (s.dropRerequest i).rc = s.rc ∧
    (s.dropRerequest i).counters = s.counters ∧ (s.dropRerequest i).shadows = s.shadows ∧
    (s.dropRerequest i).snapTravel = s.snapTravel ∧ (s.dropRerequest i).snapCount = s.snapCount ∧
    (s.dropRerequest i).pins = s.pins ∧ (s.dropRerequest i).lines = s.lines ∧
    (s.dropRerequest i).sampled = s.sampled ∧ (s.dropRerequest i).inputs = s.inputs ∧
    (s.dropRerequest i).freeCount = s.freeCount := by
  unfold State.dropRerequest
  dsimp only
  simp

@[simp] theorem State.forceWithdraw_frame (s : State) (i : SlotId) :
    (s.forceWithdraw i).pending = s.pending ∧ (s.forceWithdraw i).port = s.port ∧
    (s.forceWithdraw i).regs = s.regs ∧ (s.forceWithdraw i).pattern = s.pattern ∧
    (s.forceWithdraw i).route = s.route ∧ (s.forceWithdraw i).lp = s.lp ∧ (s.forceWithdraw i).clk = s.clk ∧
    (s.forceWithdraw i).cs = s.cs ∧ (s.forceWithdraw i).candidates = s.candidates ∧ (s.forceWithdraw i).ad = s.ad ∧
    (s.forceWithdraw i).lg = s.lg ∧ (s.forceWithdraw i).vc = s.vc ∧ (s.forceWithdraw i).gd = s.gd ∧
    (s.forceWithdraw i).br = s.br ∧ (s.forceWithdraw i).sq = s.sq ∧ (s.forceWithdraw i).rc = s.rc ∧
    (s.forceWithdraw i).counters = s.counters ∧ (s.forceWithdraw i).shadows = s.shadows ∧
    (s.forceWithdraw i).snapTravel = s.snapTravel ∧ (s.forceWithdraw i).snapCount = s.snapCount ∧
    (s.forceWithdraw i).pins = s.pins ∧ (s.forceWithdraw i).lines = s.lines ∧
    (s.forceWithdraw i).sampled = s.sampled ∧ (s.forceWithdraw i).inputs = s.inputs ∧
    (s.forceWithdraw i).freeCount = s.freeCount := by
  unfold State.forceWithdraw
  (repeat' split) <;> simp

@[simp] theorem State.openingArrives_frame (s : State) (i : SlotId) :
    (s.openingArrives i).pending = s.pending ∧ (s.openingArrives i).port = s.port ∧
    (s.openingArrives i).regs = s.regs ∧ (s.openingArrives i).pattern = s.pattern ∧
    (s.openingArrives i).route = s.route ∧ (s.openingArrives i).lp = s.lp ∧ (s.openingArrives i).clk = s.clk ∧
    (s.openingArrives i).cs = s.cs ∧ (s.openingArrives i).candidates = s.candidates ∧
    (s.openingArrives i).ad = s.ad ∧ (s.openingArrives i).lg = s.lg ∧ (s.openingArrives i).vc = s.vc ∧
    (s.openingArrives i).gd = s.gd ∧ (s.openingArrives i).br = s.br ∧ (s.openingArrives i).sq = s.sq ∧
    (s.openingArrives i).rc = s.rc ∧ (s.openingArrives i).counters = s.counters ∧
    (s.openingArrives i).shadows = s.shadows ∧ (s.openingArrives i).snapTravel = s.snapTravel ∧
    (s.openingArrives i).snapCount = s.snapCount ∧ (s.openingArrives i).pins = s.pins ∧
    (s.openingArrives i).lines = s.lines ∧ (s.openingArrives i).sampled = s.sampled ∧
    (s.openingArrives i).inputs = s.inputs ∧ (s.openingArrives i).freeCount = s.freeCount := by
  unfold State.openingArrives
  dsimp only
  (repeat' split) <;> simp

@[simp] theorem State.yieldSlot_frame (s : State) (i : SlotId) :
    (s.yieldSlot i).pending = s.pending ∧ (s.yieldSlot i).port = s.port ∧ (s.yieldSlot i).regs = s.regs ∧
    (s.yieldSlot i).pattern = s.pattern ∧ (s.yieldSlot i).route = s.route ∧ (s.yieldSlot i).lp = s.lp ∧
    (s.yieldSlot i).clk = s.clk ∧ (s.yieldSlot i).cs = s.cs ∧ (s.yieldSlot i).candidates = s.candidates ∧
    (s.yieldSlot i).ad = s.ad ∧ (s.yieldSlot i).lg = s.lg ∧ (s.yieldSlot i).vc = s.vc ∧ (s.yieldSlot i).gd = s.gd ∧
    (s.yieldSlot i).br = s.br ∧ (s.yieldSlot i).sq = s.sq ∧ (s.yieldSlot i).rc = s.rc ∧
    (s.yieldSlot i).shadows = s.shadows ∧ (s.yieldSlot i).snapTravel = s.snapTravel ∧
    (s.yieldSlot i).snapCount = s.snapCount ∧ (s.yieldSlot i).pins = s.pins ∧ (s.yieldSlot i).lines = s.lines ∧
    (s.yieldSlot i).sampled = s.sampled ∧ (s.yieldSlot i).inputs = s.inputs ∧
    (s.yieldSlot i).freeCount = s.freeCount := by
  unfold State.yieldSlot
  dsimp only
  simp

@[simp] theorem State.lateStartCheck_frame (s : State) :
    (s.lateStartCheck).pending = s.pending ∧ (s.lateStartCheck).port = s.port ∧ (s.lateStartCheck).regs = s.regs ∧
    (s.lateStartCheck).pattern = s.pattern ∧ (s.lateStartCheck).route = s.route ∧ (s.lateStartCheck).lp = s.lp ∧
    (s.lateStartCheck).clk = s.clk ∧ (s.lateStartCheck).cs = s.cs ∧ (s.lateStartCheck).candidates = s.candidates ∧
    (s.lateStartCheck).ad = s.ad ∧ (s.lateStartCheck).lg = s.lg ∧ (s.lateStartCheck).vc = s.vc ∧
    (s.lateStartCheck).gd = s.gd ∧ (s.lateStartCheck).sl = s.sl ∧ (s.lateStartCheck).br = s.br ∧
    (s.lateStartCheck).sq = s.sq ∧ (s.lateStartCheck).shadows = s.shadows ∧
    (s.lateStartCheck).snapTravel = s.snapTravel ∧ (s.lateStartCheck).snapCount = s.snapCount ∧
    (s.lateStartCheck).pins = s.pins ∧ (s.lateStartCheck).lines = s.lines ∧
    (s.lateStartCheck).sampled = s.sampled ∧ (s.lateStartCheck).inputs = s.inputs ∧
    (s.lateStartCheck).freeCount = s.freeCount := by
  unfold State.lateStartCheck
  (repeat' split) <;> simp

@[simp] theorem State.yieldIfDue_frame (s : State) (i : SlotId) :
    (s.yieldIfDue i).pending = s.pending ∧ (s.yieldIfDue i).port = s.port ∧ (s.yieldIfDue i).regs = s.regs ∧
    (s.yieldIfDue i).pattern = s.pattern ∧ (s.yieldIfDue i).route = s.route ∧ (s.yieldIfDue i).lp = s.lp ∧
    (s.yieldIfDue i).clk = s.clk ∧ (s.yieldIfDue i).cs = s.cs ∧ (s.yieldIfDue i).candidates = s.candidates ∧
    (s.yieldIfDue i).ad = s.ad ∧ (s.yieldIfDue i).lg = s.lg ∧ (s.yieldIfDue i).vc = s.vc ∧
    (s.yieldIfDue i).gd = s.gd ∧ (s.yieldIfDue i).br = s.br ∧ (s.yieldIfDue i).sq = s.sq ∧
    (s.yieldIfDue i).rc = s.rc ∧ (s.yieldIfDue i).shadows = s.shadows ∧
    (s.yieldIfDue i).snapTravel = s.snapTravel ∧ (s.yieldIfDue i).snapCount = s.snapCount ∧
    (s.yieldIfDue i).pins = s.pins ∧ (s.yieldIfDue i).lines = s.lines ∧ (s.yieldIfDue i).sampled = s.sampled ∧
    (s.yieldIfDue i).inputs = s.inputs ∧ (s.yieldIfDue i).freeCount = s.freeCount := by
  unfold State.yieldIfDue
  (repeat' split) <;> simp

@[simp] theorem yieldAll_frame (l : List SlotId) (s : State) :
    (l.foldl State.yieldIfDue s).pending = s.pending ∧ (l.foldl State.yieldIfDue s).port = s.port ∧
    (l.foldl State.yieldIfDue s).regs = s.regs ∧ (l.foldl State.yieldIfDue s).pattern = s.pattern ∧
    (l.foldl State.yieldIfDue s).route = s.route ∧ (l.foldl State.yieldIfDue s).lp = s.lp ∧
    (l.foldl State.yieldIfDue s).clk = s.clk ∧ (l.foldl State.yieldIfDue s).cs = s.cs ∧
    (l.foldl State.yieldIfDue s).candidates = s.candidates ∧ (l.foldl State.yieldIfDue s).ad = s.ad ∧
    (l.foldl State.yieldIfDue s).lg = s.lg ∧ (l.foldl State.yieldIfDue s).vc = s.vc ∧
    (l.foldl State.yieldIfDue s).gd = s.gd ∧ (l.foldl State.yieldIfDue s).br = s.br ∧
    (l.foldl State.yieldIfDue s).sq = s.sq ∧ (l.foldl State.yieldIfDue s).rc = s.rc ∧
    (l.foldl State.yieldIfDue s).shadows = s.shadows ∧ (l.foldl State.yieldIfDue s).snapTravel = s.snapTravel ∧
    (l.foldl State.yieldIfDue s).snapCount = s.snapCount ∧ (l.foldl State.yieldIfDue s).pins = s.pins ∧
    (l.foldl State.yieldIfDue s).lines = s.lines ∧ (l.foldl State.yieldIfDue s).sampled = s.sampled ∧
    (l.foldl State.yieldIfDue s).inputs = s.inputs ∧ (l.foldl State.yieldIfDue s).freeCount = s.freeCount := by
  induction l generalizing s with
  | nil => simp
  | cons x l ih =>
    simp only [List.foldl_cons]
    simp [ih]

@[simp] theorem State.becomeDue_frame (s : State) (i : SlotId) :
    (s.becomeDue i).pending = s.pending ∧ (s.becomeDue i).port = s.port ∧ (s.becomeDue i).regs = s.regs ∧
    (s.becomeDue i).pattern = s.pattern ∧ (s.becomeDue i).route = s.route ∧ (s.becomeDue i).lp = s.lp ∧
    (s.becomeDue i).clk = s.clk ∧ (s.becomeDue i).cs = s.cs ∧ (s.becomeDue i).candidates = s.candidates ∧
    (s.becomeDue i).ad = s.ad ∧ (s.becomeDue i).lg = s.lg ∧ (s.becomeDue i).vc = s.vc ∧ (s.becomeDue i).gd = s.gd ∧
    (s.becomeDue i).br = s.br ∧ (s.becomeDue i).sq = s.sq ∧ (s.becomeDue i).shadows = s.shadows ∧
    (s.becomeDue i).snapTravel = s.snapTravel ∧ (s.becomeDue i).snapCount = s.snapCount ∧
    (s.becomeDue i).pins = s.pins ∧ (s.becomeDue i).lines = s.lines ∧ (s.becomeDue i).sampled = s.sampled ∧
    (s.becomeDue i).inputs = s.inputs ∧ (s.becomeDue i).freeCount = s.freeCount := by
  unfold State.becomeDue
  dsimp only
  (repeat' split) <;> simp

@[simp] theorem State.anchorArrives_frame (s : State) (i : SlotId) :
    (s.anchorArrives i).pending = s.pending ∧ (s.anchorArrives i).port = s.port ∧
    (s.anchorArrives i).regs = s.regs ∧ (s.anchorArrives i).pattern = s.pattern ∧
    (s.anchorArrives i).route = s.route ∧ (s.anchorArrives i).lp = s.lp ∧ (s.anchorArrives i).clk = s.clk ∧
    (s.anchorArrives i).cs = s.cs ∧ (s.anchorArrives i).candidates = s.candidates ∧ (s.anchorArrives i).ad = s.ad ∧
    (s.anchorArrives i).lg = s.lg ∧ (s.anchorArrives i).vc = s.vc ∧ (s.anchorArrives i).gd = s.gd ∧
    (s.anchorArrives i).br = s.br ∧ (s.anchorArrives i).sq = s.sq ∧ (s.anchorArrives i).shadows = s.shadows ∧
    (s.anchorArrives i).snapTravel = s.snapTravel ∧ (s.anchorArrives i).snapCount = s.snapCount ∧
    (s.anchorArrives i).pins = s.pins ∧ (s.anchorArrives i).lines = s.lines ∧
    (s.anchorArrives i).sampled = s.sampled ∧ (s.anchorArrives i).inputs = s.inputs ∧
    (s.anchorArrives i).freeCount = s.freeCount := by
  unfold State.anchorArrives
  dsimp only
  (repeat' split) <;> simp

@[simp] theorem State.passSlot_frame (s : State) (i : SlotId) :
    (s.passSlot i).pending = s.pending ∧ (s.passSlot i).port = s.port ∧ (s.passSlot i).regs = s.regs ∧
    (s.passSlot i).pattern = s.pattern ∧ (s.passSlot i).route = s.route ∧ (s.passSlot i).lp = s.lp ∧
    (s.passSlot i).clk = s.clk ∧ (s.passSlot i).cs = s.cs ∧ (s.passSlot i).candidates = s.candidates ∧
    (s.passSlot i).ad = s.ad ∧ (s.passSlot i).lg = s.lg ∧ (s.passSlot i).vc = s.vc ∧ (s.passSlot i).gd = s.gd ∧
    (s.passSlot i).br = s.br ∧ (s.passSlot i).sq = s.sq ∧ (s.passSlot i).shadows = s.shadows ∧
    (s.passSlot i).snapTravel = s.snapTravel ∧ (s.passSlot i).snapCount = s.snapCount ∧
    (s.passSlot i).pins = s.pins ∧ (s.passSlot i).lines = s.lines ∧ (s.passSlot i).sampled = s.sampled ∧
    (s.passSlot i).inputs = s.inputs ∧ (s.passSlot i).freeCount = s.freeCount := by
  unfold State.passSlot
  dsimp only
  (repeat' split) <;> simp

@[simp] theorem passAll_frame (l : List SlotId) (s : State) :
    (l.foldl State.passSlot s).pending = s.pending ∧ (l.foldl State.passSlot s).port = s.port ∧
    (l.foldl State.passSlot s).regs = s.regs ∧ (l.foldl State.passSlot s).pattern = s.pattern ∧
    (l.foldl State.passSlot s).route = s.route ∧ (l.foldl State.passSlot s).lp = s.lp ∧
    (l.foldl State.passSlot s).clk = s.clk ∧ (l.foldl State.passSlot s).cs = s.cs ∧
    (l.foldl State.passSlot s).candidates = s.candidates ∧ (l.foldl State.passSlot s).ad = s.ad ∧
    (l.foldl State.passSlot s).lg = s.lg ∧ (l.foldl State.passSlot s).vc = s.vc ∧
    (l.foldl State.passSlot s).gd = s.gd ∧ (l.foldl State.passSlot s).br = s.br ∧
    (l.foldl State.passSlot s).sq = s.sq ∧ (l.foldl State.passSlot s).shadows = s.shadows ∧
    (l.foldl State.passSlot s).snapTravel = s.snapTravel ∧ (l.foldl State.passSlot s).snapCount = s.snapCount ∧
    (l.foldl State.passSlot s).pins = s.pins ∧ (l.foldl State.passSlot s).lines = s.lines ∧
    (l.foldl State.passSlot s).sampled = s.sampled ∧ (l.foldl State.passSlot s).inputs = s.inputs ∧
    (l.foldl State.passSlot s).freeCount = s.freeCount := by
  induction l generalizing s with
  | nil => simp
  | cons x l ih =>
    simp only [List.foldl_cons]
    simp [ih]

@[simp] theorem State.slotPass_frame (s : State) :
    (s.slotPass).pending = s.pending ∧ (s.slotPass).port = s.port ∧ (s.slotPass).regs = s.regs ∧
    (s.slotPass).pattern = s.pattern ∧ (s.slotPass).route = s.route ∧ (s.slotPass).lp = s.lp ∧
    (s.slotPass).clk = s.clk ∧ (s.slotPass).cs = s.cs ∧ (s.slotPass).candidates = s.candidates ∧
    (s.slotPass).ad = s.ad ∧ (s.slotPass).lg = s.lg ∧ (s.slotPass).vc = s.vc ∧ (s.slotPass).gd = s.gd ∧
    (s.slotPass).br = s.br ∧ (s.slotPass).sq = s.sq ∧ (s.slotPass).shadows = s.shadows ∧
    (s.slotPass).snapTravel = s.snapTravel ∧ (s.slotPass).snapCount = s.snapCount ∧ (s.slotPass).pins = s.pins ∧
    (s.slotPass).lines = s.lines ∧ (s.slotPass).sampled = s.sampled ∧ (s.slotPass).inputs = s.inputs ∧
    (s.slotPass).freeCount = s.freeCount := by
  unfold State.slotPass
  simp

@[simp] theorem State.endSlotFrame_frame (s : State) (i : SlotId) :
    (s.endSlotFrame i).pending = s.pending ∧ (s.endSlotFrame i).port = s.port ∧ (s.endSlotFrame i).regs = s.regs ∧
    (s.endSlotFrame i).pattern = s.pattern ∧ (s.endSlotFrame i).route = s.route ∧ (s.endSlotFrame i).lp = s.lp ∧
    (s.endSlotFrame i).clk = s.clk ∧ (s.endSlotFrame i).cs = s.cs ∧ (s.endSlotFrame i).candidates = s.candidates ∧
    (s.endSlotFrame i).ad = s.ad ∧ (s.endSlotFrame i).lg = s.lg ∧ (s.endSlotFrame i).vc = s.vc ∧
    (s.endSlotFrame i).gd = s.gd ∧ (s.endSlotFrame i).br = s.br ∧ (s.endSlotFrame i).sq = s.sq ∧
    (s.endSlotFrame i).rc = s.rc ∧ (s.endSlotFrame i).counters = s.counters ∧
    (s.endSlotFrame i).shadows = s.shadows ∧ (s.endSlotFrame i).snapTravel = s.snapTravel ∧
    (s.endSlotFrame i).snapCount = s.snapCount ∧ (s.endSlotFrame i).pins = s.pins ∧
    (s.endSlotFrame i).lines = s.lines ∧ (s.endSlotFrame i).sampled = s.sampled ∧
    (s.endSlotFrame i).inputs = s.inputs ∧ (s.endSlotFrame i).freeCount = s.freeCount := by
  unfold State.endSlotFrame
  dsimp only
  (repeat' split) <;> simp

@[simp] theorem State.holdDue_frame (s : State) (before : State) (i : SlotId) :
    (s.holdDue before i).pending = s.pending ∧ (s.holdDue before i).port = s.port ∧
    (s.holdDue before i).regs = s.regs ∧ (s.holdDue before i).pattern = s.pattern ∧
    (s.holdDue before i).route = s.route ∧ (s.holdDue before i).lp = s.lp ∧ (s.holdDue before i).clk = s.clk ∧
    (s.holdDue before i).cs = s.cs ∧ (s.holdDue before i).candidates = s.candidates ∧
    (s.holdDue before i).ad = s.ad ∧ (s.holdDue before i).lg = s.lg ∧ (s.holdDue before i).vc = s.vc ∧
    (s.holdDue before i).gd = s.gd ∧ (s.holdDue before i).br = s.br ∧ (s.holdDue before i).sq = s.sq ∧
    (s.holdDue before i).rc = s.rc ∧ (s.holdDue before i).counters = s.counters ∧
    (s.holdDue before i).shadows = s.shadows ∧ (s.holdDue before i).snapTravel = s.snapTravel ∧
    (s.holdDue before i).snapCount = s.snapCount ∧ (s.holdDue before i).pins = s.pins ∧
    (s.holdDue before i).lines = s.lines ∧ (s.holdDue before i).sampled = s.sampled ∧
    (s.holdDue before i).inputs = s.inputs ∧ (s.holdDue before i).freeCount = s.freeCount := by
  unfold State.holdDue
  dsimp only
  (repeat' split) <;> simp

@[simp] theorem holdEach_frame (before : State) (l : List SlotId) (s : State) :
    (l.foldl (fun s i => s.holdDue before i) s).pending = s.pending ∧
    (l.foldl (fun s i => s.holdDue before i) s).port = s.port ∧
    (l.foldl (fun s i => s.holdDue before i) s).regs = s.regs ∧
    (l.foldl (fun s i => s.holdDue before i) s).pattern = s.pattern ∧
    (l.foldl (fun s i => s.holdDue before i) s).route = s.route ∧
    (l.foldl (fun s i => s.holdDue before i) s).lp = s.lp ∧
    (l.foldl (fun s i => s.holdDue before i) s).clk = s.clk ∧
    (l.foldl (fun s i => s.holdDue before i) s).cs = s.cs ∧
    (l.foldl (fun s i => s.holdDue before i) s).candidates = s.candidates ∧
    (l.foldl (fun s i => s.holdDue before i) s).ad = s.ad ∧ (l.foldl (fun s i => s.holdDue before i) s).lg = s.lg ∧
    (l.foldl (fun s i => s.holdDue before i) s).vc = s.vc ∧ (l.foldl (fun s i => s.holdDue before i) s).gd = s.gd ∧
    (l.foldl (fun s i => s.holdDue before i) s).br = s.br ∧ (l.foldl (fun s i => s.holdDue before i) s).sq = s.sq ∧
    (l.foldl (fun s i => s.holdDue before i) s).rc = s.rc ∧
    (l.foldl (fun s i => s.holdDue before i) s).counters = s.counters ∧
    (l.foldl (fun s i => s.holdDue before i) s).shadows = s.shadows ∧
    (l.foldl (fun s i => s.holdDue before i) s).snapTravel = s.snapTravel ∧
    (l.foldl (fun s i => s.holdDue before i) s).snapCount = s.snapCount ∧
    (l.foldl (fun s i => s.holdDue before i) s).pins = s.pins ∧
    (l.foldl (fun s i => s.holdDue before i) s).lines = s.lines ∧
    (l.foldl (fun s i => s.holdDue before i) s).sampled = s.sampled ∧
    (l.foldl (fun s i => s.holdDue before i) s).inputs = s.inputs ∧
    (l.foldl (fun s i => s.holdDue before i) s).freeCount = s.freeCount := by
  induction l generalizing s with
  | nil => simp
  | cons x l ih =>
    simp only [List.foldl_cons]
    simp [ih]

@[simp] theorem State.moveAnchors_frame (s : State) (before : State) :
    (s.moveAnchors before).pending = s.pending ∧ (s.moveAnchors before).port = s.port ∧
    (s.moveAnchors before).regs = s.regs ∧ (s.moveAnchors before).pattern = s.pattern ∧
    (s.moveAnchors before).route = s.route ∧ (s.moveAnchors before).lp = s.lp ∧
    (s.moveAnchors before).clk = s.clk ∧ (s.moveAnchors before).cs = s.cs ∧
    (s.moveAnchors before).candidates = s.candidates ∧ (s.moveAnchors before).ad = s.ad ∧
    (s.moveAnchors before).lg = s.lg ∧ (s.moveAnchors before).vc = s.vc ∧ (s.moveAnchors before).gd = s.gd ∧
    (s.moveAnchors before).br = s.br ∧ (s.moveAnchors before).sq = s.sq ∧ (s.moveAnchors before).rc = s.rc ∧
    (s.moveAnchors before).counters = s.counters ∧ (s.moveAnchors before).shadows = s.shadows ∧
    (s.moveAnchors before).snapTravel = s.snapTravel ∧ (s.moveAnchors before).snapCount = s.snapCount ∧
    (s.moveAnchors before).pins = s.pins ∧ (s.moveAnchors before).lines = s.lines ∧
    (s.moveAnchors before).sampled = s.sampled ∧ (s.moveAnchors before).inputs = s.inputs ∧
    (s.moveAnchors before).freeCount = s.freeCount := by
  unfold State.moveAnchors
  simp

@[simp] theorem State.cancelUser_frame (s : State) :
    (s.cancelUser).pending = s.pending ∧ (s.cancelUser).port = s.port ∧ (s.cancelUser).regs = s.regs ∧
    (s.cancelUser).pattern = s.pattern ∧ (s.cancelUser).route = s.route ∧ (s.cancelUser).lp = s.lp ∧
    (s.cancelUser).clk = s.clk ∧ (s.cancelUser).cs = s.cs ∧ (s.cancelUser).candidates = s.candidates ∧
    (s.cancelUser).ad = s.ad ∧ (s.cancelUser).lg = s.lg ∧ (s.cancelUser).vc = s.vc ∧ (s.cancelUser).gd = s.gd ∧
    (s.cancelUser).br = s.br ∧ (s.cancelUser).sq = s.sq ∧ (s.cancelUser).rc = s.rc ∧
    (s.cancelUser).counters = s.counters ∧ (s.cancelUser).shadows = s.shadows ∧
    (s.cancelUser).snapTravel = s.snapTravel ∧ (s.cancelUser).snapCount = s.snapCount ∧
    (s.cancelUser).pins = s.pins ∧ (s.cancelUser).lines = s.lines ∧ (s.cancelUser).sampled = s.sampled ∧
    (s.cancelUser).inputs = s.inputs ∧ (s.cancelUser).freeCount = s.freeCount := by
  unfold State.cancelUser
  dsimp only
  (repeat' split) <;> simp

@[simp] theorem State.requestUser_frame (s : State) :
    (s.requestUser).pending = s.pending ∧ (s.requestUser).port = s.port ∧ (s.requestUser).regs = s.regs ∧
    (s.requestUser).pattern = s.pattern ∧ (s.requestUser).route = s.route ∧ (s.requestUser).lp = s.lp ∧
    (s.requestUser).clk = s.clk ∧ (s.requestUser).cs = s.cs ∧ (s.requestUser).candidates = s.candidates ∧
    (s.requestUser).ad = s.ad ∧ (s.requestUser).lg = s.lg ∧ (s.requestUser).vc = s.vc ∧ (s.requestUser).gd = s.gd ∧
    (s.requestUser).br = s.br ∧ (s.requestUser).sq = s.sq ∧ (s.requestUser).rc = s.rc ∧
    (s.requestUser).shadows = s.shadows ∧ (s.requestUser).snapTravel = s.snapTravel ∧
    (s.requestUser).snapCount = s.snapCount ∧ (s.requestUser).pins = s.pins ∧ (s.requestUser).lines = s.lines ∧
    (s.requestUser).sampled = s.sampled ∧ (s.requestUser).inputs = s.inputs ∧
    (s.requestUser).freeCount = s.freeCount := by
  unfold State.requestUser
  dsimp only
  (repeat' split) <;> simp

@[simp] theorem State.cancelReference_frame (s : State) (g : RefGen) :
    (s.cancelReference g).pending = s.pending ∧ (s.cancelReference g).port = s.port ∧
    (s.cancelReference g).regs = s.regs ∧ (s.cancelReference g).pattern = s.pattern ∧
    (s.cancelReference g).route = s.route ∧ (s.cancelReference g).lp = s.lp ∧ (s.cancelReference g).clk = s.clk ∧
    (s.cancelReference g).candidates = s.candidates ∧ (s.cancelReference g).ad = s.ad ∧
    (s.cancelReference g).lg = s.lg ∧ (s.cancelReference g).vc = s.vc ∧ (s.cancelReference g).gd = s.gd ∧
    (s.cancelReference g).br = s.br ∧ (s.cancelReference g).sq = s.sq ∧ (s.cancelReference g).rc = s.rc ∧
    (s.cancelReference g).shadows = s.shadows ∧ (s.cancelReference g).snapTravel = s.snapTravel ∧
    (s.cancelReference g).snapCount = s.snapCount ∧ (s.cancelReference g).pins = s.pins ∧
    (s.cancelReference g).lines = s.lines ∧ (s.cancelReference g).sampled = s.sampled ∧
    (s.cancelReference g).inputs = s.inputs ∧ (s.cancelReference g).freeCount = s.freeCount := by
  unfold State.cancelReference
  (repeat' split) <;> simp

end Sys2Proof.Machine
end

