-- ==== Sys2Proof/Laws/Frame2.lean ====
section
/-! SUPPORT. What the Line Position Unit and the capture sources leave alone: one lemma for each, a conjunction over the fields of State. -/

namespace Sys2Proof.Machine

@[simp] theorem State.offerPosition_frame (s : State) :
    (s.offerPosition).pending = s.pending ∧ (s.offerPosition).port = s.port ∧ (s.offerPosition).regs = s.regs ∧
    (s.offerPosition).pattern = s.pattern ∧ (s.offerPosition).route = s.route ∧ (s.offerPosition).clk = s.clk ∧
    (s.offerPosition).cs = s.cs ∧ (s.offerPosition).candidates = s.candidates ∧ (s.offerPosition).ad = s.ad ∧
    (s.offerPosition).lg = s.lg ∧ (s.offerPosition).vc = s.vc ∧ (s.offerPosition).gd = s.gd ∧
    (s.offerPosition).sq = s.sq ∧ (s.offerPosition).shadows = s.shadows ∧
    (s.offerPosition).snapTravel = s.snapTravel ∧ (s.offerPosition).snapCount = s.snapCount ∧
    (s.offerPosition).pins = s.pins ∧ (s.offerPosition).lines = s.lines ∧ (s.offerPosition).sampled = s.sampled ∧
    (s.offerPosition).inputs = s.inputs ∧ (s.offerPosition).freeCount = s.freeCount := by
  unfold State.offerPosition
  dsimp only
  (repeat' split) <;> simp

@[simp] theorem State.reverseStep_frame (s : State) :
    (s.reverseStep).pending = s.pending ∧ (s.reverseStep).port = s.port ∧ (s.reverseStep).regs = s.regs ∧
    (s.reverseStep).pattern = s.pattern ∧ (s.reverseStep).route = s.route ∧ (s.reverseStep).clk = s.clk ∧
    (s.reverseStep).cs = s.cs ∧ (s.reverseStep).candidates = s.candidates ∧ (s.reverseStep).ad = s.ad ∧
    (s.reverseStep).lg = s.lg ∧ (s.reverseStep).vc = s.vc ∧ (s.reverseStep).gd = s.gd ∧ (s.reverseStep).sq = s.sq ∧
    (s.reverseStep).shadows = s.shadows ∧ (s.reverseStep).snapTravel = s.snapTravel ∧
    (s.reverseStep).snapCount = s.snapCount ∧ (s.reverseStep).pins = s.pins ∧ (s.reverseStep).lines = s.lines ∧
    (s.reverseStep).sampled = s.sampled ∧ (s.reverseStep).inputs = s.inputs ∧
    (s.reverseStep).freeCount = s.freeCount := by
  unfold State.reverseStep
  dsimp only
  (repeat' split) <;> simp

@[simp] theorem State.forwardStep_frame (s : State) :
    (s.forwardStep).pending = s.pending ∧ (s.forwardStep).port = s.port ∧ (s.forwardStep).regs = s.regs ∧
    (s.forwardStep).pattern = s.pattern ∧ (s.forwardStep).route = s.route ∧ (s.forwardStep).clk = s.clk ∧
    (s.forwardStep).cs = s.cs ∧ (s.forwardStep).candidates = s.candidates ∧ (s.forwardStep).ad = s.ad ∧
    (s.forwardStep).lg = s.lg ∧ (s.forwardStep).vc = s.vc ∧ (s.forwardStep).gd = s.gd ∧ (s.forwardStep).sq = s.sq ∧
    (s.forwardStep).shadows = s.shadows ∧ (s.forwardStep).snapTravel = s.snapTravel ∧
    (s.forwardStep).snapCount = s.snapCount ∧ (s.forwardStep).pins = s.pins ∧ (s.forwardStep).lines = s.lines ∧
    (s.forwardStep).sampled = s.sampled ∧ (s.forwardStep).inputs = s.inputs ∧
    (s.forwardStep).freeCount = s.freeCount := by
  unfold State.forwardStep
  dsimp only
  (repeat' split) <;> simp

@[simp] theorem State.takeStep_frame (s : State) (forward : Bool) :
    (s.takeStep forward).pending = s.pending ∧ (s.takeStep forward).port = s.port ∧
    (s.takeStep forward).regs = s.regs ∧ (s.takeStep forward).pattern = s.pattern ∧
    (s.takeStep forward).route = s.route ∧ (s.takeStep forward).clk = s.clk ∧ (s.takeStep forward).cs = s.cs ∧
    (s.takeStep forward).candidates = s.candidates ∧ (s.takeStep forward).ad = s.ad ∧
    (s.takeStep forward).lg = s.lg ∧ (s.takeStep forward).vc = s.vc ∧ (s.takeStep forward).gd = s.gd ∧
    (s.takeStep forward).sq = s.sq ∧ (s.takeStep forward).shadows = s.shadows ∧
    (s.takeStep forward).snapTravel = s.snapTravel ∧ (s.takeStep forward).snapCount = s.snapCount ∧
    (s.takeStep forward).pins = s.pins ∧ (s.takeStep forward).lines = s.lines ∧
    (s.takeStep forward).sampled = s.sampled ∧ (s.takeStep forward).inputs = s.inputs ∧
    (s.takeStep forward).freeCount = s.freeCount := by
  unfold State.takeStep
  (repeat' split) <;> simp

@[simp] theorem State.takeIndexEdge_frame (s : State) :
    (s.takeIndexEdge).pending = s.pending ∧ (s.takeIndexEdge).port = s.port ∧ (s.takeIndexEdge).regs = s.regs ∧
    (s.takeIndexEdge).pattern = s.pattern ∧ (s.takeIndexEdge).route = s.route ∧ (s.takeIndexEdge).clk = s.clk ∧
    (s.takeIndexEdge).cs = s.cs ∧ (s.takeIndexEdge).candidates = s.candidates ∧ (s.takeIndexEdge).ad = s.ad ∧
    (s.takeIndexEdge).lg = s.lg ∧ (s.takeIndexEdge).vc = s.vc ∧ (s.takeIndexEdge).gd = s.gd ∧
    (s.takeIndexEdge).sl = s.sl ∧ (s.takeIndexEdge).br = s.br ∧ (s.takeIndexEdge).sq = s.sq ∧
    (s.takeIndexEdge).rc = s.rc ∧ (s.takeIndexEdge).counters = s.counters ∧ (s.takeIndexEdge).shadows = s.shadows ∧
    (s.takeIndexEdge).snapTravel = s.snapTravel ∧ (s.takeIndexEdge).snapCount = s.snapCount ∧
    (s.takeIndexEdge).pins = s.pins ∧ (s.takeIndexEdge).lines = s.lines ∧ (s.takeIndexEdge).sampled = s.sampled ∧
    (s.takeIndexEdge).inputs = s.inputs ∧ (s.takeIndexEdge).freeCount = s.freeCount := by
  unfold State.takeIndexEdge
  dsimp only
  (repeat' split) <;> simp

@[simp] theorem State.genTick_frame (s : State) :
    (s.genTick).pending = s.pending ∧ (s.genTick).port = s.port ∧ (s.genTick).regs = s.regs ∧
    (s.genTick).pattern = s.pattern ∧ (s.genTick).route = s.route ∧ (s.genTick).clk = s.clk ∧
    (s.genTick).cs = s.cs ∧ (s.genTick).candidates = s.candidates ∧ (s.genTick).ad = s.ad ∧ (s.genTick).lg = s.lg ∧
    (s.genTick).vc = s.vc ∧ (s.genTick).gd = s.gd ∧ (s.genTick).sq = s.sq ∧ (s.genTick).shadows = s.shadows ∧
    (s.genTick).snapTravel = s.snapTravel ∧ (s.genTick).snapCount = s.snapCount ∧ (s.genTick).pins = s.pins ∧
    (s.genTick).lines = s.lines ∧ (s.genTick).sampled = s.sampled ∧ (s.genTick).inputs = s.inputs ∧
    (s.genTick).freeCount = s.freeCount := by
  unfold State.genTick
  dsimp only
  (repeat' split) <;> simp

@[simp] theorem State.countCycle_frame (s : State) :
    (s.countCycle).pending = s.pending ∧ (s.countCycle).port = s.port ∧ (s.countCycle).regs = s.regs ∧
    (s.countCycle).pattern = s.pattern ∧ (s.countCycle).route = s.route ∧ (s.countCycle).clk = s.clk ∧
    (s.countCycle).cs = s.cs ∧ (s.countCycle).candidates = s.candidates ∧ (s.countCycle).ad = s.ad ∧
    (s.countCycle).lg = s.lg ∧ (s.countCycle).vc = s.vc ∧ (s.countCycle).gd = s.gd ∧ (s.countCycle).sl = s.sl ∧
    (s.countCycle).br = s.br ∧ (s.countCycle).sq = s.sq ∧ (s.countCycle).rc = s.rc ∧
    (s.countCycle).shadows = s.shadows ∧ (s.countCycle).snapTravel = s.snapTravel ∧
    (s.countCycle).snapCount = s.snapCount ∧ (s.countCycle).pins = s.pins ∧ (s.countCycle).lines = s.lines ∧
    (s.countCycle).sampled = s.sampled ∧ (s.countCycle).inputs = s.inputs ∧ (s.countCycle).freeCount = s.freeCount := by
  unfold State.countCycle
  dsimp only
  simp

@[simp] theorem State.advanceIndex_frame (s : State) :
    (s.advanceIndex).pending = s.pending ∧ (s.advanceIndex).port = s.port ∧ (s.advanceIndex).regs = s.regs ∧
    (s.advanceIndex).pattern = s.pattern ∧ (s.advanceIndex).route = s.route ∧ (s.advanceIndex).clk = s.clk ∧
    (s.advanceIndex).cs = s.cs ∧ (s.advanceIndex).candidates = s.candidates ∧ (s.advanceIndex).ad = s.ad ∧
    (s.advanceIndex).lg = s.lg ∧ (s.advanceIndex).vc = s.vc ∧ (s.advanceIndex).gd = s.gd ∧
    (s.advanceIndex).sl = s.sl ∧ (s.advanceIndex).br = s.br ∧ (s.advanceIndex).sq = s.sq ∧
    (s.advanceIndex).rc = s.rc ∧ (s.advanceIndex).shadows = s.shadows ∧
    (s.advanceIndex).snapTravel = s.snapTravel ∧ (s.advanceIndex).snapCount = s.snapCount ∧
    (s.advanceIndex).pins = s.pins ∧ (s.advanceIndex).lines = s.lines ∧ (s.advanceIndex).sampled = s.sampled ∧
    (s.advanceIndex).inputs = s.inputs ∧ (s.advanceIndex).freeCount = s.freeCount := by
  unfold State.advanceIndex
  dsimp only
  (repeat' split) <;> simp

@[simp] theorem State.restartStall_frame (s : State) :
    (s.restartStall).pending = s.pending ∧ (s.restartStall).port = s.port ∧ (s.restartStall).regs = s.regs ∧
    (s.restartStall).pattern = s.pattern ∧ (s.restartStall).route = s.route ∧ (s.restartStall).clk = s.clk ∧
    (s.restartStall).cs = s.cs ∧ (s.restartStall).candidates = s.candidates ∧ (s.restartStall).ad = s.ad ∧
    (s.restartStall).lg = s.lg ∧ (s.restartStall).vc = s.vc ∧ (s.restartStall).gd = s.gd ∧
    (s.restartStall).sl = s.sl ∧ (s.restartStall).br = s.br ∧ (s.restartStall).sq = s.sq ∧
    (s.restartStall).rc = s.rc ∧ (s.restartStall).counters = s.counters ∧ (s.restartStall).shadows = s.shadows ∧
    (s.restartStall).snapTravel = s.snapTravel ∧ (s.restartStall).snapCount = s.snapCount ∧
    (s.restartStall).pins = s.pins ∧ (s.restartStall).lines = s.lines ∧ (s.restartStall).sampled = s.sampled ∧
    (s.restartStall).inputs = s.inputs ∧ (s.restartStall).freeCount = s.freeCount := by
  unfold State.restartStall
  dsimp only
  simp

@[simp] theorem State.stepOne_frame (s : State) :
    (s.stepOne).pending = s.pending ∧ (s.stepOne).port = s.port ∧ (s.stepOne).regs = s.regs ∧
    (s.stepOne).pattern = s.pattern ∧ (s.stepOne).route = s.route ∧ (s.stepOne).clk = s.clk ∧
    (s.stepOne).cs = s.cs ∧ (s.stepOne).candidates = s.candidates ∧ (s.stepOne).ad = s.ad ∧ (s.stepOne).lg = s.lg ∧
    (s.stepOne).vc = s.vc ∧ (s.stepOne).gd = s.gd ∧ (s.stepOne).sl = s.sl ∧ (s.stepOne).br = s.br ∧
    (s.stepOne).sq = s.sq ∧ (s.stepOne).rc = s.rc ∧ (s.stepOne).shadows = s.shadows ∧
    (s.stepOne).snapTravel = s.snapTravel ∧ (s.stepOne).snapCount = s.snapCount ∧ (s.stepOne).pins = s.pins ∧
    (s.stepOne).lines = s.lines ∧ (s.stepOne).sampled = s.sampled ∧ (s.stepOne).inputs = s.inputs ∧
    (s.stepOne).freeCount = s.freeCount := by
  unfold State.stepOne
  dsimp only
  simp

@[simp] theorem State.phaseError_frame (s : State) (kind : PhaseKind) (offset : BitVec 16) :
    (s.phaseError kind offset).pending = s.pending ∧ (s.phaseError kind offset).port = s.port ∧
    (s.phaseError kind offset).regs = s.regs ∧ (s.phaseError kind offset).pattern = s.pattern ∧
    (s.phaseError kind offset).route = s.route ∧ (s.phaseError kind offset).clk = s.clk ∧
    (s.phaseError kind offset).cs = s.cs ∧ (s.phaseError kind offset).candidates = s.candidates ∧
    (s.phaseError kind offset).ad = s.ad ∧ (s.phaseError kind offset).lg = s.lg ∧
    (s.phaseError kind offset).vc = s.vc ∧ (s.phaseError kind offset).gd = s.gd ∧
    (s.phaseError kind offset).sl = s.sl ∧ (s.phaseError kind offset).br = s.br ∧
    (s.phaseError kind offset).sq = s.sq ∧ (s.phaseError kind offset).shadows = s.shadows ∧
    (s.phaseError kind offset).snapTravel = s.snapTravel ∧ (s.phaseError kind offset).snapCount = s.snapCount ∧
    (s.phaseError kind offset).pins = s.pins ∧ (s.phaseError kind offset).lines = s.lines ∧
    (s.phaseError kind offset).sampled = s.sampled ∧ (s.phaseError kind offset).inputs = s.inputs ∧
    (s.phaseError kind offset).freeCount = s.freeCount := by
  unfold State.phaseError
  dsimp only
  simp

@[simp] theorem State.realign_frame (s : State) :
    (s.realign).pending = s.pending ∧ (s.realign).port = s.port ∧ (s.realign).regs = s.regs ∧
    (s.realign).pattern = s.pattern ∧ (s.realign).route = s.route ∧ (s.realign).clk = s.clk ∧
    (s.realign).cs = s.cs ∧ (s.realign).candidates = s.candidates ∧ (s.realign).ad = s.ad ∧ (s.realign).lg = s.lg ∧
    (s.realign).vc = s.vc ∧ (s.realign).gd = s.gd ∧ (s.realign).sl = s.sl ∧ (s.realign).br = s.br ∧
    (s.realign).sq = s.sq ∧ (s.realign).rc = s.rc ∧ (s.realign).shadows = s.shadows ∧
    (s.realign).snapTravel = s.snapTravel ∧ (s.realign).snapCount = s.snapCount ∧ (s.realign).pins = s.pins ∧
    (s.realign).lines = s.lines ∧ (s.realign).sampled = s.sampled ∧ (s.realign).inputs = s.inputs ∧
    (s.realign).freeCount = s.freeCount := by
  unfold State.realign
  dsimp only
  (repeat' split) <;> simp

@[simp] theorem State.checkIndex_frame (s : State) :
    (s.checkIndex).pending = s.pending ∧ (s.checkIndex).port = s.port ∧ (s.checkIndex).regs = s.regs ∧
    (s.checkIndex).pattern = s.pattern ∧ (s.checkIndex).route = s.route ∧ (s.checkIndex).clk = s.clk ∧
    (s.checkIndex).cs = s.cs ∧ (s.checkIndex).candidates = s.candidates ∧ (s.checkIndex).ad = s.ad ∧
    (s.checkIndex).lg = s.lg ∧ (s.checkIndex).vc = s.vc ∧ (s.checkIndex).gd = s.gd ∧ (s.checkIndex).sl = s.sl ∧
    (s.checkIndex).br = s.br ∧ (s.checkIndex).sq = s.sq ∧ (s.checkIndex).shadows = s.shadows ∧
    (s.checkIndex).snapTravel = s.snapTravel ∧ (s.checkIndex).snapCount = s.snapCount ∧
    (s.checkIndex).pins = s.pins ∧ (s.checkIndex).lines = s.lines ∧ (s.checkIndex).sampled = s.sampled ∧
    (s.checkIndex).inputs = s.inputs ∧ (s.checkIndex).freeCount = s.freeCount := by
  unfold State.checkIndex
  dsimp only
  (repeat' split) <;> simp

@[simp] theorem State.incSince_frame (s : State) :
    (s.incSince).pending = s.pending ∧ (s.incSince).port = s.port ∧ (s.incSince).regs = s.regs ∧
    (s.incSince).pattern = s.pattern ∧ (s.incSince).route = s.route ∧ (s.incSince).clk = s.clk ∧
    (s.incSince).cs = s.cs ∧ (s.incSince).candidates = s.candidates ∧ (s.incSince).ad = s.ad ∧
    (s.incSince).lg = s.lg ∧ (s.incSince).vc = s.vc ∧ (s.incSince).gd = s.gd ∧ (s.incSince).sl = s.sl ∧
    (s.incSince).br = s.br ∧ (s.incSince).sq = s.sq ∧ (s.incSince).rc = s.rc ∧ (s.incSince).counters = s.counters ∧
    (s.incSince).shadows = s.shadows ∧ (s.incSince).snapTravel = s.snapTravel ∧
    (s.incSince).snapCount = s.snapCount ∧ (s.incSince).pins = s.pins ∧ (s.incSince).lines = s.lines ∧
    (s.incSince).sampled = s.sampled ∧ (s.incSince).inputs = s.inputs := by
  unfold State.incSince
  dsimp only
  (repeat' split) <;> simp

@[simp] theorem State.declareMissing_frame (s : State) :
    (s.declareMissing).pending = s.pending ∧ (s.declareMissing).port = s.port ∧ (s.declareMissing).regs = s.regs ∧
    (s.declareMissing).pattern = s.pattern ∧ (s.declareMissing).route = s.route ∧ (s.declareMissing).clk = s.clk ∧
    (s.declareMissing).cs = s.cs ∧ (s.declareMissing).candidates = s.candidates ∧ (s.declareMissing).ad = s.ad ∧
    (s.declareMissing).lg = s.lg ∧ (s.declareMissing).vc = s.vc ∧ (s.declareMissing).gd = s.gd ∧
    (s.declareMissing).sl = s.sl ∧ (s.declareMissing).br = s.br ∧ (s.declareMissing).sq = s.sq ∧
    (s.declareMissing).shadows = s.shadows ∧ (s.declareMissing).snapTravel = s.snapTravel ∧
    (s.declareMissing).snapCount = s.snapCount ∧ (s.declareMissing).pins = s.pins ∧
    (s.declareMissing).lines = s.lines ∧ (s.declareMissing).sampled = s.sampled ∧
    (s.declareMissing).inputs = s.inputs ∧ (s.declareMissing).freeCount = s.freeCount := by
  unfold State.declareMissing
  dsimp only
  simp

@[simp] theorem State.countSince_frame (s : State) :
    (s.countSince).pending = s.pending ∧ (s.countSince).port = s.port ∧ (s.countSince).regs = s.regs ∧
    (s.countSince).pattern = s.pattern ∧ (s.countSince).route = s.route ∧ (s.countSince).clk = s.clk ∧
    (s.countSince).cs = s.cs ∧ (s.countSince).candidates = s.candidates ∧ (s.countSince).ad = s.ad ∧
    (s.countSince).lg = s.lg ∧ (s.countSince).vc = s.vc ∧ (s.countSince).gd = s.gd ∧ (s.countSince).sl = s.sl ∧
    (s.countSince).br = s.br ∧ (s.countSince).sq = s.sq ∧ (s.countSince).shadows = s.shadows ∧
    (s.countSince).snapTravel = s.snapTravel ∧ (s.countSince).snapCount = s.snapCount ∧
    (s.countSince).pins = s.pins ∧ (s.countSince).lines = s.lines ∧ (s.countSince).sampled = s.sampled ∧
    (s.countSince).inputs = s.inputs := by
  unfold State.countSince
  dsimp only
  (repeat' split) <;> simp

@[simp] theorem State.stepTwo_frame (s : State) (start : Bool) :
    (s.stepTwo start).pending = s.pending ∧ (s.stepTwo start).port = s.port ∧ (s.stepTwo start).regs = s.regs ∧
    (s.stepTwo start).pattern = s.pattern ∧ (s.stepTwo start).route = s.route ∧ (s.stepTwo start).clk = s.clk ∧
    (s.stepTwo start).cs = s.cs ∧ (s.stepTwo start).candidates = s.candidates ∧ (s.stepTwo start).ad = s.ad ∧
    (s.stepTwo start).lg = s.lg ∧ (s.stepTwo start).vc = s.vc ∧ (s.stepTwo start).gd = s.gd ∧
    (s.stepTwo start).sl = s.sl ∧ (s.stepTwo start).br = s.br ∧ (s.stepTwo start).sq = s.sq ∧
    (s.stepTwo start).shadows = s.shadows ∧ (s.stepTwo start).snapTravel = s.snapTravel ∧
    (s.stepTwo start).snapCount = s.snapCount ∧ (s.stepTwo start).pins = s.pins ∧
    (s.stepTwo start).lines = s.lines ∧ (s.stepTwo start).sampled = s.sampled ∧ (s.stepTwo start).inputs = s.inputs := by
  unfold State.stepTwo
  dsimp only
  (repeat' split) <;> simp

@[simp] theorem State.propose_frame (s : State) (c : CaptureClass) :
    (s.propose c).pending = s.pending ∧ (s.propose c).port = s.port ∧ (s.propose c).regs = s.regs ∧
    (s.propose c).pattern = s.pattern ∧ (s.propose c).route = s.route ∧ (s.propose c).lp = s.lp ∧
    (s.propose c).clk = s.clk ∧ (s.propose c).cs = s.cs ∧ (s.propose c).ad = s.ad ∧ (s.propose c).lg = s.lg ∧
    (s.propose c).vc = s.vc ∧ (s.propose c).gd = s.gd ∧ (s.propose c).sl = s.sl ∧ (s.propose c).br = s.br ∧
    (s.propose c).sq = s.sq ∧ (s.propose c).rc = s.rc ∧ (s.propose c).counters = s.counters ∧
    (s.propose c).shadows = s.shadows ∧ (s.propose c).snapTravel = s.snapTravel ∧
    (s.propose c).snapCount = s.snapCount ∧ (s.propose c).pins = s.pins ∧ (s.propose c).lines = s.lines ∧
    (s.propose c).sampled = s.sampled ∧ (s.propose c).inputs = s.inputs ∧ (s.propose c).freeCount = s.freeCount := by
  unfold State.propose
  dsimp only
  simp

@[simp] theorem State.auditSensor_frame (s : State) :
    (s.auditSensor).pending = s.pending ∧ (s.auditSensor).port = s.port ∧ (s.auditSensor).regs = s.regs ∧
    (s.auditSensor).pattern = s.pattern ∧ (s.auditSensor).route = s.route ∧ (s.auditSensor).lp = s.lp ∧
    (s.auditSensor).clk = s.clk ∧ (s.auditSensor).cs = s.cs ∧ (s.auditSensor).ad = s.ad ∧
    (s.auditSensor).lg = s.lg ∧ (s.auditSensor).vc = s.vc ∧ (s.auditSensor).gd = s.gd ∧ (s.auditSensor).sl = s.sl ∧
    (s.auditSensor).br = s.br ∧ (s.auditSensor).sq = s.sq ∧ (s.auditSensor).rc = s.rc ∧
    (s.auditSensor).counters = s.counters ∧ (s.auditSensor).shadows = s.shadows ∧
    (s.auditSensor).snapTravel = s.snapTravel ∧ (s.auditSensor).snapCount = s.snapCount ∧
    (s.auditSensor).pins = s.pins ∧ (s.auditSensor).lines = s.lines ∧ (s.auditSensor).sampled = s.sampled ∧
    (s.auditSensor).inputs = s.inputs ∧ (s.auditSensor).freeCount = s.freeCount := by
  unfold State.auditSensor
  dsimp only
  simp

@[simp] theorem State.takeSense_frame (s : State) :
    (s.takeSense).pending = s.pending ∧ (s.takeSense).port = s.port ∧ (s.takeSense).regs = s.regs ∧
    (s.takeSense).pattern = s.pattern ∧ (s.takeSense).route = s.route ∧ (s.takeSense).lp = s.lp ∧
    (s.takeSense).clk = s.clk ∧ (s.takeSense).candidates = s.candidates ∧ (s.takeSense).ad = s.ad ∧
    (s.takeSense).lg = s.lg ∧ (s.takeSense).vc = s.vc ∧ (s.takeSense).gd = s.gd ∧ (s.takeSense).sl = s.sl ∧
    (s.takeSense).br = s.br ∧ (s.takeSense).sq = s.sq ∧ (s.takeSense).rc = s.rc ∧
    (s.takeSense).shadows = s.shadows ∧ (s.takeSense).snapTravel = s.snapTravel ∧
    (s.takeSense).snapCount = s.snapCount ∧ (s.takeSense).pins = s.pins ∧ (s.takeSense).lines = s.lines ∧
    (s.takeSense).sampled = s.sampled ∧ (s.takeSense).inputs = s.inputs ∧ (s.takeSense).freeCount = s.freeCount := by
  unfold State.takeSense
  dsimp only
  (repeat' split) <;> simp

@[simp] theorem State.bracketAtIntake_frame (s : State) (window : Travel) :
    (s.bracketAtIntake window).pending = s.pending ∧ (s.bracketAtIntake window).port = s.port ∧
    (s.bracketAtIntake window).regs = s.regs ∧ (s.bracketAtIntake window).pattern = s.pattern ∧
    (s.bracketAtIntake window).route = s.route ∧ (s.bracketAtIntake window).lp = s.lp ∧
    (s.bracketAtIntake window).clk = s.clk ∧ (s.bracketAtIntake window).candidates = s.candidates ∧
    (s.bracketAtIntake window).ad = s.ad ∧ (s.bracketAtIntake window).lg = s.lg ∧
    (s.bracketAtIntake window).vc = s.vc ∧ (s.bracketAtIntake window).gd = s.gd ∧
    (s.bracketAtIntake window).sl = s.sl ∧ (s.bracketAtIntake window).br = s.br ∧
    (s.bracketAtIntake window).sq = s.sq ∧ (s.bracketAtIntake window).rc = s.rc ∧
    (s.bracketAtIntake window).shadows = s.shadows ∧ (s.bracketAtIntake window).snapTravel = s.snapTravel ∧
    (s.bracketAtIntake window).snapCount = s.snapCount ∧ (s.bracketAtIntake window).pins = s.pins ∧
    (s.bracketAtIntake window).lines = s.lines ∧ (s.bracketAtIntake window).sampled = s.sampled ∧
    (s.bracketAtIntake window).inputs = s.inputs ∧ (s.bracketAtIntake window).freeCount = s.freeCount := by
  unfold State.bracketAtIntake
  dsimp only
  (repeat' split) <;> simp

@[simp] theorem State.placeEntry_frame (s : State) (e : RingEntry) :
    (s.placeEntry e).pending = s.pending ∧ (s.placeEntry e).port = s.port ∧ (s.placeEntry e).regs = s.regs ∧
    (s.placeEntry e).pattern = s.pattern ∧ (s.placeEntry e).route = s.route ∧ (s.placeEntry e).lp = s.lp ∧
    (s.placeEntry e).clk = s.clk ∧ (s.placeEntry e).candidates = s.candidates ∧ (s.placeEntry e).ad = s.ad ∧
    (s.placeEntry e).lg = s.lg ∧ (s.placeEntry e).vc = s.vc ∧ (s.placeEntry e).gd = s.gd ∧
    (s.placeEntry e).sl = s.sl ∧ (s.placeEntry e).br = s.br ∧ (s.placeEntry e).sq = s.sq ∧
    (s.placeEntry e).rc = s.rc ∧ (s.placeEntry e).shadows = s.shadows ∧
    (s.placeEntry e).snapTravel = s.snapTravel ∧ (s.placeEntry e).snapCount = s.snapCount ∧
    (s.placeEntry e).pins = s.pins ∧ (s.placeEntry e).lines = s.lines ∧ (s.placeEntry e).sampled = s.sampled ∧
    (s.placeEntry e).inputs = s.inputs ∧ (s.placeEntry e).freeCount = s.freeCount := by
  unfold State.placeEntry
  dsimp only
  (repeat' split) <;> simp

@[simp] theorem State.intake_frame (s : State) :
    (s.intake).pending = s.pending ∧ (s.intake).port = s.port ∧ (s.intake).regs = s.regs ∧
    (s.intake).pattern = s.pattern ∧ (s.intake).route = s.route ∧ (s.intake).lp = s.lp ∧ (s.intake).clk = s.clk ∧
    (s.intake).candidates = s.candidates ∧ (s.intake).ad = s.ad ∧ (s.intake).lg = s.lg ∧ (s.intake).vc = s.vc ∧
    (s.intake).gd = s.gd ∧ (s.intake).sl = s.sl ∧ (s.intake).br = s.br ∧ (s.intake).sq = s.sq ∧
    (s.intake).shadows = s.shadows ∧ (s.intake).snapTravel = s.snapTravel ∧ (s.intake).snapCount = s.snapCount ∧
    (s.intake).pins = s.pins ∧ (s.intake).lines = s.lines ∧ (s.intake).sampled = s.sampled ∧
    (s.intake).inputs = s.inputs ∧ (s.intake).freeCount = s.freeCount := by
  unfold State.intake
  dsimp only
  (repeat' split) <;> simp

@[simp] theorem State.stepThree_frame (s : State) :
    (s.stepThree).pending = s.pending ∧ (s.stepThree).port = s.port ∧ (s.stepThree).regs = s.regs ∧
    (s.stepThree).pattern = s.pattern ∧ (s.stepThree).route = s.route ∧ (s.stepThree).lp = s.lp ∧
    (s.stepThree).clk = s.clk ∧ (s.stepThree).candidates = s.candidates ∧ (s.stepThree).ad = s.ad ∧
    (s.stepThree).lg = s.lg ∧ (s.stepThree).vc = s.vc ∧ (s.stepThree).gd = s.gd ∧ (s.stepThree).sl = s.sl ∧
    (s.stepThree).br = s.br ∧ (s.stepThree).sq = s.sq ∧ (s.stepThree).shadows = s.shadows ∧
    (s.stepThree).snapTravel = s.snapTravel ∧ (s.stepThree).snapCount = s.snapCount ∧ (s.stepThree).pins = s.pins ∧
    (s.stepThree).lines = s.lines ∧ (s.stepThree).sampled = s.sampled ∧ (s.stepThree).inputs = s.inputs ∧
    (s.stepThree).freeCount = s.freeCount := by
  unfold State.stepThree
  dsimp only
  (repeat' split) <;> simp

@[simp] theorem State.ringProposal_frame (s : State) :
    (s.ringProposal).pending = s.pending ∧ (s.ringProposal).port = s.port ∧ (s.ringProposal).regs = s.regs ∧
    (s.ringProposal).pattern = s.pattern ∧ (s.ringProposal).route = s.route ∧ (s.ringProposal).lp = s.lp ∧
    (s.ringProposal).clk = s.clk ∧ (s.ringProposal).ad = s.ad ∧ (s.ringProposal).lg = s.lg ∧
    (s.ringProposal).vc = s.vc ∧ (s.ringProposal).gd = s.gd ∧ (s.ringProposal).sl = s.sl ∧
    (s.ringProposal).br = s.br ∧ (s.ringProposal).sq = s.sq ∧ (s.ringProposal).rc = s.rc ∧
    (s.ringProposal).shadows = s.shadows ∧ (s.ringProposal).snapTravel = s.snapTravel ∧
    (s.ringProposal).snapCount = s.snapCount ∧ (s.ringProposal).pins = s.pins ∧ (s.ringProposal).lines = s.lines ∧
    (s.ringProposal).sampled = s.sampled ∧ (s.ringProposal).inputs = s.inputs ∧
    (s.ringProposal).freeCount = s.freeCount := by
  unfold State.ringProposal
  dsimp only
  (repeat' split) <;> simp

@[simp] theorem State.bracketPropose_frame (s : State) :
    (s.bracketPropose).pending = s.pending ∧ (s.bracketPropose).port = s.port ∧ (s.bracketPropose).regs = s.regs ∧
    (s.bracketPropose).pattern = s.pattern ∧ (s.bracketPropose).route = s.route ∧ (s.bracketPropose).lp = s.lp ∧
    (s.bracketPropose).clk = s.clk ∧ (s.bracketPropose).ad = s.ad ∧ (s.bracketPropose).lg = s.lg ∧
    (s.bracketPropose).vc = s.vc ∧ (s.bracketPropose).gd = s.gd ∧ (s.bracketPropose).sl = s.sl ∧
    (s.bracketPropose).br = s.br ∧ (s.bracketPropose).sq = s.sq ∧ (s.bracketPropose).rc = s.rc ∧
    (s.bracketPropose).counters = s.counters ∧ (s.bracketPropose).shadows = s.shadows ∧
    (s.bracketPropose).snapTravel = s.snapTravel ∧ (s.bracketPropose).snapCount = s.snapCount ∧
    (s.bracketPropose).pins = s.pins ∧ (s.bracketPropose).lines = s.lines ∧
    (s.bracketPropose).sampled = s.sampled ∧ (s.bracketPropose).inputs = s.inputs ∧
    (s.bracketPropose).freeCount = s.freeCount := by
  unfold State.bracketPropose
  dsimp only
  (repeat' split) <;> simp

@[simp] theorem State.bracketStartOne_frame (s : State) :
    (s.bracketStartOne).pending = s.pending ∧ (s.bracketStartOne).port = s.port ∧
    (s.bracketStartOne).regs = s.regs ∧ (s.bracketStartOne).pattern = s.pattern ∧
    (s.bracketStartOne).route = s.route ∧ (s.bracketStartOne).lp = s.lp ∧ (s.bracketStartOne).clk = s.clk ∧
    (s.bracketStartOne).ad = s.ad ∧ (s.bracketStartOne).lg = s.lg ∧ (s.bracketStartOne).vc = s.vc ∧
    (s.bracketStartOne).gd = s.gd ∧ (s.bracketStartOne).sl = s.sl ∧ (s.bracketStartOne).br = s.br ∧
    (s.bracketStartOne).sq = s.sq ∧ (s.bracketStartOne).rc = s.rc ∧ (s.bracketStartOne).shadows = s.shadows ∧
    (s.bracketStartOne).snapTravel = s.snapTravel ∧ (s.bracketStartOne).snapCount = s.snapCount ∧
    (s.bracketStartOne).pins = s.pins ∧ (s.bracketStartOne).lines = s.lines ∧
    (s.bracketStartOne).sampled = s.sampled ∧ (s.bracketStartOne).inputs = s.inputs ∧
    (s.bracketStartOne).freeCount = s.freeCount := by
  unfold State.bracketStartOne
  dsimp only
  (repeat' split) <;> simp

@[simp] theorem bracketStartAll_frame (n : Nat) (s : State) :
    (iterate State.bracketStartOne n s).pending = s.pending ∧ (iterate State.bracketStartOne n s).port = s.port ∧
    (iterate State.bracketStartOne n s).regs = s.regs ∧ (iterate State.bracketStartOne n s).pattern = s.pattern ∧
    (iterate State.bracketStartOne n s).route = s.route ∧ (iterate State.bracketStartOne n s).lp = s.lp ∧
    (iterate State.bracketStartOne n s).clk = s.clk ∧ (iterate State.bracketStartOne n s).ad = s.ad ∧
    (iterate State.bracketStartOne n s).lg = s.lg ∧ (iterate State.bracketStartOne n s).vc = s.vc ∧
    (iterate State.bracketStartOne n s).gd = s.gd ∧ (iterate State.bracketStartOne n s).sl = s.sl ∧
    (iterate State.bracketStartOne n s).br = s.br ∧ (iterate State.bracketStartOne n s).sq = s.sq ∧
    (iterate State.bracketStartOne n s).rc = s.rc ∧ (iterate State.bracketStartOne n s).shadows = s.shadows ∧
    (iterate State.bracketStartOne n s).snapTravel = s.snapTravel ∧
    (iterate State.bracketStartOne n s).snapCount = s.snapCount ∧
    (iterate State.bracketStartOne n s).pins = s.pins ∧ (iterate State.bracketStartOne n s).lines = s.lines ∧
    (iterate State.bracketStartOne n s).sampled = s.sampled ∧
    (iterate State.bracketStartOne n s).inputs = s.inputs ∧
    (iterate State.bracketStartOne n s).freeCount = s.freeCount := by
  induction n generalizing s with
  | zero => simp [iterate]
  | succ n ih => simp [iterate, ih]

@[simp] theorem State.bracketStarts_frame (s : State) :
    (s.bracketStarts).pending = s.pending ∧ (s.bracketStarts).port = s.port ∧ (s.bracketStarts).regs = s.regs ∧
    (s.bracketStarts).pattern = s.pattern ∧ (s.bracketStarts).route = s.route ∧ (s.bracketStarts).lp = s.lp ∧
    (s.bracketStarts).clk = s.clk ∧ (s.bracketStarts).ad = s.ad ∧ (s.bracketStarts).lg = s.lg ∧
    (s.bracketStarts).vc = s.vc ∧ (s.bracketStarts).gd = s.gd ∧ (s.bracketStarts).sl = s.sl ∧
    (s.bracketStarts).br = s.br ∧ (s.bracketStarts).sq = s.sq ∧ (s.bracketStarts).rc = s.rc ∧
    (s.bracketStarts).shadows = s.shadows ∧ (s.bracketStarts).snapTravel = s.snapTravel ∧
    (s.bracketStarts).snapCount = s.snapCount ∧ (s.bracketStarts).pins = s.pins ∧
    (s.bracketStarts).lines = s.lines ∧ (s.bracketStarts).sampled = s.sampled ∧
    (s.bracketStarts).inputs = s.inputs ∧ (s.bracketStarts).freeCount = s.freeCount := by
  unfold State.bracketStarts
  simp

@[simp] theorem State.perTest_frame (s : State) (g : PerGen) :
    (s.perTest g).pending = s.pending ∧ (s.perTest g).port = s.port ∧ (s.perTest g).regs = s.regs ∧
    (s.perTest g).pattern = s.pattern ∧ (s.perTest g).route = s.route ∧ (s.perTest g).lp = s.lp ∧
    (s.perTest g).clk = s.clk ∧ (s.perTest g).candidates = s.candidates ∧ (s.perTest g).ad = s.ad ∧
    (s.perTest g).lg = s.lg ∧ (s.perTest g).vc = s.vc ∧ (s.perTest g).gd = s.gd ∧ (s.perTest g).sl = s.sl ∧
    (s.perTest g).br = s.br ∧ (s.perTest g).sq = s.sq ∧ (s.perTest g).rc = s.rc ∧
    (s.perTest g).shadows = s.shadows ∧ (s.perTest g).snapTravel = s.snapTravel ∧
    (s.perTest g).snapCount = s.snapCount ∧ (s.perTest g).pins = s.pins ∧ (s.perTest g).lines = s.lines ∧
    (s.perTest g).sampled = s.sampled ∧ (s.perTest g).inputs = s.inputs ∧ (s.perTest g).freeCount = s.freeCount := by
  unfold State.perTest
  (repeat' split) <;> simp

@[simp] theorem State.perPropose_frame (s : State) (g : PerGen) :
    (s.perPropose g).pending = s.pending ∧ (s.perPropose g).port = s.port ∧ (s.perPropose g).regs = s.regs ∧
    (s.perPropose g).pattern = s.pattern ∧ (s.perPropose g).route = s.route ∧ (s.perPropose g).lp = s.lp ∧
    (s.perPropose g).clk = s.clk ∧ (s.perPropose g).ad = s.ad ∧ (s.perPropose g).lg = s.lg ∧
    (s.perPropose g).vc = s.vc ∧ (s.perPropose g).gd = s.gd ∧ (s.perPropose g).sl = s.sl ∧
    (s.perPropose g).br = s.br ∧ (s.perPropose g).sq = s.sq ∧ (s.perPropose g).rc = s.rc ∧
    (s.perPropose g).counters = s.counters ∧ (s.perPropose g).shadows = s.shadows ∧
    (s.perPropose g).snapTravel = s.snapTravel ∧ (s.perPropose g).snapCount = s.snapCount ∧
    (s.perPropose g).pins = s.pins ∧ (s.perPropose g).lines = s.lines ∧ (s.perPropose g).sampled = s.sampled ∧
    (s.perPropose g).inputs = s.inputs ∧ (s.perPropose g).freeCount = s.freeCount := by
  unfold State.perPropose
  (repeat' split) <;> simp

@[simp] theorem State.refTest_frame (s : State) (g : RefGen) :
    (s.refTest g).pending = s.pending ∧ (s.refTest g).port = s.port ∧ (s.refTest g).regs = s.regs ∧
    (s.refTest g).pattern = s.pattern ∧ (s.refTest g).route = s.route ∧ (s.refTest g).lp = s.lp ∧
    (s.refTest g).clk = s.clk ∧ (s.refTest g).candidates = s.candidates ∧ (s.refTest g).ad = s.ad ∧
    (s.refTest g).lg = s.lg ∧ (s.refTest g).vc = s.vc ∧ (s.refTest g).gd = s.gd ∧ (s.refTest g).br = s.br ∧
    (s.refTest g).sq = s.sq ∧ (s.refTest g).rc = s.rc ∧ (s.refTest g).shadows = s.shadows ∧
    (s.refTest g).snapTravel = s.snapTravel ∧ (s.refTest g).snapCount = s.snapCount ∧ (s.refTest g).pins = s.pins ∧
    (s.refTest g).lines = s.lines ∧ (s.refTest g).sampled = s.sampled ∧ (s.refTest g).inputs = s.inputs ∧
    (s.refTest g).freeCount = s.freeCount := by
  unfold State.refTest
  dsimp only
  (repeat' split) <;> simp

@[simp] theorem State.refMark_frame (s : State) (g : RefGen) :
    (s.refMark g).pending = s.pending ∧ (s.refMark g).port = s.port ∧ (s.refMark g).regs = s.regs ∧
    (s.refMark g).pattern = s.pattern ∧ (s.refMark g).route = s.route ∧ (s.refMark g).lp = s.lp ∧
    (s.refMark g).clk = s.clk ∧ (s.refMark g).candidates = s.candidates ∧ (s.refMark g).ad = s.ad ∧
    (s.refMark g).lg = s.lg ∧ (s.refMark g).vc = s.vc ∧ (s.refMark g).gd = s.gd ∧ (s.refMark g).sl = s.sl ∧
    (s.refMark g).br = s.br ∧ (s.refMark g).sq = s.sq ∧ (s.refMark g).rc = s.rc ∧
    (s.refMark g).counters = s.counters ∧ (s.refMark g).shadows = s.shadows ∧
    (s.refMark g).snapTravel = s.snapTravel ∧ (s.refMark g).snapCount = s.snapCount ∧ (s.refMark g).pins = s.pins ∧
    (s.refMark g).lines = s.lines ∧ (s.refMark g).sampled = s.sampled ∧ (s.refMark g).inputs = s.inputs ∧
    (s.refMark g).freeCount = s.freeCount := by
  unfold State.refMark
  dsimp only
  (repeat' split) <;> simp

@[simp] theorem State.refPropose_frame (s : State) (g : RefGen) :
    (s.refPropose g).pending = s.pending ∧ (s.refPropose g).port = s.port ∧ (s.refPropose g).regs = s.regs ∧
    (s.refPropose g).pattern = s.pattern ∧ (s.refPropose g).route = s.route ∧ (s.refPropose g).lp = s.lp ∧
    (s.refPropose g).clk = s.clk ∧ (s.refPropose g).ad = s.ad ∧ (s.refPropose g).lg = s.lg ∧
    (s.refPropose g).vc = s.vc ∧ (s.refPropose g).gd = s.gd ∧ (s.refPropose g).sl = s.sl ∧
    (s.refPropose g).br = s.br ∧ (s.refPropose g).sq = s.sq ∧ (s.refPropose g).rc = s.rc ∧
    (s.refPropose g).counters = s.counters ∧ (s.refPropose g).shadows = s.shadows ∧
    (s.refPropose g).snapTravel = s.snapTravel ∧ (s.refPropose g).snapCount = s.snapCount ∧
    (s.refPropose g).pins = s.pins ∧ (s.refPropose g).lines = s.lines ∧ (s.refPropose g).sampled = s.sampled ∧
    (s.refPropose g).inputs = s.inputs ∧ (s.refPropose g).freeCount = s.freeCount := by
  unfold State.refPropose
  (repeat' split) <;> simp

@[simp] theorem State.refStep_frame (s : State) (start : Bool) (g : RefGen) :
    (s.refStep start g).pending = s.pending ∧ (s.refStep start g).port = s.port ∧
    (s.refStep start g).regs = s.regs ∧ (s.refStep start g).pattern = s.pattern ∧
    (s.refStep start g).route = s.route ∧ (s.refStep start g).lp = s.lp ∧ (s.refStep start g).clk = s.clk ∧
    (s.refStep start g).ad = s.ad ∧ (s.refStep start g).lg = s.lg ∧ (s.refStep start g).vc = s.vc ∧
    (s.refStep start g).gd = s.gd ∧ (s.refStep start g).br = s.br ∧ (s.refStep start g).sq = s.sq ∧
    (s.refStep start g).rc = s.rc ∧ (s.refStep start g).shadows = s.shadows ∧
    (s.refStep start g).snapTravel = s.snapTravel ∧ (s.refStep start g).snapCount = s.snapCount ∧
    (s.refStep start g).pins = s.pins ∧ (s.refStep start g).lines = s.lines ∧
    (s.refStep start g).sampled = s.sampled ∧ (s.refStep start g).inputs = s.inputs := by
  unfold State.refStep
  dsimp only
  (repeat' split) <;> simp

@[simp] theorem State.refCancel_frame (s : State) (g : RefGen) :
    (s.refCancel g).pending = s.pending ∧ (s.refCancel g).port = s.port ∧ (s.refCancel g).regs = s.regs ∧
    (s.refCancel g).pattern = s.pattern ∧ (s.refCancel g).route = s.route ∧ (s.refCancel g).lp = s.lp ∧
    (s.refCancel g).clk = s.clk ∧ (s.refCancel g).candidates = s.candidates ∧ (s.refCancel g).ad = s.ad ∧
    (s.refCancel g).lg = s.lg ∧ (s.refCancel g).vc = s.vc ∧ (s.refCancel g).gd = s.gd ∧ (s.refCancel g).sl = s.sl ∧
    (s.refCancel g).br = s.br ∧ (s.refCancel g).sq = s.sq ∧ (s.refCancel g).rc = s.rc ∧
    (s.refCancel g).shadows = s.shadows ∧ (s.refCancel g).snapTravel = s.snapTravel ∧
    (s.refCancel g).snapCount = s.snapCount ∧ (s.refCancel g).pins = s.pins ∧ (s.refCancel g).lines = s.lines ∧
    (s.refCancel g).sampled = s.sampled ∧ (s.refCancel g).inputs = s.inputs ∧
    (s.refCancel g).freeCount = s.freeCount := by
  unfold State.refCancel
  simp

@[simp] theorem State.refWithdraw_frame (s : State) (g : RefGen) :
    (s.refWithdraw g).pending = s.pending ∧ (s.refWithdraw g).port = s.port ∧ (s.refWithdraw g).regs = s.regs ∧
    (s.refWithdraw g).pattern = s.pattern ∧ (s.refWithdraw g).route = s.route ∧ (s.refWithdraw g).lp = s.lp ∧
    (s.refWithdraw g).clk = s.clk ∧ (s.refWithdraw g).candidates = s.candidates ∧ (s.refWithdraw g).ad = s.ad ∧
    (s.refWithdraw g).lg = s.lg ∧ (s.refWithdraw g).vc = s.vc ∧ (s.refWithdraw g).gd = s.gd ∧
    (s.refWithdraw g).br = s.br ∧ (s.refWithdraw g).sq = s.sq ∧ (s.refWithdraw g).rc = s.rc ∧
    (s.refWithdraw g).shadows = s.shadows ∧ (s.refWithdraw g).snapTravel = s.snapTravel ∧
    (s.refWithdraw g).snapCount = s.snapCount ∧ (s.refWithdraw g).pins = s.pins ∧
    (s.refWithdraw g).lines = s.lines ∧ (s.refWithdraw g).sampled = s.sampled ∧
    (s.refWithdraw g).inputs = s.inputs ∧ (s.refWithdraw g).freeCount = s.freeCount := by
  unfold State.refWithdraw
  dsimp only
  (repeat' split) <;> simp

@[simp] theorem State.refOnSequence_frame (s : State) (g : RefGen) :
    (s.refOnSequence g).pending = s.pending ∧ (s.refOnSequence g).port = s.port ∧
    (s.refOnSequence g).regs = s.regs ∧ (s.refOnSequence g).pattern = s.pattern ∧
    (s.refOnSequence g).route = s.route ∧ (s.refOnSequence g).lp = s.lp ∧ (s.refOnSequence g).clk = s.clk ∧
    (s.refOnSequence g).candidates = s.candidates ∧ (s.refOnSequence g).ad = s.ad ∧ (s.refOnSequence g).lg = s.lg ∧
    (s.refOnSequence g).vc = s.vc ∧ (s.refOnSequence g).gd = s.gd ∧ (s.refOnSequence g).br = s.br ∧
    (s.refOnSequence g).sq = s.sq ∧ (s.refOnSequence g).rc = s.rc ∧ (s.refOnSequence g).shadows = s.shadows ∧
    (s.refOnSequence g).snapTravel = s.snapTravel ∧ (s.refOnSequence g).snapCount = s.snapCount ∧
    (s.refOnSequence g).pins = s.pins ∧ (s.refOnSequence g).lines = s.lines ∧
    (s.refOnSequence g).sampled = s.sampled ∧ (s.refOnSequence g).inputs = s.inputs ∧
    (s.refOnSequence g).freeCount = s.freeCount := by
  unfold State.refOnSequence
  (repeat' split) <;> simp

@[simp] theorem State.refOnAbort_frame (s : State) (g : RefGen) :
    (s.refOnAbort g).pending = s.pending ∧ (s.refOnAbort g).port = s.port ∧ (s.refOnAbort g).regs = s.regs ∧
    (s.refOnAbort g).pattern = s.pattern ∧ (s.refOnAbort g).route = s.route ∧ (s.refOnAbort g).lp = s.lp ∧
    (s.refOnAbort g).clk = s.clk ∧ (s.refOnAbort g).candidates = s.candidates ∧ (s.refOnAbort g).ad = s.ad ∧
    (s.refOnAbort g).lg = s.lg ∧ (s.refOnAbort g).vc = s.vc ∧ (s.refOnAbort g).gd = s.gd ∧
    (s.refOnAbort g).sl = s.sl ∧ (s.refOnAbort g).br = s.br ∧ (s.refOnAbort g).sq = s.sq ∧
    (s.refOnAbort g).rc = s.rc ∧ (s.refOnAbort g).shadows = s.shadows ∧
    (s.refOnAbort g).snapTravel = s.snapTravel ∧ (s.refOnAbort g).snapCount = s.snapCount ∧
    (s.refOnAbort g).pins = s.pins ∧ (s.refOnAbort g).lines = s.lines ∧ (s.refOnAbort g).sampled = s.sampled ∧
    (s.refOnAbort g).inputs = s.inputs ∧ (s.refOnAbort g).freeCount = s.freeCount := by
  unfold State.refOnAbort
  (repeat' split) <;> simp

@[simp] theorem State.patternStep_frame (s : State) :
    (s.patternStep).pending = s.pending ∧ (s.patternStep).port = s.port ∧ (s.patternStep).regs = s.regs ∧
    (s.patternStep).pattern = s.pattern ∧ (s.patternStep).route = s.route ∧ (s.patternStep).lp = s.lp ∧
    (s.patternStep).clk = s.clk ∧ (s.patternStep).cs = s.cs ∧ (s.patternStep).ad = s.ad ∧
    (s.patternStep).lg = s.lg ∧ (s.patternStep).vc = s.vc ∧ (s.patternStep).gd = s.gd ∧ (s.patternStep).sl = s.sl ∧
    (s.patternStep).br = s.br ∧ (s.patternStep).sq = s.sq ∧ (s.patternStep).rc = s.rc ∧
    (s.patternStep).counters = s.counters ∧ (s.patternStep).shadows = s.shadows ∧
    (s.patternStep).snapTravel = s.snapTravel ∧ (s.patternStep).snapCount = s.snapCount ∧
    (s.patternStep).pins = s.pins ∧ (s.patternStep).lines = s.lines ∧ (s.patternStep).sampled = s.sampled ∧
    (s.patternStep).inputs = s.inputs ∧ (s.patternStep).freeCount = s.freeCount := by
  unfold State.patternStep
  dsimp only
  (repeat' split) <;> simp

@[simp] theorem State.randomStep_frame (s : State) :
    (s.randomStep).pending = s.pending ∧ (s.randomStep).port = s.port ∧ (s.randomStep).regs = s.regs ∧
    (s.randomStep).pattern = s.pattern ∧ (s.randomStep).route = s.route ∧ (s.randomStep).lp = s.lp ∧
    (s.randomStep).clk = s.clk ∧ (s.randomStep).ad = s.ad ∧ (s.randomStep).lg = s.lg ∧ (s.randomStep).vc = s.vc ∧
    (s.randomStep).gd = s.gd ∧ (s.randomStep).sl = s.sl ∧ (s.randomStep).br = s.br ∧ (s.randomStep).sq = s.sq ∧
    (s.randomStep).rc = s.rc ∧ (s.randomStep).counters = s.counters ∧ (s.randomStep).shadows = s.shadows ∧
    (s.randomStep).snapTravel = s.snapTravel ∧ (s.randomStep).snapCount = s.snapCount ∧
    (s.randomStep).pins = s.pins ∧ (s.randomStep).lines = s.lines ∧ (s.randomStep).sampled = s.sampled ∧
    (s.randomStep).inputs = s.inputs ∧ (s.randomStep).freeCount = s.freeCount := by
  unfold State.randomStep
  dsimp only
  (repeat' split) <;> simp

@[simp] theorem State.hostStep_frame (s : State) :
    (s.hostStep).pending = s.pending ∧ (s.hostStep).port = s.port ∧ (s.hostStep).regs = s.regs ∧
    (s.hostStep).pattern = s.pattern ∧ (s.hostStep).route = s.route ∧ (s.hostStep).lp = s.lp ∧
    (s.hostStep).clk = s.clk ∧ (s.hostStep).ad = s.ad ∧ (s.hostStep).lg = s.lg ∧ (s.hostStep).vc = s.vc ∧
    (s.hostStep).gd = s.gd ∧ (s.hostStep).sl = s.sl ∧ (s.hostStep).br = s.br ∧ (s.hostStep).sq = s.sq ∧
    (s.hostStep).rc = s.rc ∧ (s.hostStep).counters = s.counters ∧ (s.hostStep).shadows = s.shadows ∧
    (s.hostStep).snapTravel = s.snapTravel ∧ (s.hostStep).snapCount = s.snapCount ∧ (s.hostStep).pins = s.pins ∧
    (s.hostStep).lines = s.lines ∧ (s.hostStep).sampled = s.sampled ∧ (s.hostStep).inputs = s.inputs ∧
    (s.hostStep).freeCount = s.freeCount := by
  unfold State.hostStep
  dsimp only
  (repeat' split) <;> simp

@[simp] theorem State.stepSix_frame (s : State) (start : Bool) :
    (s.stepSix start).pending = s.pending ∧ (s.stepSix start).port = s.port ∧ (s.stepSix start).regs = s.regs ∧
    (s.stepSix start).pattern = s.pattern ∧ (s.stepSix start).route = s.route ∧ (s.stepSix start).lp = s.lp ∧
    (s.stepSix start).clk = s.clk ∧ (s.stepSix start).ad = s.ad ∧ (s.stepSix start).lg = s.lg ∧
    (s.stepSix start).vc = s.vc ∧ (s.stepSix start).gd = s.gd ∧ (s.stepSix start).br = s.br ∧
    (s.stepSix start).sq = s.sq ∧ (s.stepSix start).rc = s.rc ∧ (s.stepSix start).shadows = s.shadows ∧
    (s.stepSix start).snapTravel = s.snapTravel ∧ (s.stepSix start).snapCount = s.snapCount ∧
    (s.stepSix start).pins = s.pins ∧ (s.stepSix start).lines = s.lines ∧ (s.stepSix start).sampled = s.sampled ∧
    (s.stepSix start).inputs = s.inputs := by
  unfold State.stepSix
  dsimp only
  simp

end Sys2Proof.Machine
end

