-- ==== Sys2Proof/Laws/Frame3.lean ====
section
/-! SUPPORT. What the gate, admission, the sequences and the position event leave alone: one lemma for each, a conjunction over the fields of State. -/

namespace Sys2Proof.Machine

@[simp] theorem State.pushTag_frame (s : State) (m : List Byte) :
    (s.pushTag m).pending = s.pending ∧ (s.pushTag m).port = s.port ∧ (s.pushTag m).regs = s.regs ∧
    (s.pushTag m).pattern = s.pattern ∧ (s.pushTag m).route = s.route ∧ (s.pushTag m).lp = s.lp ∧
    (s.pushTag m).clk = s.clk ∧ (s.pushTag m).cs = s.cs ∧ (s.pushTag m).candidates = s.candidates ∧
    (s.pushTag m).ad = s.ad ∧ (s.pushTag m).lg = s.lg ∧ (s.pushTag m).vc = s.vc ∧ (s.pushTag m).gd = s.gd ∧
    (s.pushTag m).br = s.br ∧ (s.pushTag m).sq = s.sq ∧ (s.pushTag m).shadows = s.shadows ∧
    (s.pushTag m).snapTravel = s.snapTravel ∧ (s.pushTag m).snapCount = s.snapCount ∧ (s.pushTag m).pins = s.pins ∧
    (s.pushTag m).lines = s.lines ∧ (s.pushTag m).sampled = s.sampled ∧ (s.pushTag m).inputs = s.inputs ∧
    (s.pushTag m).freeCount = s.freeCount := by
  unfold State.pushTag
  dsimp only
  (repeat' split) <;> simp

@[simp] theorem State.pushNotice_frame (s : State) (m : List Byte) :
    (s.pushNotice m).pending = s.pending ∧ (s.pushNotice m).port = s.port ∧ (s.pushNotice m).regs = s.regs ∧
    (s.pushNotice m).pattern = s.pattern ∧ (s.pushNotice m).route = s.route ∧ (s.pushNotice m).lp = s.lp ∧
    (s.pushNotice m).clk = s.clk ∧ (s.pushNotice m).cs = s.cs ∧ (s.pushNotice m).candidates = s.candidates ∧
    (s.pushNotice m).ad = s.ad ∧ (s.pushNotice m).lg = s.lg ∧ (s.pushNotice m).vc = s.vc ∧
    (s.pushNotice m).gd = s.gd ∧ (s.pushNotice m).br = s.br ∧ (s.pushNotice m).sq = s.sq ∧
    (s.pushNotice m).rc = s.rc ∧ (s.pushNotice m).shadows = s.shadows ∧
    (s.pushNotice m).snapTravel = s.snapTravel ∧ (s.pushNotice m).snapCount = s.snapCount ∧
    (s.pushNotice m).pins = s.pins ∧ (s.pushNotice m).lines = s.lines ∧ (s.pushNotice m).sampled = s.sampled ∧
    (s.pushNotice m).inputs = s.inputs ∧ (s.pushNotice m).freeCount = s.freeCount := by
  unfold State.pushNotice
  dsimp only
  (repeat' split) <;> simp

@[simp] theorem State.evalAlert_frame (s : State) :
    (s.evalAlert).pending = s.pending ∧ (s.evalAlert).port = s.port ∧ (s.evalAlert).regs = s.regs ∧
    (s.evalAlert).pattern = s.pattern ∧ (s.evalAlert).route = s.route ∧ (s.evalAlert).lp = s.lp ∧
    (s.evalAlert).clk = s.clk ∧ (s.evalAlert).cs = s.cs ∧ (s.evalAlert).candidates = s.candidates ∧
    (s.evalAlert).ad = s.ad ∧ (s.evalAlert).lg = s.lg ∧ (s.evalAlert).vc = s.vc ∧ (s.evalAlert).sl = s.sl ∧
    (s.evalAlert).br = s.br ∧ (s.evalAlert).sq = s.sq ∧ (s.evalAlert).counters = s.counters ∧
    (s.evalAlert).shadows = s.shadows ∧ (s.evalAlert).snapTravel = s.snapTravel ∧
    (s.evalAlert).snapCount = s.snapCount ∧ (s.evalAlert).pins = s.pins ∧ (s.evalAlert).lines = s.lines ∧
    (s.evalAlert).sampled = s.sampled ∧ (s.evalAlert).inputs = s.inputs ∧ (s.evalAlert).freeCount = s.freeCount := by
  unfold State.evalAlert
  dsimp only
  (repeat' split) <;> simp

@[simp] theorem State.appendLog_frame (s : State) (r : LogRecord) :
    (s.appendLog r).pending = s.pending ∧ (s.appendLog r).port = s.port ∧ (s.appendLog r).regs = s.regs ∧
    (s.appendLog r).pattern = s.pattern ∧ (s.appendLog r).route = s.route ∧ (s.appendLog r).lp = s.lp ∧
    (s.appendLog r).clk = s.clk ∧ (s.appendLog r).cs = s.cs ∧ (s.appendLog r).candidates = s.candidates ∧
    (s.appendLog r).ad = s.ad ∧ (s.appendLog r).lg = s.lg ∧ (s.appendLog r).vc = s.vc ∧ (s.appendLog r).sl = s.sl ∧
    (s.appendLog r).br = s.br ∧ (s.appendLog r).sq = s.sq ∧ (s.appendLog r).shadows = s.shadows ∧
    (s.appendLog r).snapTravel = s.snapTravel ∧ (s.appendLog r).snapCount = s.snapCount ∧
    (s.appendLog r).pins = s.pins ∧ (s.appendLog r).lines = s.lines ∧ (s.appendLog r).sampled = s.sampled ∧
    (s.appendLog r).inputs = s.inputs ∧ (s.appendLog r).freeCount = s.freeCount := by
  unfold State.appendLog
  dsimp only
  (repeat' split) <;> simp

@[simp] theorem State.clearLog_frame (s : State) :
    (s.clearLog).pending = s.pending ∧ (s.clearLog).port = s.port ∧ (s.clearLog).regs = s.regs ∧
    (s.clearLog).pattern = s.pattern ∧ (s.clearLog).route = s.route ∧ (s.clearLog).lp = s.lp ∧
    (s.clearLog).clk = s.clk ∧ (s.clearLog).cs = s.cs ∧ (s.clearLog).candidates = s.candidates ∧
    (s.clearLog).ad = s.ad ∧ (s.clearLog).lg = s.lg ∧ (s.clearLog).vc = s.vc ∧ (s.clearLog).sl = s.sl ∧
    (s.clearLog).br = s.br ∧ (s.clearLog).sq = s.sq ∧ (s.clearLog).rc = s.rc ∧ (s.clearLog).counters = s.counters ∧
    (s.clearLog).shadows = s.shadows ∧ (s.clearLog).snapTravel = s.snapTravel ∧
    (s.clearLog).snapCount = s.snapCount ∧ (s.clearLog).pins = s.pins ∧ (s.clearLog).lines = s.lines ∧
    (s.clearLog).sampled = s.sampled ∧ (s.clearLog).inputs = s.inputs ∧ (s.clearLog).freeCount = s.freeCount := by
  refine ⟨rfl, rfl, rfl, rfl, rfl, rfl, rfl, rfl, rfl, rfl, rfl, rfl, rfl, rfl, rfl, rfl, rfl, rfl, rfl, rfl, rfl, rfl, rfl, rfl, rfl⟩

@[simp] theorem State.startPulse_frame (s : State) (o : Disposition) :
    (s.startPulse o).pending = s.pending ∧ (s.startPulse o).port = s.port ∧ (s.startPulse o).regs = s.regs ∧
    (s.startPulse o).pattern = s.pattern ∧ (s.startPulse o).route = s.route ∧ (s.startPulse o).lp = s.lp ∧
    (s.startPulse o).clk = s.clk ∧ (s.startPulse o).cs = s.cs ∧ (s.startPulse o).candidates = s.candidates ∧
    (s.startPulse o).ad = s.ad ∧ (s.startPulse o).lg = s.lg ∧ (s.startPulse o).vc = s.vc ∧
    (s.startPulse o).sl = s.sl ∧ (s.startPulse o).br = s.br ∧ (s.startPulse o).sq = s.sq ∧
    (s.startPulse o).rc = s.rc ∧ (s.startPulse o).shadows = s.shadows ∧
    (s.startPulse o).snapTravel = s.snapTravel ∧ (s.startPulse o).snapCount = s.snapCount ∧
    (s.startPulse o).pins = s.pins ∧ (s.startPulse o).lines = s.lines ∧ (s.startPulse o).sampled = s.sampled ∧
    (s.startPulse o).inputs = s.inputs ∧ (s.startPulse o).freeCount = s.freeCount := by
  unfold State.startPulse
  dsimp only
  (repeat' split) <;> simp

@[simp] theorem State.countPulses_frame (s : State) :
    (s.countPulses).pending = s.pending ∧ (s.countPulses).port = s.port ∧ (s.countPulses).regs = s.regs ∧
    (s.countPulses).pattern = s.pattern ∧ (s.countPulses).route = s.route ∧ (s.countPulses).lp = s.lp ∧
    (s.countPulses).clk = s.clk ∧ (s.countPulses).cs = s.cs ∧ (s.countPulses).candidates = s.candidates ∧
    (s.countPulses).ad = s.ad ∧ (s.countPulses).lg = s.lg ∧ (s.countPulses).vc = s.vc ∧ (s.countPulses).sl = s.sl ∧
    (s.countPulses).br = s.br ∧ (s.countPulses).sq = s.sq ∧ (s.countPulses).rc = s.rc ∧
    (s.countPulses).counters = s.counters ∧ (s.countPulses).shadows = s.shadows ∧
    (s.countPulses).snapTravel = s.snapTravel ∧ (s.countPulses).snapCount = s.snapCount ∧
    (s.countPulses).pins = s.pins ∧ (s.countPulses).lines = s.lines ∧ (s.countPulses).sampled = s.sampled ∧
    (s.countPulses).inputs = s.inputs ∧ (s.countPulses).freeCount = s.freeCount := by
  refine ⟨rfl, rfl, rfl, rfl, rfl, rfl, rfl, rfl, rfl, rfl, rfl, rfl, rfl, rfl, rfl, rfl, rfl, rfl, rfl, rfl, rfl, rfl, rfl, rfl, rfl⟩

@[simp] theorem State.dispatch_frame (s : State) (e : Entry) :
    (s.dispatch e).pending = s.pending ∧ (s.dispatch e).port = s.port ∧ (s.dispatch e).regs = s.regs ∧
    (s.dispatch e).pattern = s.pattern ∧ (s.dispatch e).route = s.route ∧ (s.dispatch e).lp = s.lp ∧
    (s.dispatch e).clk = s.clk ∧ (s.dispatch e).cs = s.cs ∧ (s.dispatch e).candidates = s.candidates ∧
    (s.dispatch e).ad = s.ad ∧ (s.dispatch e).vc = s.vc ∧ (s.dispatch e).br = s.br ∧ (s.dispatch e).sq = s.sq ∧
    (s.dispatch e).shadows = s.shadows ∧ (s.dispatch e).snapTravel = s.snapTravel ∧
    (s.dispatch e).snapCount = s.snapCount ∧ (s.dispatch e).pins = s.pins ∧ (s.dispatch e).lines = s.lines ∧
    (s.dispatch e).sampled = s.sampled ∧ (s.dispatch e).inputs = s.inputs ∧ (s.dispatch e).freeCount = s.freeCount := by
  unfold State.dispatch
  dsimp only
  (repeat' split) <;> simp

@[simp] theorem State.retireOne_frame (s : State) :
    (s.retireOne).pending = s.pending ∧ (s.retireOne).port = s.port ∧ (s.retireOne).regs = s.regs ∧
    (s.retireOne).pattern = s.pattern ∧ (s.retireOne).route = s.route ∧ (s.retireOne).lp = s.lp ∧
    (s.retireOne).clk = s.clk ∧ (s.retireOne).cs = s.cs ∧ (s.retireOne).candidates = s.candidates ∧
    (s.retireOne).ad = s.ad ∧ (s.retireOne).vc = s.vc ∧ (s.retireOne).br = s.br ∧ (s.retireOne).sq = s.sq ∧
    (s.retireOne).shadows = s.shadows ∧ (s.retireOne).snapTravel = s.snapTravel ∧
    (s.retireOne).snapCount = s.snapCount ∧ (s.retireOne).pins = s.pins ∧ (s.retireOne).lines = s.lines ∧
    (s.retireOne).sampled = s.sampled ∧ (s.retireOne).inputs = s.inputs ∧ (s.retireOne).freeCount = s.freeCount := by
  unfold State.retireOne
  dsimp only
  (repeat' split) <;> simp

@[simp] theorem retireAll_frame (n : Nat) (s : State) :
    (iterate State.retireOne n s).pending = s.pending ∧ (iterate State.retireOne n s).port = s.port ∧
    (iterate State.retireOne n s).regs = s.regs ∧ (iterate State.retireOne n s).pattern = s.pattern ∧
    (iterate State.retireOne n s).route = s.route ∧ (iterate State.retireOne n s).lp = s.lp ∧
    (iterate State.retireOne n s).clk = s.clk ∧ (iterate State.retireOne n s).cs = s.cs ∧
    (iterate State.retireOne n s).candidates = s.candidates ∧ (iterate State.retireOne n s).ad = s.ad ∧
    (iterate State.retireOne n s).vc = s.vc ∧ (iterate State.retireOne n s).br = s.br ∧
    (iterate State.retireOne n s).sq = s.sq ∧ (iterate State.retireOne n s).shadows = s.shadows ∧
    (iterate State.retireOne n s).snapTravel = s.snapTravel ∧
    (iterate State.retireOne n s).snapCount = s.snapCount ∧ (iterate State.retireOne n s).pins = s.pins ∧
    (iterate State.retireOne n s).lines = s.lines ∧ (iterate State.retireOne n s).sampled = s.sampled ∧
    (iterate State.retireOne n s).inputs = s.inputs ∧ (iterate State.retireOne n s).freeCount = s.freeCount := by
  induction n generalizing s with
  | zero => simp [iterate]
  | succ n ih => simp [iterate, ih]

@[simp] theorem State.stepFour_frame (s : State) :
    (s.stepFour).pending = s.pending ∧ (s.stepFour).port = s.port ∧ (s.stepFour).regs = s.regs ∧
    (s.stepFour).pattern = s.pattern ∧ (s.stepFour).route = s.route ∧ (s.stepFour).lp = s.lp ∧
    (s.stepFour).clk = s.clk ∧ (s.stepFour).cs = s.cs ∧ (s.stepFour).candidates = s.candidates ∧
    (s.stepFour).ad = s.ad ∧ (s.stepFour).br = s.br ∧ (s.stepFour).sq = s.sq ∧ (s.stepFour).shadows = s.shadows ∧
    (s.stepFour).snapTravel = s.snapTravel ∧ (s.stepFour).snapCount = s.snapCount ∧ (s.stepFour).pins = s.pins ∧
    (s.stepFour).lines = s.lines ∧ (s.stepFour).sampled = s.sampled ∧ (s.stepFour).inputs = s.inputs ∧
    (s.stepFour).freeCount = s.freeCount := by
  unfold State.stepFour
  simp

@[simp] theorem State.abandon_frame (s : State) (e : Entry) :
    (s.abandon e).pending = s.pending ∧ (s.abandon e).port = s.port ∧ (s.abandon e).regs = s.regs ∧
    (s.abandon e).pattern = s.pattern ∧ (s.abandon e).route = s.route ∧ (s.abandon e).lp = s.lp ∧
    (s.abandon e).clk = s.clk ∧ (s.abandon e).cs = s.cs ∧ (s.abandon e).candidates = s.candidates ∧
    (s.abandon e).ad = s.ad ∧ (s.abandon e).lg = s.lg ∧ (s.abandon e).vc = s.vc ∧ (s.abandon e).sl = s.sl ∧
    (s.abandon e).br = s.br ∧ (s.abandon e).sq = s.sq ∧ (s.abandon e).shadows = s.shadows ∧
    (s.abandon e).snapTravel = s.snapTravel ∧ (s.abandon e).snapCount = s.snapCount ∧ (s.abandon e).pins = s.pins ∧
    (s.abandon e).lines = s.lines ∧ (s.abandon e).sampled = s.sampled ∧ (s.abandon e).inputs = s.inputs ∧
    (s.abandon e).freeCount = s.freeCount := by
  unfold State.abandon
  simp

@[simp] theorem abandonEach_frame (l : List Entry) (s : State) :
    (l.foldl State.abandon s).pending = s.pending ∧ (l.foldl State.abandon s).port = s.port ∧
    (l.foldl State.abandon s).regs = s.regs ∧ (l.foldl State.abandon s).pattern = s.pattern ∧
    (l.foldl State.abandon s).route = s.route ∧ (l.foldl State.abandon s).lp = s.lp ∧
    (l.foldl State.abandon s).clk = s.clk ∧ (l.foldl State.abandon s).cs = s.cs ∧
    (l.foldl State.abandon s).candidates = s.candidates ∧ (l.foldl State.abandon s).ad = s.ad ∧
    (l.foldl State.abandon s).lg = s.lg ∧ (l.foldl State.abandon s).vc = s.vc ∧
    (l.foldl State.abandon s).sl = s.sl ∧ (l.foldl State.abandon s).br = s.br ∧
    (l.foldl State.abandon s).sq = s.sq ∧ (l.foldl State.abandon s).shadows = s.shadows ∧
    (l.foldl State.abandon s).snapTravel = s.snapTravel ∧ (l.foldl State.abandon s).snapCount = s.snapCount ∧
    (l.foldl State.abandon s).pins = s.pins ∧ (l.foldl State.abandon s).lines = s.lines ∧
    (l.foldl State.abandon s).sampled = s.sampled ∧ (l.foldl State.abandon s).inputs = s.inputs ∧
    (l.foldl State.abandon s).freeCount = s.freeCount := by
  induction l generalizing s with
  | nil => simp
  | cons x l ih =>
    simp only [List.foldl_cons]
    simp [ih]

@[simp] theorem State.abandonAll_frame (s : State) :
    (s.abandonAll).pending = s.pending ∧ (s.abandonAll).port = s.port ∧ (s.abandonAll).regs = s.regs ∧
    (s.abandonAll).pattern = s.pattern ∧ (s.abandonAll).route = s.route ∧ (s.abandonAll).lp = s.lp ∧
    (s.abandonAll).clk = s.clk ∧ (s.abandonAll).cs = s.cs ∧ (s.abandonAll).candidates = s.candidates ∧
    (s.abandonAll).ad = s.ad ∧ (s.abandonAll).sl = s.sl ∧ (s.abandonAll).br = s.br ∧ (s.abandonAll).sq = s.sq ∧
    (s.abandonAll).shadows = s.shadows ∧ (s.abandonAll).snapTravel = s.snapTravel ∧
    (s.abandonAll).snapCount = s.snapCount ∧ (s.abandonAll).pins = s.pins ∧ (s.abandonAll).lines = s.lines ∧
    (s.abandonAll).sampled = s.sampled ∧ (s.abandonAll).inputs = s.inputs ∧ (s.abandonAll).freeCount = s.freeCount := by
  unfold State.abandonAll
  dsimp only
  simp

@[simp] theorem State.fillModel_frame (s : State) (g : Group) :
    (s.fillModel g).pending = s.pending ∧ (s.fillModel g).port = s.port ∧ (s.fillModel g).regs = s.regs ∧
    (s.fillModel g).pattern = s.pattern ∧ (s.fillModel g).route = s.route ∧ (s.fillModel g).lp = s.lp ∧
    (s.fillModel g).clk = s.clk ∧ (s.fillModel g).cs = s.cs ∧ (s.fillModel g).candidates = s.candidates ∧
    (s.fillModel g).lg = s.lg ∧ (s.fillModel g).vc = s.vc ∧ (s.fillModel g).gd = s.gd ∧ (s.fillModel g).sl = s.sl ∧
    (s.fillModel g).br = s.br ∧ (s.fillModel g).sq = s.sq ∧ (s.fillModel g).rc = s.rc ∧
    (s.fillModel g).shadows = s.shadows ∧ (s.fillModel g).snapTravel = s.snapTravel ∧
    (s.fillModel g).snapCount = s.snapCount ∧ (s.fillModel g).pins = s.pins ∧ (s.fillModel g).lines = s.lines ∧
    (s.fillModel g).sampled = s.sampled ∧ (s.fillModel g).inputs = s.inputs ∧
    (s.fillModel g).freeCount = s.freeCount := by
  unfold State.fillModel
  dsimp only
  (repeat' split) <;> simp

@[simp] theorem State.drainModel_frame (s : State) (g : Group) :
    (s.drainModel g).pending = s.pending ∧ (s.drainModel g).port = s.port ∧ (s.drainModel g).regs = s.regs ∧
    (s.drainModel g).pattern = s.pattern ∧ (s.drainModel g).route = s.route ∧ (s.drainModel g).lp = s.lp ∧
    (s.drainModel g).clk = s.clk ∧ (s.drainModel g).cs = s.cs ∧ (s.drainModel g).candidates = s.candidates ∧
    (s.drainModel g).lg = s.lg ∧ (s.drainModel g).vc = s.vc ∧ (s.drainModel g).gd = s.gd ∧
    (s.drainModel g).sl = s.sl ∧ (s.drainModel g).br = s.br ∧ (s.drainModel g).sq = s.sq ∧
    (s.drainModel g).rc = s.rc ∧ (s.drainModel g).counters = s.counters ∧ (s.drainModel g).shadows = s.shadows ∧
    (s.drainModel g).snapTravel = s.snapTravel ∧ (s.drainModel g).snapCount = s.snapCount ∧
    (s.drainModel g).pins = s.pins ∧ (s.drainModel g).lines = s.lines ∧ (s.drainModel g).sampled = s.sampled ∧
    (s.drainModel g).inputs = s.inputs ∧ (s.drainModel g).freeCount = s.freeCount := by
  unfold State.drainModel
  dsimp only
  (repeat' split) <;> simp

@[simp] theorem State.clearModel_frame (s : State) (g : Group) :
    (s.clearModel g).pending = s.pending ∧ (s.clearModel g).port = s.port ∧ (s.clearModel g).regs = s.regs ∧
    (s.clearModel g).pattern = s.pattern ∧ (s.clearModel g).route = s.route ∧ (s.clearModel g).lp = s.lp ∧
    (s.clearModel g).clk = s.clk ∧ (s.clearModel g).cs = s.cs ∧ (s.clearModel g).candidates = s.candidates ∧
    (s.clearModel g).lg = s.lg ∧ (s.clearModel g).vc = s.vc ∧ (s.clearModel g).gd = s.gd ∧
    (s.clearModel g).sl = s.sl ∧ (s.clearModel g).br = s.br ∧ (s.clearModel g).sq = s.sq ∧
    (s.clearModel g).rc = s.rc ∧ (s.clearModel g).counters = s.counters ∧ (s.clearModel g).shadows = s.shadows ∧
    (s.clearModel g).snapTravel = s.snapTravel ∧ (s.clearModel g).snapCount = s.snapCount ∧
    (s.clearModel g).pins = s.pins ∧ (s.clearModel g).lines = s.lines ∧ (s.clearModel g).sampled = s.sampled ∧
    (s.clearModel g).inputs = s.inputs ∧ (s.clearModel g).freeCount = s.freeCount := by
  unfold State.clearModel
  simp

@[simp] theorem clearEach_frame (mask : BitVec 4) (l : List Group) (s : State) :
    (l.foldl (fun s g => if inMask mask g then s.clearModel g else s) s).pending = s.pending ∧
    (l.foldl (fun s g => if inMask mask g then s.clearModel g else s) s).port = s.port ∧
    (l.foldl (fun s g => if inMask mask g then s.clearModel g else s) s).regs = s.regs ∧
    (l.foldl (fun s g => if inMask mask g then s.clearModel g else s) s).pattern = s.pattern ∧
    (l.foldl (fun s g => if inMask mask g then s.clearModel g else s) s).route = s.route ∧
    (l.foldl (fun s g => if inMask mask g then s.clearModel g else s) s).lp = s.lp ∧
    (l.foldl (fun s g => if inMask mask g then s.clearModel g else s) s).clk = s.clk ∧
    (l.foldl (fun s g => if inMask mask g then s.clearModel g else s) s).cs = s.cs ∧
    (l.foldl (fun s g => if inMask mask g then s.clearModel g else s) s).candidates = s.candidates ∧
    (l.foldl (fun s g => if inMask mask g then s.clearModel g else s) s).lg = s.lg ∧
    (l.foldl (fun s g => if inMask mask g then s.clearModel g else s) s).vc = s.vc ∧
    (l.foldl (fun s g => if inMask mask g then s.clearModel g else s) s).gd = s.gd ∧
    (l.foldl (fun s g => if inMask mask g then s.clearModel g else s) s).sl = s.sl ∧
    (l.foldl (fun s g => if inMask mask g then s.clearModel g else s) s).br = s.br ∧
    (l.foldl (fun s g => if inMask mask g then s.clearModel g else s) s).sq = s.sq ∧
    (l.foldl (fun s g => if inMask mask g then s.clearModel g else s) s).rc = s.rc ∧
    (l.foldl (fun s g => if inMask mask g then s.clearModel g else s) s).counters = s.counters ∧
    (l.foldl (fun s g => if inMask mask g then s.clearModel g else s) s).shadows = s.shadows ∧
    (l.foldl (fun s g => if inMask mask g then s.clearModel g else s) s).snapTravel = s.snapTravel ∧
    (l.foldl (fun s g => if inMask mask g then s.clearModel g else s) s).snapCount = s.snapCount ∧
    (l.foldl (fun s g => if inMask mask g then s.clearModel g else s) s).pins = s.pins ∧
    (l.foldl (fun s g => if inMask mask g then s.clearModel g else s) s).lines = s.lines ∧
    (l.foldl (fun s g => if inMask mask g then s.clearModel g else s) s).sampled = s.sampled ∧
    (l.foldl (fun s g => if inMask mask g then s.clearModel g else s) s).inputs = s.inputs ∧
    (l.foldl (fun s g => if inMask mask g then s.clearModel g else s) s).freeCount = s.freeCount := by
  induction l generalizing s with
  | nil => simp
  | cons x l ih =>
    simp only [List.foldl_cons]
    split <;> simp [ih]

@[simp] theorem State.clearModels_frame (s : State) (mask : BitVec 4) :
    (s.clearModels mask).pending = s.pending ∧ (s.clearModels mask).port = s.port ∧
    (s.clearModels mask).regs = s.regs ∧ (s.clearModels mask).pattern = s.pattern ∧
    (s.clearModels mask).route = s.route ∧ (s.clearModels mask).lp = s.lp ∧ (s.clearModels mask).clk = s.clk ∧
    (s.clearModels mask).cs = s.cs ∧ (s.clearModels mask).candidates = s.candidates ∧
    (s.clearModels mask).lg = s.lg ∧ (s.clearModels mask).vc = s.vc ∧ (s.clearModels mask).gd = s.gd ∧
    (s.clearModels mask).sl = s.sl ∧ (s.clearModels mask).br = s.br ∧ (s.clearModels mask).sq = s.sq ∧
    (s.clearModels mask).rc = s.rc ∧ (s.clearModels mask).counters = s.counters ∧
    (s.clearModels mask).shadows = s.shadows ∧ (s.clearModels mask).snapTravel = s.snapTravel ∧
    (s.clearModels mask).snapCount = s.snapCount ∧ (s.clearModels mask).pins = s.pins ∧
    (s.clearModels mask).lines = s.lines ∧ (s.clearModels mask).sampled = s.sampled ∧
    (s.clearModels mask).inputs = s.inputs ∧ (s.clearModels mask).freeCount = s.freeCount := by
  unfold State.clearModels
  simp

@[simp] theorem State.pulseFire_frame (s : State) (g : Group) :
    (s.pulseFire g).pending = s.pending ∧ (s.pulseFire g).port = s.port ∧ (s.pulseFire g).regs = s.regs ∧
    (s.pulseFire g).pattern = s.pattern ∧ (s.pulseFire g).route = s.route ∧ (s.pulseFire g).lp = s.lp ∧
    (s.pulseFire g).clk = s.clk ∧ (s.pulseFire g).cs = s.cs ∧ (s.pulseFire g).candidates = s.candidates ∧
    (s.pulseFire g).lg = s.lg ∧ (s.pulseFire g).vc = s.vc ∧ (s.pulseFire g).gd = s.gd ∧ (s.pulseFire g).sl = s.sl ∧
    (s.pulseFire g).br = s.br ∧ (s.pulseFire g).sq = s.sq ∧ (s.pulseFire g).rc = s.rc ∧
    (s.pulseFire g).shadows = s.shadows ∧ (s.pulseFire g).snapTravel = s.snapTravel ∧
    (s.pulseFire g).snapCount = s.snapCount ∧ (s.pulseFire g).pins = s.pins ∧ (s.pulseFire g).lines = s.lines ∧
    (s.pulseFire g).sampled = s.sampled ∧ (s.pulseFire g).inputs = s.inputs ∧
    (s.pulseFire g).freeCount = s.freeCount := by
  unfold State.pulseFire
  dsimp only
  (repeat' split) <;> simp

@[simp] theorem State.appendEntry_frame (s : State) (e : Entry) :
    (s.appendEntry e).pending = s.pending ∧ (s.appendEntry e).port = s.port ∧ (s.appendEntry e).regs = s.regs ∧
    (s.appendEntry e).pattern = s.pattern ∧ (s.appendEntry e).route = s.route ∧ (s.appendEntry e).lp = s.lp ∧
    (s.appendEntry e).clk = s.clk ∧ (s.appendEntry e).cs = s.cs ∧ (s.appendEntry e).candidates = s.candidates ∧
    (s.appendEntry e).ad = s.ad ∧ (s.appendEntry e).vc = s.vc ∧ (s.appendEntry e).gd = s.gd ∧
    (s.appendEntry e).sl = s.sl ∧ (s.appendEntry e).br = s.br ∧ (s.appendEntry e).sq = s.sq ∧
    (s.appendEntry e).rc = s.rc ∧ (s.appendEntry e).counters = s.counters ∧ (s.appendEntry e).shadows = s.shadows ∧
    (s.appendEntry e).snapTravel = s.snapTravel ∧ (s.appendEntry e).snapCount = s.snapCount ∧
    (s.appendEntry e).pins = s.pins ∧ (s.appendEntry e).lines = s.lines ∧ (s.appendEntry e).sampled = s.sampled ∧
    (s.appendEntry e).inputs = s.inputs ∧ (s.appendEntry e).freeCount = s.freeCount := by
  refine ⟨rfl, rfl, rfl, rfl, rfl, rfl, rfl, rfl, rfl, rfl, rfl, rfl, rfl, rfl, rfl, rfl, rfl, rfl, rfl, rfl, rfl, rfl, rfl, rfl, rfl⟩

@[simp] theorem State.checkReuse_frame (s : State) (id : Ident) :
    (s.checkReuse id).pending = s.pending ∧ (s.checkReuse id).port = s.port ∧ (s.checkReuse id).regs = s.regs ∧
    (s.checkReuse id).pattern = s.pattern ∧ (s.checkReuse id).route = s.route ∧ (s.checkReuse id).lp = s.lp ∧
    (s.checkReuse id).clk = s.clk ∧ (s.checkReuse id).cs = s.cs ∧ (s.checkReuse id).candidates = s.candidates ∧
    (s.checkReuse id).ad = s.ad ∧ (s.checkReuse id).vc = s.vc ∧ (s.checkReuse id).gd = s.gd ∧
    (s.checkReuse id).sl = s.sl ∧ (s.checkReuse id).br = s.br ∧ (s.checkReuse id).sq = s.sq ∧
    (s.checkReuse id).rc = s.rc ∧ (s.checkReuse id).shadows = s.shadows ∧
    (s.checkReuse id).snapTravel = s.snapTravel ∧ (s.checkReuse id).snapCount = s.snapCount ∧
    (s.checkReuse id).pins = s.pins ∧ (s.checkReuse id).lines = s.lines ∧ (s.checkReuse id).sampled = s.sampled ∧
    (s.checkReuse id).inputs = s.inputs ∧ (s.checkReuse id).freeCount = s.freeCount := by
  unfold State.checkReuse
  dsimp only
  (repeat' split) <;> simp

@[simp] theorem fireEach_frame (mask : BitVec 4) (l : List Group) (s : State) :
    (l.foldl (fun s g => if inMask mask g then s.pulseFire g else s) s).pending = s.pending ∧
    (l.foldl (fun s g => if inMask mask g then s.pulseFire g else s) s).port = s.port ∧
    (l.foldl (fun s g => if inMask mask g then s.pulseFire g else s) s).regs = s.regs ∧
    (l.foldl (fun s g => if inMask mask g then s.pulseFire g else s) s).pattern = s.pattern ∧
    (l.foldl (fun s g => if inMask mask g then s.pulseFire g else s) s).route = s.route ∧
    (l.foldl (fun s g => if inMask mask g then s.pulseFire g else s) s).lp = s.lp ∧
    (l.foldl (fun s g => if inMask mask g then s.pulseFire g else s) s).clk = s.clk ∧
    (l.foldl (fun s g => if inMask mask g then s.pulseFire g else s) s).cs = s.cs ∧
    (l.foldl (fun s g => if inMask mask g then s.pulseFire g else s) s).candidates = s.candidates ∧
    (l.foldl (fun s g => if inMask mask g then s.pulseFire g else s) s).lg = s.lg ∧
    (l.foldl (fun s g => if inMask mask g then s.pulseFire g else s) s).vc = s.vc ∧
    (l.foldl (fun s g => if inMask mask g then s.pulseFire g else s) s).gd = s.gd ∧
    (l.foldl (fun s g => if inMask mask g then s.pulseFire g else s) s).sl = s.sl ∧
    (l.foldl (fun s g => if inMask mask g then s.pulseFire g else s) s).br = s.br ∧
    (l.foldl (fun s g => if inMask mask g then s.pulseFire g else s) s).sq = s.sq ∧
    (l.foldl (fun s g => if inMask mask g then s.pulseFire g else s) s).rc = s.rc ∧
    (l.foldl (fun s g => if inMask mask g then s.pulseFire g else s) s).shadows = s.shadows ∧
    (l.foldl (fun s g => if inMask mask g then s.pulseFire g else s) s).snapTravel = s.snapTravel ∧
    (l.foldl (fun s g => if inMask mask g then s.pulseFire g else s) s).snapCount = s.snapCount ∧
    (l.foldl (fun s g => if inMask mask g then s.pulseFire g else s) s).pins = s.pins ∧
    (l.foldl (fun s g => if inMask mask g then s.pulseFire g else s) s).lines = s.lines ∧
    (l.foldl (fun s g => if inMask mask g then s.pulseFire g else s) s).sampled = s.sampled ∧
    (l.foldl (fun s g => if inMask mask g then s.pulseFire g else s) s).inputs = s.inputs ∧
    (l.foldl (fun s g => if inMask mask g then s.pulseFire g else s) s).freeCount = s.freeCount := by
  induction l generalizing s with
  | nil => simp
  | cons x l ih =>
    simp only [List.foldl_cons]
    split <;> simp [ih]

@[simp] theorem State.fireMask_frame (s : State) (mask : BitVec 4) :
    (s.fireMask mask).pending = s.pending ∧ (s.fireMask mask).port = s.port ∧ (s.fireMask mask).regs = s.regs ∧
    (s.fireMask mask).pattern = s.pattern ∧ (s.fireMask mask).route = s.route ∧ (s.fireMask mask).lp = s.lp ∧
    (s.fireMask mask).clk = s.clk ∧ (s.fireMask mask).cs = s.cs ∧ (s.fireMask mask).candidates = s.candidates ∧
    (s.fireMask mask).lg = s.lg ∧ (s.fireMask mask).vc = s.vc ∧ (s.fireMask mask).gd = s.gd ∧
    (s.fireMask mask).sl = s.sl ∧ (s.fireMask mask).br = s.br ∧ (s.fireMask mask).sq = s.sq ∧
    (s.fireMask mask).rc = s.rc ∧ (s.fireMask mask).shadows = s.shadows ∧
    (s.fireMask mask).snapTravel = s.snapTravel ∧ (s.fireMask mask).snapCount = s.snapCount ∧
    (s.fireMask mask).pins = s.pins ∧ (s.fireMask mask).lines = s.lines ∧ (s.fireMask mask).sampled = s.sampled ∧
    (s.fireMask mask).inputs = s.inputs ∧ (s.fireMask mask).freeCount = s.freeCount := by
  unfold State.fireMask
  simp

@[simp] theorem fillEach_frame (mask : BitVec 4) (l : List Group) (s : State) :
    (l.foldl (fun s g => if inMask mask g then s.fillModel g else s) s).pending = s.pending ∧
    (l.foldl (fun s g => if inMask mask g then s.fillModel g else s) s).port = s.port ∧
    (l.foldl (fun s g => if inMask mask g then s.fillModel g else s) s).regs = s.regs ∧
    (l.foldl (fun s g => if inMask mask g then s.fillModel g else s) s).pattern = s.pattern ∧
    (l.foldl (fun s g => if inMask mask g then s.fillModel g else s) s).route = s.route ∧
    (l.foldl (fun s g => if inMask mask g then s.fillModel g else s) s).lp = s.lp ∧
    (l.foldl (fun s g => if inMask mask g then s.fillModel g else s) s).clk = s.clk ∧
    (l.foldl (fun s g => if inMask mask g then s.fillModel g else s) s).cs = s.cs ∧
    (l.foldl (fun s g => if inMask mask g then s.fillModel g else s) s).candidates = s.candidates ∧
    (l.foldl (fun s g => if inMask mask g then s.fillModel g else s) s).lg = s.lg ∧
    (l.foldl (fun s g => if inMask mask g then s.fillModel g else s) s).vc = s.vc ∧
    (l.foldl (fun s g => if inMask mask g then s.fillModel g else s) s).gd = s.gd ∧
    (l.foldl (fun s g => if inMask mask g then s.fillModel g else s) s).sl = s.sl ∧
    (l.foldl (fun s g => if inMask mask g then s.fillModel g else s) s).br = s.br ∧
    (l.foldl (fun s g => if inMask mask g then s.fillModel g else s) s).sq = s.sq ∧
    (l.foldl (fun s g => if inMask mask g then s.fillModel g else s) s).rc = s.rc ∧
    (l.foldl (fun s g => if inMask mask g then s.fillModel g else s) s).shadows = s.shadows ∧
    (l.foldl (fun s g => if inMask mask g then s.fillModel g else s) s).snapTravel = s.snapTravel ∧
    (l.foldl (fun s g => if inMask mask g then s.fillModel g else s) s).snapCount = s.snapCount ∧
    (l.foldl (fun s g => if inMask mask g then s.fillModel g else s) s).pins = s.pins ∧
    (l.foldl (fun s g => if inMask mask g then s.fillModel g else s) s).lines = s.lines ∧
    (l.foldl (fun s g => if inMask mask g then s.fillModel g else s) s).sampled = s.sampled ∧
    (l.foldl (fun s g => if inMask mask g then s.fillModel g else s) s).inputs = s.inputs ∧
    (l.foldl (fun s g => if inMask mask g then s.fillModel g else s) s).freeCount = s.freeCount := by
  induction l generalizing s with
  | nil => simp
  | cons x l ih =>
    simp only [List.foldl_cons]
    split <;> simp [ih]

@[simp] theorem State.fillMask_frame (s : State) (mask : BitVec 4) :
    (s.fillMask mask).pending = s.pending ∧ (s.fillMask mask).port = s.port ∧ (s.fillMask mask).regs = s.regs ∧
    (s.fillMask mask).pattern = s.pattern ∧ (s.fillMask mask).route = s.route ∧ (s.fillMask mask).lp = s.lp ∧
    (s.fillMask mask).clk = s.clk ∧ (s.fillMask mask).cs = s.cs ∧ (s.fillMask mask).candidates = s.candidates ∧
    (s.fillMask mask).lg = s.lg ∧ (s.fillMask mask).vc = s.vc ∧ (s.fillMask mask).gd = s.gd ∧
    (s.fillMask mask).sl = s.sl ∧ (s.fillMask mask).br = s.br ∧ (s.fillMask mask).sq = s.sq ∧
    (s.fillMask mask).rc = s.rc ∧ (s.fillMask mask).shadows = s.shadows ∧
    (s.fillMask mask).snapTravel = s.snapTravel ∧ (s.fillMask mask).snapCount = s.snapCount ∧
    (s.fillMask mask).pins = s.pins ∧ (s.fillMask mask).lines = s.lines ∧ (s.fillMask mask).sampled = s.sampled ∧
    (s.fillMask mask).inputs = s.inputs ∧ (s.fillMask mask).freeCount = s.freeCount := by
  unfold State.fillMask
  simp

@[simp] theorem State.useIdent_frame (s : State) :
    (s.useIdent).pending = s.pending ∧ (s.useIdent).port = s.port ∧ (s.useIdent).regs = s.regs ∧
    (s.useIdent).pattern = s.pattern ∧ (s.useIdent).route = s.route ∧ (s.useIdent).lp = s.lp ∧
    (s.useIdent).clk = s.clk ∧ (s.useIdent).cs = s.cs ∧ (s.useIdent).candidates = s.candidates ∧
    (s.useIdent).lg = s.lg ∧ (s.useIdent).vc = s.vc ∧ (s.useIdent).gd = s.gd ∧ (s.useIdent).sl = s.sl ∧
    (s.useIdent).br = s.br ∧ (s.useIdent).sq = s.sq ∧ (s.useIdent).rc = s.rc ∧ (s.useIdent).counters = s.counters ∧
    (s.useIdent).shadows = s.shadows ∧ (s.useIdent).snapTravel = s.snapTravel ∧
    (s.useIdent).snapCount = s.snapCount ∧ (s.useIdent).pins = s.pins ∧ (s.useIdent).lines = s.lines ∧
    (s.useIdent).sampled = s.sampled ∧ (s.useIdent).inputs = s.inputs ∧ (s.useIdent).freeCount = s.freeCount := by
  refine ⟨rfl, rfl, rfl, rfl, rfl, rfl, rfl, rfl, rfl, rfl, rfl, rfl, rfl, rfl, rfl, rfl, rfl, rfl, rfl, rfl, rfl, rfl, rfl, rfl, rfl⟩

@[simp] theorem State.takeIn_frame (s : State) (p : Proposal) :
    (s.takeIn p).pending = s.pending ∧ (s.takeIn p).port = s.port ∧ (s.takeIn p).regs = s.regs ∧
    (s.takeIn p).pattern = s.pattern ∧ (s.takeIn p).route = s.route ∧ (s.takeIn p).lp = s.lp ∧
    (s.takeIn p).clk = s.clk ∧ (s.takeIn p).cs = s.cs ∧ (s.takeIn p).candidates = s.candidates ∧
    (s.takeIn p).vc = s.vc ∧ (s.takeIn p).gd = s.gd ∧ (s.takeIn p).sq = s.sq ∧ (s.takeIn p).shadows = s.shadows ∧
    (s.takeIn p).snapTravel = s.snapTravel ∧ (s.takeIn p).snapCount = s.snapCount ∧ (s.takeIn p).pins = s.pins ∧
    (s.takeIn p).lines = s.lines ∧ (s.takeIn p).sampled = s.sampled ∧ (s.takeIn p).inputs = s.inputs ∧
    (s.takeIn p).freeCount = s.freeCount := by
  unfold State.takeIn
  dsimp only
  (repeat' split) <;> simp

@[simp] theorem State.holdBack_frame (s : State) (p : Proposal) :
    (s.holdBack p).pending = s.pending ∧ (s.holdBack p).port = s.port ∧ (s.holdBack p).regs = s.regs ∧
    (s.holdBack p).pattern = s.pattern ∧ (s.holdBack p).route = s.route ∧ (s.holdBack p).lp = s.lp ∧
    (s.holdBack p).clk = s.clk ∧ (s.holdBack p).cs = s.cs ∧ (s.holdBack p).candidates = s.candidates ∧
    (s.holdBack p).ad = s.ad ∧ (s.holdBack p).vc = s.vc ∧ (s.holdBack p).gd = s.gd ∧ (s.holdBack p).sl = s.sl ∧
    (s.holdBack p).br = s.br ∧ (s.holdBack p).sq = s.sq ∧ (s.holdBack p).shadows = s.shadows ∧
    (s.holdBack p).snapTravel = s.snapTravel ∧ (s.holdBack p).snapCount = s.snapCount ∧
    (s.holdBack p).pins = s.pins ∧ (s.holdBack p).lines = s.lines ∧ (s.holdBack p).sampled = s.sampled ∧
    (s.holdBack p).inputs = s.inputs ∧ (s.holdBack p).freeCount = s.freeCount := by
  unfold State.holdBack
  dsimp only
  (repeat' split) <;> simp

@[simp] theorem State.stepSeven_frame (s : State) :
    (s.stepSeven).pending = s.pending ∧ (s.stepSeven).port = s.port ∧ (s.stepSeven).regs = s.regs ∧
    (s.stepSeven).pattern = s.pattern ∧ (s.stepSeven).route = s.route ∧ (s.stepSeven).lp = s.lp ∧
    (s.stepSeven).clk = s.clk ∧ (s.stepSeven).cs = s.cs ∧ (s.stepSeven).gd = s.gd ∧ (s.stepSeven).sq = s.sq ∧
    (s.stepSeven).shadows = s.shadows ∧ (s.stepSeven).snapTravel = s.snapTravel ∧
    (s.stepSeven).snapCount = s.snapCount ∧ (s.stepSeven).pins = s.pins ∧ (s.stepSeven).lines = s.lines ∧
    (s.stepSeven).sampled = s.sampled ∧ (s.stepSeven).inputs = s.inputs ∧ (s.stepSeven).freeCount = s.freeCount := by
  unfold State.stepSeven
  dsimp only
  (repeat' split) <;> simp

@[simp] theorem State.countQuota_frame (s : State) :
    (s.countQuota).pending = s.pending ∧ (s.countQuota).port = s.port ∧ (s.countQuota).regs = s.regs ∧
    (s.countQuota).pattern = s.pattern ∧ (s.countQuota).route = s.route ∧ (s.countQuota).lp = s.lp ∧
    (s.countQuota).clk = s.clk ∧ (s.countQuota).cs = s.cs ∧ (s.countQuota).candidates = s.candidates ∧
    (s.countQuota).lg = s.lg ∧ (s.countQuota).vc = s.vc ∧ (s.countQuota).gd = s.gd ∧ (s.countQuota).sl = s.sl ∧
    (s.countQuota).br = s.br ∧ (s.countQuota).sq = s.sq ∧ (s.countQuota).counters = s.counters ∧
    (s.countQuota).shadows = s.shadows ∧ (s.countQuota).snapTravel = s.snapTravel ∧
    (s.countQuota).snapCount = s.snapCount ∧ (s.countQuota).pins = s.pins ∧ (s.countQuota).lines = s.lines ∧
    (s.countQuota).sampled = s.sampled ∧ (s.countQuota).inputs = s.inputs ∧ (s.countQuota).freeCount = s.freeCount := by
  unfold State.countQuota
  dsimp only
  (repeat' split) <;> simp

@[simp] theorem State.countAdmission_frame (s : State) (admitted : Bool) :
    (s.countAdmission admitted).pending = s.pending ∧ (s.countAdmission admitted).port = s.port ∧
    (s.countAdmission admitted).regs = s.regs ∧ (s.countAdmission admitted).pattern = s.pattern ∧
    (s.countAdmission admitted).route = s.route ∧ (s.countAdmission admitted).lp = s.lp ∧
    (s.countAdmission admitted).clk = s.clk ∧ (s.countAdmission admitted).cs = s.cs ∧
    (s.countAdmission admitted).candidates = s.candidates ∧ (s.countAdmission admitted).lg = s.lg ∧
    (s.countAdmission admitted).vc = s.vc ∧ (s.countAdmission admitted).gd = s.gd ∧
    (s.countAdmission admitted).sl = s.sl ∧ (s.countAdmission admitted).br = s.br ∧
    (s.countAdmission admitted).sq = s.sq ∧ (s.countAdmission admitted).counters = s.counters ∧
    (s.countAdmission admitted).shadows = s.shadows ∧ (s.countAdmission admitted).snapTravel = s.snapTravel ∧
    (s.countAdmission admitted).snapCount = s.snapCount ∧ (s.countAdmission admitted).pins = s.pins ∧
    (s.countAdmission admitted).lines = s.lines ∧ (s.countAdmission admitted).sampled = s.sampled ∧
    (s.countAdmission admitted).inputs = s.inputs ∧ (s.countAdmission admitted).freeCount = s.freeCount := by
  unfold State.countAdmission
  dsimp only
  (repeat' split) <;> simp

@[simp] theorem State.evalLedgerHigh_frame (s : State) :
    (s.evalLedgerHigh).pending = s.pending ∧ (s.evalLedgerHigh).port = s.port ∧ (s.evalLedgerHigh).regs = s.regs ∧
    (s.evalLedgerHigh).pattern = s.pattern ∧ (s.evalLedgerHigh).route = s.route ∧ (s.evalLedgerHigh).lp = s.lp ∧
    (s.evalLedgerHigh).clk = s.clk ∧ (s.evalLedgerHigh).cs = s.cs ∧ (s.evalLedgerHigh).candidates = s.candidates ∧
    (s.evalLedgerHigh).ad = s.ad ∧ (s.evalLedgerHigh).vc = s.vc ∧ (s.evalLedgerHigh).gd = s.gd ∧
    (s.evalLedgerHigh).sl = s.sl ∧ (s.evalLedgerHigh).br = s.br ∧ (s.evalLedgerHigh).sq = s.sq ∧
    (s.evalLedgerHigh).counters = s.counters ∧ (s.evalLedgerHigh).shadows = s.shadows ∧
    (s.evalLedgerHigh).snapTravel = s.snapTravel ∧ (s.evalLedgerHigh).snapCount = s.snapCount ∧
    (s.evalLedgerHigh).pins = s.pins ∧ (s.evalLedgerHigh).lines = s.lines ∧
    (s.evalLedgerHigh).sampled = s.sampled ∧ (s.evalLedgerHigh).inputs = s.inputs ∧
    (s.evalLedgerHigh).freeCount = s.freeCount := by
  unfold State.evalLedgerHigh
  dsimp only
  (repeat' split) <;> simp

@[simp] theorem countHolds_frame (l : List (Bool × Nat)) (s : State) :
    (l.foldl (fun s (x : Bool × Nat) => if x.1 then s.bump (.holdPosition x.2) else s) s).pending = s.pending ∧
    (l.foldl (fun s (x : Bool × Nat) => if x.1 then s.bump (.holdPosition x.2) else s) s).port = s.port ∧
    (l.foldl (fun s (x : Bool × Nat) => if x.1 then s.bump (.holdPosition x.2) else s) s).regs = s.regs ∧
    (l.foldl (fun s (x : Bool × Nat) => if x.1 then s.bump (.holdPosition x.2) else s) s).pattern = s.pattern ∧
    (l.foldl (fun s (x : Bool × Nat) => if x.1 then s.bump (.holdPosition x.2) else s) s).route = s.route ∧
    (l.foldl (fun s (x : Bool × Nat) => if x.1 then s.bump (.holdPosition x.2) else s) s).lp = s.lp ∧
    (l.foldl (fun s (x : Bool × Nat) => if x.1 then s.bump (.holdPosition x.2) else s) s).clk = s.clk ∧
    (l.foldl (fun s (x : Bool × Nat) => if x.1 then s.bump (.holdPosition x.2) else s) s).cs = s.cs ∧
    (l.foldl (fun s (x : Bool × Nat) => if x.1 then s.bump (.holdPosition x.2) else s) s).candidates = s.candidates ∧
    (l.foldl (fun s (x : Bool × Nat) => if x.1 then s.bump (.holdPosition x.2) else s) s).ad = s.ad ∧
    (l.foldl (fun s (x : Bool × Nat) => if x.1 then s.bump (.holdPosition x.2) else s) s).lg = s.lg ∧
    (l.foldl (fun s (x : Bool × Nat) => if x.1 then s.bump (.holdPosition x.2) else s) s).vc = s.vc ∧
    (l.foldl (fun s (x : Bool × Nat) => if x.1 then s.bump (.holdPosition x.2) else s) s).gd = s.gd ∧
    (l.foldl (fun s (x : Bool × Nat) => if x.1 then s.bump (.holdPosition x.2) else s) s).sl = s.sl ∧
    (l.foldl (fun s (x : Bool × Nat) => if x.1 then s.bump (.holdPosition x.2) else s) s).br = s.br ∧
    (l.foldl (fun s (x : Bool × Nat) => if x.1 then s.bump (.holdPosition x.2) else s) s).sq = s.sq ∧
    (l.foldl (fun s (x : Bool × Nat) => if x.1 then s.bump (.holdPosition x.2) else s) s).rc = s.rc ∧
    (l.foldl (fun s (x : Bool × Nat) => if x.1 then s.bump (.holdPosition x.2) else s) s).shadows = s.shadows ∧
    (l.foldl (fun s (x : Bool × Nat) => if x.1 then s.bump (.holdPosition x.2) else s) s).snapTravel = s.snapTravel ∧
    (l.foldl (fun s (x : Bool × Nat) => if x.1 then s.bump (.holdPosition x.2) else s) s).snapCount = s.snapCount ∧
    (l.foldl (fun s (x : Bool × Nat) => if x.1 then s.bump (.holdPosition x.2) else s) s).pins = s.pins ∧
    (l.foldl (fun s (x : Bool × Nat) => if x.1 then s.bump (.holdPosition x.2) else s) s).lines = s.lines ∧
    (l.foldl (fun s (x : Bool × Nat) => if x.1 then s.bump (.holdPosition x.2) else s) s).sampled = s.sampled ∧
    (l.foldl (fun s (x : Bool × Nat) => if x.1 then s.bump (.holdPosition x.2) else s) s).inputs = s.inputs ∧
    (l.foldl (fun s (x : Bool × Nat) => if x.1 then s.bump (.holdPosition x.2) else s) s).freeCount = s.freeCount := by
  induction l generalizing s with
  | nil => simp
  | cons x l ih =>
    simp only [List.foldl_cons]
    split <;> simp [ih]

@[simp] theorem State.writeHolds_frame (s : State) (active : List Bool) (global : Bool) :
    (s.writeHolds active global).pending = s.pending ∧ (s.writeHolds active global).port = s.port ∧
    (s.writeHolds active global).regs = s.regs ∧ (s.writeHolds active global).pattern = s.pattern ∧
    (s.writeHolds active global).route = s.route ∧ (s.writeHolds active global).lp = s.lp ∧
    (s.writeHolds active global).clk = s.clk ∧ (s.writeHolds active global).cs = s.cs ∧
    (s.writeHolds active global).candidates = s.candidates ∧ (s.writeHolds active global).lg = s.lg ∧
    (s.writeHolds active global).vc = s.vc ∧ (s.writeHolds active global).gd = s.gd ∧
    (s.writeHolds active global).sl = s.sl ∧ (s.writeHolds active global).br = s.br ∧
    (s.writeHolds active global).sq = s.sq ∧ (s.writeHolds active global).rc = s.rc ∧
    (s.writeHolds active global).shadows = s.shadows ∧ (s.writeHolds active global).snapTravel = s.snapTravel ∧
    (s.writeHolds active global).snapCount = s.snapCount ∧ (s.writeHolds active global).pins = s.pins ∧
    (s.writeHolds active global).lines = s.lines ∧ (s.writeHolds active global).sampled = s.sampled ∧
    (s.writeHolds active global).inputs = s.inputs ∧ (s.writeHolds active global).freeCount = s.freeCount := by
  unfold State.writeHolds
  dsimp only
  (repeat' split) <;> simp

@[simp] theorem State.stepEight_frame (s : State) (active : List Bool) (global admitted flush : Bool) :
    (s.stepEight active global admitted flush).pending = s.pending ∧
    (s.stepEight active global admitted flush).port = s.port ∧
    (s.stepEight active global admitted flush).regs = s.regs ∧
    (s.stepEight active global admitted flush).pattern = s.pattern ∧
    (s.stepEight active global admitted flush).route = s.route ∧
    (s.stepEight active global admitted flush).lp = s.lp ∧ (s.stepEight active global admitted flush).clk = s.clk ∧
    (s.stepEight active global admitted flush).cs = s.cs ∧
    (s.stepEight active global admitted flush).candidates = s.candidates ∧
    (s.stepEight active global admitted flush).vc = s.vc ∧ (s.stepEight active global admitted flush).gd = s.gd ∧
    (s.stepEight active global admitted flush).sq = s.sq ∧
    (s.stepEight active global admitted flush).shadows = s.shadows ∧
    (s.stepEight active global admitted flush).snapTravel = s.snapTravel ∧
    (s.stepEight active global admitted flush).snapCount = s.snapCount ∧
    (s.stepEight active global admitted flush).pins = s.pins ∧
    (s.stepEight active global admitted flush).lines = s.lines ∧
    (s.stepEight active global admitted flush).sampled = s.sampled ∧
    (s.stepEight active global admitted flush).inputs = s.inputs ∧
    (s.stepEight active global admitted flush).freeCount = s.freeCount := by
  unfold State.stepEight
  dsimp only
  (repeat' split) <;> simp

@[simp] theorem State.setSeqDemand_frame (s : State) (i : SeqId) (b : Bool) :
    (s.setSeqDemand i b).pending = s.pending ∧ (s.setSeqDemand i b).port = s.port ∧
    (s.setSeqDemand i b).regs = s.regs ∧ (s.setSeqDemand i b).pattern = s.pattern ∧
    (s.setSeqDemand i b).route = s.route ∧ (s.setSeqDemand i b).lp = s.lp ∧ (s.setSeqDemand i b).clk = s.clk ∧
    (s.setSeqDemand i b).cs = s.cs ∧ (s.setSeqDemand i b).candidates = s.candidates ∧
    (s.setSeqDemand i b).ad = s.ad ∧ (s.setSeqDemand i b).lg = s.lg ∧ (s.setSeqDemand i b).vc = s.vc ∧
    (s.setSeqDemand i b).gd = s.gd ∧ (s.setSeqDemand i b).sl = s.sl ∧ (s.setSeqDemand i b).br = s.br ∧
    (s.setSeqDemand i b).rc = s.rc ∧ (s.setSeqDemand i b).counters = s.counters ∧
    (s.setSeqDemand i b).shadows = s.shadows ∧ (s.setSeqDemand i b).snapTravel = s.snapTravel ∧
    (s.setSeqDemand i b).snapCount = s.snapCount ∧ (s.setSeqDemand i b).pins = s.pins ∧
    (s.setSeqDemand i b).lines = s.lines ∧ (s.setSeqDemand i b).sampled = s.sampled ∧
    (s.setSeqDemand i b).inputs = s.inputs ∧ (s.setSeqDemand i b).freeCount = s.freeCount := by
  cases i <;> simp [State.setSeqDemand]

@[simp] theorem State.enterSeq_frame (s : State) (i : SeqId) (x : SeqState) :
    (s.enterSeq i x).pending = s.pending ∧ (s.enterSeq i x).port = s.port ∧ (s.enterSeq i x).regs = s.regs ∧
    (s.enterSeq i x).pattern = s.pattern ∧ (s.enterSeq i x).route = s.route ∧ (s.enterSeq i x).lp = s.lp ∧
    (s.enterSeq i x).clk = s.clk ∧ (s.enterSeq i x).cs = s.cs ∧ (s.enterSeq i x).candidates = s.candidates ∧
    (s.enterSeq i x).ad = s.ad ∧ (s.enterSeq i x).lg = s.lg ∧ (s.enterSeq i x).vc = s.vc ∧
    (s.enterSeq i x).gd = s.gd ∧ (s.enterSeq i x).sl = s.sl ∧ (s.enterSeq i x).br = s.br ∧
    (s.enterSeq i x).rc = s.rc ∧ (s.enterSeq i x).counters = s.counters ∧ (s.enterSeq i x).shadows = s.shadows ∧
    (s.enterSeq i x).snapTravel = s.snapTravel ∧ (s.enterSeq i x).snapCount = s.snapCount ∧
    (s.enterSeq i x).pins = s.pins ∧ (s.enterSeq i x).lines = s.lines ∧ (s.enterSeq i x).sampled = s.sampled ∧
    (s.enterSeq i x).inputs = s.inputs ∧ (s.enterSeq i x).freeCount = s.freeCount := by
  unfold State.enterSeq
  simp

@[simp] theorem State.enterSignalling_frame (s : State) (i : SeqId) :
    (s.enterSignalling i).pending = s.pending ∧ (s.enterSignalling i).port = s.port ∧
    (s.enterSignalling i).regs = s.regs ∧ (s.enterSignalling i).pattern = s.pattern ∧
    (s.enterSignalling i).route = s.route ∧ (s.enterSignalling i).lp = s.lp ∧ (s.enterSignalling i).clk = s.clk ∧
    (s.enterSignalling i).cs = s.cs ∧ (s.enterSignalling i).candidates = s.candidates ∧
    (s.enterSignalling i).ad = s.ad ∧ (s.enterSignalling i).lg = s.lg ∧ (s.enterSignalling i).vc = s.vc ∧
    (s.enterSignalling i).gd = s.gd ∧ (s.enterSignalling i).br = s.br ∧ (s.enterSignalling i).rc = s.rc ∧
    (s.enterSignalling i).shadows = s.shadows ∧ (s.enterSignalling i).snapTravel = s.snapTravel ∧
    (s.enterSignalling i).snapCount = s.snapCount ∧ (s.enterSignalling i).pins = s.pins ∧
    (s.enterSignalling i).lines = s.lines ∧ (s.enterSignalling i).sampled = s.sampled ∧
    (s.enterSignalling i).inputs = s.inputs ∧ (s.enterSignalling i).freeCount = s.freeCount := by
  unfold State.enterSignalling
  simp

@[simp] theorem State.judgeQuiesce_frame (s : State) (i : SeqId) :
    (s.judgeQuiesce i).pending = s.pending ∧ (s.judgeQuiesce i).port = s.port ∧ (s.judgeQuiesce i).regs = s.regs ∧
    (s.judgeQuiesce i).pattern = s.pattern ∧ (s.judgeQuiesce i).route = s.route ∧ (s.judgeQuiesce i).lp = s.lp ∧
    (s.judgeQuiesce i).clk = s.clk ∧ (s.judgeQuiesce i).cs = s.cs ∧ (s.judgeQuiesce i).candidates = s.candidates ∧
    (s.judgeQuiesce i).ad = s.ad ∧ (s.judgeQuiesce i).lg = s.lg ∧ (s.judgeQuiesce i).vc = s.vc ∧
    (s.judgeQuiesce i).gd = s.gd ∧ (s.judgeQuiesce i).br = s.br ∧ (s.judgeQuiesce i).rc = s.rc ∧
    (s.judgeQuiesce i).shadows = s.shadows ∧ (s.judgeQuiesce i).snapTravel = s.snapTravel ∧
    (s.judgeQuiesce i).snapCount = s.snapCount ∧ (s.judgeQuiesce i).pins = s.pins ∧
    (s.judgeQuiesce i).lines = s.lines ∧ (s.judgeQuiesce i).sampled = s.sampled ∧
    (s.judgeQuiesce i).inputs = s.inputs ∧ (s.judgeQuiesce i).freeCount = s.freeCount := by
  unfold State.judgeQuiesce
  (repeat' split) <;> simp

@[simp] theorem State.judgeRecover_frame (s : State) (i : SeqId) :
    (s.judgeRecover i).pending = s.pending ∧ (s.judgeRecover i).port = s.port ∧ (s.judgeRecover i).regs = s.regs ∧
    (s.judgeRecover i).pattern = s.pattern ∧ (s.judgeRecover i).route = s.route ∧ (s.judgeRecover i).lp = s.lp ∧
    (s.judgeRecover i).clk = s.clk ∧ (s.judgeRecover i).cs = s.cs ∧ (s.judgeRecover i).candidates = s.candidates ∧
    (s.judgeRecover i).ad = s.ad ∧ (s.judgeRecover i).lg = s.lg ∧ (s.judgeRecover i).vc = s.vc ∧
    (s.judgeRecover i).gd = s.gd ∧ (s.judgeRecover i).sl = s.sl ∧ (s.judgeRecover i).br = s.br ∧
    (s.judgeRecover i).rc = s.rc ∧ (s.judgeRecover i).counters = s.counters ∧
    (s.judgeRecover i).shadows = s.shadows ∧ (s.judgeRecover i).snapTravel = s.snapTravel ∧
    (s.judgeRecover i).snapCount = s.snapCount ∧ (s.judgeRecover i).pins = s.pins ∧
    (s.judgeRecover i).lines = s.lines ∧ (s.judgeRecover i).sampled = s.sampled ∧
    (s.judgeRecover i).inputs = s.inputs ∧ (s.judgeRecover i).freeCount = s.freeCount := by
  unfold State.judgeRecover
  (repeat' split) <;> simp

@[simp] theorem State.countSeq_frame (s : State) (i : SeqId) :
    (s.countSeq i).pending = s.pending ∧ (s.countSeq i).port = s.port ∧ (s.countSeq i).regs = s.regs ∧
    (s.countSeq i).pattern = s.pattern ∧ (s.countSeq i).route = s.route ∧ (s.countSeq i).lp = s.lp ∧
    (s.countSeq i).clk = s.clk ∧ (s.countSeq i).cs = s.cs ∧ (s.countSeq i).candidates = s.candidates ∧
    (s.countSeq i).ad = s.ad ∧ (s.countSeq i).lg = s.lg ∧ (s.countSeq i).vc = s.vc ∧ (s.countSeq i).gd = s.gd ∧
    (s.countSeq i).sl = s.sl ∧ (s.countSeq i).br = s.br ∧ (s.countSeq i).rc = s.rc ∧
    (s.countSeq i).counters = s.counters ∧ (s.countSeq i).shadows = s.shadows ∧
    (s.countSeq i).snapTravel = s.snapTravel ∧ (s.countSeq i).snapCount = s.snapCount ∧
    (s.countSeq i).pins = s.pins ∧ (s.countSeq i).lines = s.lines ∧ (s.countSeq i).sampled = s.sampled ∧
    (s.countSeq i).inputs = s.inputs ∧ (s.countSeq i).freeCount = s.freeCount := by
  unfold State.countSeq
  dsimp only
  simp

@[simp] theorem State.seqWork_frame (s : State) (i : SeqId) :
    (s.seqWork i).pending = s.pending ∧ (s.seqWork i).port = s.port ∧ (s.seqWork i).regs = s.regs ∧
    (s.seqWork i).pattern = s.pattern ∧ (s.seqWork i).route = s.route ∧ (s.seqWork i).lp = s.lp ∧
    (s.seqWork i).clk = s.clk ∧ (s.seqWork i).cs = s.cs ∧ (s.seqWork i).candidates = s.candidates ∧
    (s.seqWork i).ad = s.ad ∧ (s.seqWork i).lg = s.lg ∧ (s.seqWork i).vc = s.vc ∧ (s.seqWork i).gd = s.gd ∧
    (s.seqWork i).br = s.br ∧ (s.seqWork i).rc = s.rc ∧ (s.seqWork i).shadows = s.shadows ∧
    (s.seqWork i).snapTravel = s.snapTravel ∧ (s.seqWork i).snapCount = s.snapCount ∧ (s.seqWork i).pins = s.pins ∧
    (s.seqWork i).lines = s.lines ∧ (s.seqWork i).sampled = s.sampled ∧ (s.seqWork i).inputs = s.inputs ∧
    (s.seqWork i).freeCount = s.freeCount := by
  unfold State.seqWork
  dsimp only
  (repeat' split) <;> simp

@[simp] theorem State.periodicResync_frame (s : State) :
    (s.periodicResync).pending = s.pending ∧ (s.periodicResync).port = s.port ∧ (s.periodicResync).regs = s.regs ∧
    (s.periodicResync).pattern = s.pattern ∧ (s.periodicResync).route = s.route ∧ (s.periodicResync).lp = s.lp ∧
    (s.periodicResync).clk = s.clk ∧ (s.periodicResync).cs = s.cs ∧ (s.periodicResync).candidates = s.candidates ∧
    (s.periodicResync).ad = s.ad ∧ (s.periodicResync).lg = s.lg ∧ (s.periodicResync).vc = s.vc ∧
    (s.periodicResync).gd = s.gd ∧ (s.periodicResync).sl = s.sl ∧ (s.periodicResync).br = s.br ∧
    (s.periodicResync).rc = s.rc ∧ (s.periodicResync).counters = s.counters ∧
    (s.periodicResync).shadows = s.shadows ∧ (s.periodicResync).snapTravel = s.snapTravel ∧
    (s.periodicResync).snapCount = s.snapCount ∧ (s.periodicResync).pins = s.pins ∧
    (s.periodicResync).lines = s.lines ∧ (s.periodicResync).sampled = s.sampled ∧
    (s.periodicResync).inputs = s.inputs ∧ (s.periodicResync).freeCount = s.freeCount := by
  unfold State.periodicResync
  dsimp only
  (repeat' split) <;> simp

@[simp] theorem State.preempt_frame (s : State) :
    (s.preempt).pending = s.pending ∧ (s.preempt).port = s.port ∧ (s.preempt).regs = s.regs ∧
    (s.preempt).pattern = s.pattern ∧ (s.preempt).route = s.route ∧ (s.preempt).lp = s.lp ∧
    (s.preempt).clk = s.clk ∧ (s.preempt).cs = s.cs ∧ (s.preempt).candidates = s.candidates ∧
    (s.preempt).ad = s.ad ∧ (s.preempt).lg = s.lg ∧ (s.preempt).vc = s.vc ∧ (s.preempt).gd = s.gd ∧
    (s.preempt).br = s.br ∧ (s.preempt).rc = s.rc ∧ (s.preempt).shadows = s.shadows ∧
    (s.preempt).snapTravel = s.snapTravel ∧ (s.preempt).snapCount = s.snapCount ∧ (s.preempt).pins = s.pins ∧
    (s.preempt).lines = s.lines ∧ (s.preempt).sampled = s.sampled ∧ (s.preempt).inputs = s.inputs ∧
    (s.preempt).freeCount = s.freeCount := by
  unfold State.preempt
  (repeat' split) <;> simp

@[simp] theorem refEach_frame (l : List RefGen) (s : State) :
    (l.foldl State.refOnSequence s).pending = s.pending ∧ (l.foldl State.refOnSequence s).port = s.port ∧
    (l.foldl State.refOnSequence s).regs = s.regs ∧ (l.foldl State.refOnSequence s).pattern = s.pattern ∧
    (l.foldl State.refOnSequence s).route = s.route ∧ (l.foldl State.refOnSequence s).lp = s.lp ∧
    (l.foldl State.refOnSequence s).clk = s.clk ∧ (l.foldl State.refOnSequence s).candidates = s.candidates ∧
    (l.foldl State.refOnSequence s).ad = s.ad ∧ (l.foldl State.refOnSequence s).lg = s.lg ∧
    (l.foldl State.refOnSequence s).vc = s.vc ∧ (l.foldl State.refOnSequence s).gd = s.gd ∧
    (l.foldl State.refOnSequence s).br = s.br ∧ (l.foldl State.refOnSequence s).sq = s.sq ∧
    (l.foldl State.refOnSequence s).rc = s.rc ∧ (l.foldl State.refOnSequence s).shadows = s.shadows ∧
    (l.foldl State.refOnSequence s).snapTravel = s.snapTravel ∧
    (l.foldl State.refOnSequence s).snapCount = s.snapCount ∧ (l.foldl State.refOnSequence s).pins = s.pins ∧
    (l.foldl State.refOnSequence s).lines = s.lines ∧ (l.foldl State.refOnSequence s).sampled = s.sampled ∧
    (l.foldl State.refOnSequence s).inputs = s.inputs ∧ (l.foldl State.refOnSequence s).freeCount = s.freeCount := by
  induction l generalizing s with
  | nil => simp
  | cons x l ih =>
    simp only [List.foldl_cons]
    simp [ih]

@[simp] theorem State.refsOnSequence_frame (s : State) :
    (s.refsOnSequence).pending = s.pending ∧ (s.refsOnSequence).port = s.port ∧ (s.refsOnSequence).regs = s.regs ∧
    (s.refsOnSequence).pattern = s.pattern ∧ (s.refsOnSequence).route = s.route ∧ (s.refsOnSequence).lp = s.lp ∧
    (s.refsOnSequence).clk = s.clk ∧ (s.refsOnSequence).candidates = s.candidates ∧ (s.refsOnSequence).ad = s.ad ∧
    (s.refsOnSequence).lg = s.lg ∧ (s.refsOnSequence).vc = s.vc ∧ (s.refsOnSequence).gd = s.gd ∧
    (s.refsOnSequence).br = s.br ∧ (s.refsOnSequence).sq = s.sq ∧ (s.refsOnSequence).rc = s.rc ∧
    (s.refsOnSequence).shadows = s.shadows ∧ (s.refsOnSequence).snapTravel = s.snapTravel ∧
    (s.refsOnSequence).snapCount = s.snapCount ∧ (s.refsOnSequence).pins = s.pins ∧
    (s.refsOnSequence).lines = s.lines ∧ (s.refsOnSequence).sampled = s.sampled ∧
    (s.refsOnSequence).inputs = s.inputs ∧ (s.refsOnSequence).freeCount = s.freeCount := by
  unfold State.refsOnSequence
  simp

@[simp] theorem State.startFull_frame (s : State) :
    (s.startFull).pending = s.pending ∧ (s.startFull).port = s.port ∧ (s.startFull).regs = s.regs ∧
    (s.startFull).pattern = s.pattern ∧ (s.startFull).route = s.route ∧ (s.startFull).lp = s.lp ∧
    (s.startFull).clk = s.clk ∧ (s.startFull).candidates = s.candidates ∧ (s.startFull).ad = s.ad ∧
    (s.startFull).lg = s.lg ∧ (s.startFull).vc = s.vc ∧ (s.startFull).gd = s.gd ∧ (s.startFull).br = s.br ∧
    (s.startFull).rc = s.rc ∧ (s.startFull).shadows = s.shadows ∧ (s.startFull).snapTravel = s.snapTravel ∧
    (s.startFull).snapCount = s.snapCount ∧ (s.startFull).pins = s.pins ∧ (s.startFull).lines = s.lines ∧
    (s.startFull).sampled = s.sampled ∧ (s.startFull).inputs = s.inputs ∧ (s.startFull).freeCount = s.freeCount := by
  unfold State.startFull
  simp

@[simp] theorem State.startStation_frame (s : State) :
    (s.startStation).pending = s.pending ∧ (s.startStation).port = s.port ∧ (s.startStation).regs = s.regs ∧
    (s.startStation).pattern = s.pattern ∧ (s.startStation).route = s.route ∧ (s.startStation).lp = s.lp ∧
    (s.startStation).clk = s.clk ∧ (s.startStation).candidates = s.candidates ∧ (s.startStation).ad = s.ad ∧
    (s.startStation).lg = s.lg ∧ (s.startStation).vc = s.vc ∧ (s.startStation).gd = s.gd ∧
    (s.startStation).br = s.br ∧ (s.startStation).rc = s.rc ∧ (s.startStation).shadows = s.shadows ∧
    (s.startStation).snapTravel = s.snapTravel ∧ (s.startStation).snapCount = s.snapCount ∧
    (s.startStation).pins = s.pins ∧ (s.startStation).lines = s.lines ∧ (s.startStation).sampled = s.sampled ∧
    (s.startStation).inputs = s.inputs ∧ (s.startStation).freeCount = s.freeCount := by
  unfold State.startStation
  simp

@[simp] theorem State.seqStarts_frame (s : State) :
    (s.seqStarts).pending = s.pending ∧ (s.seqStarts).port = s.port ∧ (s.seqStarts).regs = s.regs ∧
    (s.seqStarts).pattern = s.pattern ∧ (s.seqStarts).route = s.route ∧ (s.seqStarts).lp = s.lp ∧
    (s.seqStarts).clk = s.clk ∧ (s.seqStarts).candidates = s.candidates ∧ (s.seqStarts).ad = s.ad ∧
    (s.seqStarts).lg = s.lg ∧ (s.seqStarts).vc = s.vc ∧ (s.seqStarts).gd = s.gd ∧ (s.seqStarts).br = s.br ∧
    (s.seqStarts).rc = s.rc ∧ (s.seqStarts).shadows = s.shadows ∧ (s.seqStarts).snapTravel = s.snapTravel ∧
    (s.seqStarts).snapCount = s.snapCount ∧ (s.seqStarts).pins = s.pins ∧ (s.seqStarts).lines = s.lines ∧
    (s.seqStarts).sampled = s.sampled ∧ (s.seqStarts).inputs = s.inputs ∧ (s.seqStarts).freeCount = s.freeCount := by
  unfold State.seqStarts
  dsimp only
  (repeat' split) <;> simp

@[simp] theorem markEach_frame (l : List RefGen) (s : State) :
    (l.foldl State.refMark s).pending = s.pending ∧ (l.foldl State.refMark s).port = s.port ∧
    (l.foldl State.refMark s).regs = s.regs ∧ (l.foldl State.refMark s).pattern = s.pattern ∧
    (l.foldl State.refMark s).route = s.route ∧ (l.foldl State.refMark s).lp = s.lp ∧
    (l.foldl State.refMark s).clk = s.clk ∧ (l.foldl State.refMark s).candidates = s.candidates ∧
    (l.foldl State.refMark s).ad = s.ad ∧ (l.foldl State.refMark s).lg = s.lg ∧
    (l.foldl State.refMark s).vc = s.vc ∧ (l.foldl State.refMark s).gd = s.gd ∧
    (l.foldl State.refMark s).sl = s.sl ∧ (l.foldl State.refMark s).br = s.br ∧
    (l.foldl State.refMark s).sq = s.sq ∧ (l.foldl State.refMark s).rc = s.rc ∧
    (l.foldl State.refMark s).counters = s.counters ∧ (l.foldl State.refMark s).shadows = s.shadows ∧
    (l.foldl State.refMark s).snapTravel = s.snapTravel ∧ (l.foldl State.refMark s).snapCount = s.snapCount ∧
    (l.foldl State.refMark s).pins = s.pins ∧ (l.foldl State.refMark s).lines = s.lines ∧
    (l.foldl State.refMark s).sampled = s.sampled ∧ (l.foldl State.refMark s).inputs = s.inputs ∧
    (l.foldl State.refMark s).freeCount = s.freeCount := by
  induction l generalizing s with
  | nil => simp
  | cons x l ih =>
    simp only [List.foldl_cons]
    simp [ih]

@[simp] theorem State.stepFive_frame (s : State) :
    (s.stepFive).pending = s.pending ∧ (s.stepFive).port = s.port ∧ (s.stepFive).regs = s.regs ∧
    (s.stepFive).pattern = s.pattern ∧ (s.stepFive).route = s.route ∧ (s.stepFive).lp = s.lp ∧
    (s.stepFive).clk = s.clk ∧ (s.stepFive).candidates = s.candidates ∧ (s.stepFive).ad = s.ad ∧
    (s.stepFive).lg = s.lg ∧ (s.stepFive).vc = s.vc ∧ (s.stepFive).gd = s.gd ∧ (s.stepFive).br = s.br ∧
    (s.stepFive).shadows = s.shadows ∧ (s.stepFive).snapTravel = s.snapTravel ∧
    (s.stepFive).snapCount = s.snapCount ∧ (s.stepFive).pins = s.pins ∧ (s.stepFive).lines = s.lines ∧
    (s.stepFive).sampled = s.sampled ∧ (s.stepFive).inputs = s.inputs ∧ (s.stepFive).freeCount = s.freeCount := by
  unfold State.stepFive
  dsimp only
  simp

@[simp] theorem State.stepsFromThree_frame (s : State) (start : Bool) :
    (s.stepsFromThree start).pending = s.pending ∧ (s.stepsFromThree start).port = s.port ∧
    (s.stepsFromThree start).regs = s.regs ∧ (s.stepsFromThree start).pattern = s.pattern ∧
    (s.stepsFromThree start).route = s.route ∧ (s.stepsFromThree start).lp = s.lp ∧
    (s.stepsFromThree start).clk = s.clk ∧ (s.stepsFromThree start).shadows = s.shadows ∧
    (s.stepsFromThree start).snapTravel = s.snapTravel ∧ (s.stepsFromThree start).snapCount = s.snapCount ∧
    (s.stepsFromThree start).pins = s.pins ∧ (s.stepsFromThree start).lines = s.lines ∧
    (s.stepsFromThree start).sampled = s.sampled ∧ (s.stepsFromThree start).inputs = s.inputs := by
  unfold State.stepsFromThree
  dsimp only
  simp

@[simp] theorem State.positionEvent_frame (s : State) :
    (s.positionEvent).pending = s.pending ∧ (s.positionEvent).port = s.port ∧ (s.positionEvent).regs = s.regs ∧
    (s.positionEvent).pattern = s.pattern ∧ (s.positionEvent).route = s.route ∧
    (s.positionEvent).shadows = s.shadows ∧ (s.positionEvent).snapTravel = s.snapTravel ∧
    (s.positionEvent).snapCount = s.snapCount ∧ (s.positionEvent).pins = s.pins ∧
    (s.positionEvent).lines = s.lines ∧ (s.positionEvent).sampled = s.sampled ∧ (s.positionEvent).inputs = s.inputs := by
  unfold State.positionEvent
  dsimp only
  simp

@[simp] theorem State.abortSeq_frame (s : State) (i : SeqId) :
    (s.abortSeq i).pending = s.pending ∧ (s.abortSeq i).port = s.port ∧ (s.abortSeq i).regs = s.regs ∧
    (s.abortSeq i).pattern = s.pattern ∧ (s.abortSeq i).route = s.route ∧ (s.abortSeq i).lp = s.lp ∧
    (s.abortSeq i).clk = s.clk ∧ (s.abortSeq i).cs = s.cs ∧ (s.abortSeq i).candidates = s.candidates ∧
    (s.abortSeq i).ad = s.ad ∧ (s.abortSeq i).lg = s.lg ∧ (s.abortSeq i).vc = s.vc ∧ (s.abortSeq i).gd = s.gd ∧
    (s.abortSeq i).sl = s.sl ∧ (s.abortSeq i).br = s.br ∧ (s.abortSeq i).rc = s.rc ∧
    (s.abortSeq i).shadows = s.shadows ∧ (s.abortSeq i).snapTravel = s.snapTravel ∧
    (s.abortSeq i).snapCount = s.snapCount ∧ (s.abortSeq i).pins = s.pins ∧ (s.abortSeq i).lines = s.lines ∧
    (s.abortSeq i).sampled = s.sampled ∧ (s.abortSeq i).inputs = s.inputs ∧ (s.abortSeq i).freeCount = s.freeCount := by
  unfold State.abortSeq
  (repeat' split) <;> simp

end Sys2Proof.Machine
end

