-- ==== Sys2Proof/Laws/Frame4.lean ====
section
/-! SUPPORT. What the Verdict Channel and the Station Link leave alone: one lemma for each, a conjunction over the fields of State. -/

namespace Sys2Proof.Machine

@[simp] theorem State.storeVerdict_frame (s : State) (id : Ident) (v : Verdict) :
    (s.storeVerdict id v).pending = s.pending ∧ (s.storeVerdict id v).port = s.port ∧
    (s.storeVerdict id v).regs = s.regs ∧ (s.storeVerdict id v).pattern = s.pattern ∧
    (s.storeVerdict id v).route = s.route ∧ (s.storeVerdict id v).lp = s.lp ∧ (s.storeVerdict id v).clk = s.clk ∧
    (s.storeVerdict id v).cs = s.cs ∧ (s.storeVerdict id v).candidates = s.candidates ∧
    (s.storeVerdict id v).ad = s.ad ∧ (s.storeVerdict id v).vc = s.vc ∧ (s.storeVerdict id v).gd = s.gd ∧
    (s.storeVerdict id v).sl = s.sl ∧ (s.storeVerdict id v).br = s.br ∧ (s.storeVerdict id v).sq = s.sq ∧
    (s.storeVerdict id v).rc = s.rc ∧ (s.storeVerdict id v).shadows = s.shadows ∧
    (s.storeVerdict id v).snapTravel = s.snapTravel ∧ (s.storeVerdict id v).snapCount = s.snapCount ∧
    (s.storeVerdict id v).pins = s.pins ∧ (s.storeVerdict id v).lines = s.lines ∧
    (s.storeVerdict id v).sampled = s.sampled ∧ (s.storeVerdict id v).inputs = s.inputs ∧
    (s.storeVerdict id v).freeCount = s.freeCount := by
  unfold State.storeVerdict
  dsimp only
  simp

@[simp] theorem State.duplicate_frame (s : State) (stored code : Disposition) :
    (s.duplicate stored code).pending = s.pending ∧ (s.duplicate stored code).port = s.port ∧
    (s.duplicate stored code).regs = s.regs ∧ (s.duplicate stored code).pattern = s.pattern ∧
    (s.duplicate stored code).route = s.route ∧ (s.duplicate stored code).lp = s.lp ∧
    (s.duplicate stored code).clk = s.clk ∧ (s.duplicate stored code).cs = s.cs ∧
    (s.duplicate stored code).candidates = s.candidates ∧ (s.duplicate stored code).ad = s.ad ∧
    (s.duplicate stored code).lg = s.lg ∧ (s.duplicate stored code).vc = s.vc ∧
    (s.duplicate stored code).gd = s.gd ∧ (s.duplicate stored code).sl = s.sl ∧
    (s.duplicate stored code).br = s.br ∧ (s.duplicate stored code).sq = s.sq ∧
    (s.duplicate stored code).shadows = s.shadows ∧ (s.duplicate stored code).snapTravel = s.snapTravel ∧
    (s.duplicate stored code).snapCount = s.snapCount ∧ (s.duplicate stored code).pins = s.pins ∧
    (s.duplicate stored code).lines = s.lines ∧ (s.duplicate stored code).sampled = s.sampled ∧
    (s.duplicate stored code).inputs = s.inputs ∧ (s.duplicate stored code).freeCount = s.freeCount := by
  unfold State.duplicate
  dsimp only
  (repeat' split) <;> simp

@[simp] theorem State.lateVerdict_frame (s : State) (id : Ident) (applied code : Disposition) (detail : Byte) (ooo : Bool) :
    (s.lateVerdict id applied code detail ooo).pending = s.pending ∧
    (s.lateVerdict id applied code detail ooo).port = s.port ∧
    (s.lateVerdict id applied code detail ooo).regs = s.regs ∧
    (s.lateVerdict id applied code detail ooo).pattern = s.pattern ∧
    (s.lateVerdict id applied code detail ooo).route = s.route ∧
    (s.lateVerdict id applied code detail ooo).lp = s.lp ∧ (s.lateVerdict id applied code detail ooo).clk = s.clk ∧
    (s.lateVerdict id applied code detail ooo).cs = s.cs ∧
    (s.lateVerdict id applied code detail ooo).candidates = s.candidates ∧
    (s.lateVerdict id applied code detail ooo).ad = s.ad ∧ (s.lateVerdict id applied code detail ooo).lg = s.lg ∧
    (s.lateVerdict id applied code detail ooo).vc = s.vc ∧ (s.lateVerdict id applied code detail ooo).sl = s.sl ∧
    (s.lateVerdict id applied code detail ooo).br = s.br ∧ (s.lateVerdict id applied code detail ooo).sq = s.sq ∧
    (s.lateVerdict id applied code detail ooo).shadows = s.shadows ∧
    (s.lateVerdict id applied code detail ooo).snapTravel = s.snapTravel ∧
    (s.lateVerdict id applied code detail ooo).snapCount = s.snapCount ∧
    (s.lateVerdict id applied code detail ooo).pins = s.pins ∧
    (s.lateVerdict id applied code detail ooo).lines = s.lines ∧
    (s.lateVerdict id applied code detail ooo).sampled = s.sampled ∧
    (s.lateVerdict id applied code detail ooo).inputs = s.inputs ∧
    (s.lateVerdict id applied code detail ooo).freeCount = s.freeCount := by
  unfold State.lateVerdict
  simp

@[simp] theorem State.classify_frame (s : State) (id : Ident) (code : Disposition) (detail : Byte) (ooo : Bool) :
    (s.classify id code detail ooo).pending = s.pending ∧ (s.classify id code detail ooo).port = s.port ∧
    (s.classify id code detail ooo).regs = s.regs ∧ (s.classify id code detail ooo).pattern = s.pattern ∧
    (s.classify id code detail ooo).route = s.route ∧ (s.classify id code detail ooo).lp = s.lp ∧
    (s.classify id code detail ooo).clk = s.clk ∧ (s.classify id code detail ooo).cs = s.cs ∧
    (s.classify id code detail ooo).candidates = s.candidates ∧ (s.classify id code detail ooo).ad = s.ad ∧
    (s.classify id code detail ooo).vc = s.vc ∧ (s.classify id code detail ooo).sl = s.sl ∧
    (s.classify id code detail ooo).br = s.br ∧ (s.classify id code detail ooo).sq = s.sq ∧
    (s.classify id code detail ooo).shadows = s.shadows ∧
    (s.classify id code detail ooo).snapTravel = s.snapTravel ∧
    (s.classify id code detail ooo).snapCount = s.snapCount ∧ (s.classify id code detail ooo).pins = s.pins ∧
    (s.classify id code detail ooo).lines = s.lines ∧ (s.classify id code detail ooo).sampled = s.sampled ∧
    (s.classify id code detail ooo).inputs = s.inputs ∧ (s.classify id code detail ooo).freeCount = s.freeCount := by
  unfold State.classify
  (repeat' split) <;> simp

@[simp] theorem State.matchRecord_frame (s : State) (id : Ident) (code : Disposition) (detail : Byte) :
    (s.matchRecord id code detail).pending = s.pending ∧ (s.matchRecord id code detail).port = s.port ∧
    (s.matchRecord id code detail).regs = s.regs ∧ (s.matchRecord id code detail).pattern = s.pattern ∧
    (s.matchRecord id code detail).route = s.route ∧ (s.matchRecord id code detail).lp = s.lp ∧
    (s.matchRecord id code detail).clk = s.clk ∧ (s.matchRecord id code detail).cs = s.cs ∧
    (s.matchRecord id code detail).candidates = s.candidates ∧ (s.matchRecord id code detail).ad = s.ad ∧
    (s.matchRecord id code detail).vc = s.vc ∧ (s.matchRecord id code detail).sl = s.sl ∧
    (s.matchRecord id code detail).br = s.br ∧ (s.matchRecord id code detail).sq = s.sq ∧
    (s.matchRecord id code detail).shadows = s.shadows ∧ (s.matchRecord id code detail).snapTravel = s.snapTravel ∧
    (s.matchRecord id code detail).snapCount = s.snapCount ∧ (s.matchRecord id code detail).pins = s.pins ∧
    (s.matchRecord id code detail).lines = s.lines ∧ (s.matchRecord id code detail).sampled = s.sampled ∧
    (s.matchRecord id code detail).inputs = s.inputs ∧ (s.matchRecord id code detail).freeCount = s.freeCount := by
  unfold State.matchRecord
  dsimp only
  (repeat' split) <;> simp

@[simp] theorem State.applyRecord_frame (s : State) (r : VerdictRecord) :
    (s.applyRecord r).pending = s.pending ∧ (s.applyRecord r).port = s.port ∧ (s.applyRecord r).regs = s.regs ∧
    (s.applyRecord r).pattern = s.pattern ∧ (s.applyRecord r).route = s.route ∧ (s.applyRecord r).lp = s.lp ∧
    (s.applyRecord r).clk = s.clk ∧ (s.applyRecord r).cs = s.cs ∧ (s.applyRecord r).candidates = s.candidates ∧
    (s.applyRecord r).ad = s.ad ∧ (s.applyRecord r).vc = s.vc ∧ (s.applyRecord r).sl = s.sl ∧
    (s.applyRecord r).br = s.br ∧ (s.applyRecord r).sq = s.sq ∧ (s.applyRecord r).shadows = s.shadows ∧
    (s.applyRecord r).snapTravel = s.snapTravel ∧ (s.applyRecord r).snapCount = s.snapCount ∧
    (s.applyRecord r).pins = s.pins ∧ (s.applyRecord r).lines = s.lines ∧ (s.applyRecord r).sampled = s.sampled ∧
    (s.applyRecord r).inputs = s.inputs ∧ (s.applyRecord r).freeCount = s.freeCount := by
  unfold State.applyRecord
  (repeat' split) <;> simp

@[simp] theorem State.setLastError_frame (s : State) (code : Nat) :
    (s.setLastError code).pending = s.pending ∧ (s.setLastError code).port = s.port ∧
    (s.setLastError code).regs = s.regs ∧ (s.setLastError code).pattern = s.pattern ∧
    (s.setLastError code).route = s.route ∧ (s.setLastError code).lp = s.lp ∧ (s.setLastError code).clk = s.clk ∧
    (s.setLastError code).cs = s.cs ∧ (s.setLastError code).candidates = s.candidates ∧
    (s.setLastError code).ad = s.ad ∧ (s.setLastError code).lg = s.lg ∧ (s.setLastError code).gd = s.gd ∧
    (s.setLastError code).sl = s.sl ∧ (s.setLastError code).br = s.br ∧ (s.setLastError code).sq = s.sq ∧
    (s.setLastError code).rc = s.rc ∧ (s.setLastError code).counters = s.counters ∧
    (s.setLastError code).shadows = s.shadows ∧ (s.setLastError code).snapTravel = s.snapTravel ∧
    (s.setLastError code).snapCount = s.snapCount ∧ (s.setLastError code).pins = s.pins ∧
    (s.setLastError code).lines = s.lines ∧ (s.setLastError code).sampled = s.sampled ∧
    (s.setLastError code).inputs = s.inputs ∧ (s.setLastError code).freeCount = s.freeCount := by
  refine ⟨rfl, rfl, rfl, rfl, rfl, rfl, rfl, rfl, rfl, rfl, rfl, rfl, rfl, rfl, rfl, rfl, rfl, rfl, rfl, rfl, rfl, rfl, rfl, rfl, rfl⟩

@[simp] theorem State.checkSequence_frame (s : State) (seqNo : Byte) :
    (s.checkSequence seqNo).pending = s.pending ∧ (s.checkSequence seqNo).port = s.port ∧
    (s.checkSequence seqNo).regs = s.regs ∧ (s.checkSequence seqNo).pattern = s.pattern ∧
    (s.checkSequence seqNo).route = s.route ∧ (s.checkSequence seqNo).lp = s.lp ∧
    (s.checkSequence seqNo).clk = s.clk ∧ (s.checkSequence seqNo).cs = s.cs ∧
    (s.checkSequence seqNo).candidates = s.candidates ∧ (s.checkSequence seqNo).ad = s.ad ∧
    (s.checkSequence seqNo).lg = s.lg ∧ (s.checkSequence seqNo).gd = s.gd ∧ (s.checkSequence seqNo).sl = s.sl ∧
    (s.checkSequence seqNo).br = s.br ∧ (s.checkSequence seqNo).sq = s.sq ∧
    (s.checkSequence seqNo).shadows = s.shadows ∧ (s.checkSequence seqNo).snapTravel = s.snapTravel ∧
    (s.checkSequence seqNo).snapCount = s.snapCount ∧ (s.checkSequence seqNo).pins = s.pins ∧
    (s.checkSequence seqNo).lines = s.lines ∧ (s.checkSequence seqNo).sampled = s.sampled ∧
    (s.checkSequence seqNo).inputs = s.inputs ∧ (s.checkSequence seqNo).freeCount = s.freeCount := by
  unfold State.checkSequence
  dsimp only
  (repeat' split) <;> simp

@[simp] theorem State.restartSilence_frame (s : State) :
    (s.restartSilence).pending = s.pending ∧ (s.restartSilence).port = s.port ∧ (s.restartSilence).regs = s.regs ∧
    (s.restartSilence).pattern = s.pattern ∧ (s.restartSilence).route = s.route ∧ (s.restartSilence).lp = s.lp ∧
    (s.restartSilence).clk = s.clk ∧ (s.restartSilence).cs = s.cs ∧ (s.restartSilence).candidates = s.candidates ∧
    (s.restartSilence).ad = s.ad ∧ (s.restartSilence).lg = s.lg ∧ (s.restartSilence).gd = s.gd ∧
    (s.restartSilence).sl = s.sl ∧ (s.restartSilence).br = s.br ∧ (s.restartSilence).sq = s.sq ∧
    (s.restartSilence).rc = s.rc ∧ (s.restartSilence).counters = s.counters ∧
    (s.restartSilence).shadows = s.shadows ∧ (s.restartSilence).snapTravel = s.snapTravel ∧
    (s.restartSilence).snapCount = s.snapCount ∧ (s.restartSilence).pins = s.pins ∧
    (s.restartSilence).lines = s.lines ∧ (s.restartSilence).sampled = s.sampled ∧
    (s.restartSilence).inputs = s.inputs ∧ (s.restartSilence).freeCount = s.freeCount := by
  refine ⟨rfl, rfl, rfl, rfl, rfl, rfl, rfl, rfl, rfl, rfl, rfl, rfl, rfl, rfl, rfl, rfl, rfl, rfl, rfl, rfl, rfl, rfl, rfl, rfl, rfl⟩

@[simp] theorem applyEach_frame (l : List VerdictRecord) (s : State) :
    (l.foldl State.applyRecord s).pending = s.pending ∧ (l.foldl State.applyRecord s).port = s.port ∧
    (l.foldl State.applyRecord s).regs = s.regs ∧ (l.foldl State.applyRecord s).pattern = s.pattern ∧
    (l.foldl State.applyRecord s).route = s.route ∧ (l.foldl State.applyRecord s).lp = s.lp ∧
    (l.foldl State.applyRecord s).clk = s.clk ∧ (l.foldl State.applyRecord s).cs = s.cs ∧
    (l.foldl State.applyRecord s).candidates = s.candidates ∧ (l.foldl State.applyRecord s).ad = s.ad ∧
    (l.foldl State.applyRecord s).vc = s.vc ∧ (l.foldl State.applyRecord s).sl = s.sl ∧
    (l.foldl State.applyRecord s).br = s.br ∧ (l.foldl State.applyRecord s).sq = s.sq ∧
    (l.foldl State.applyRecord s).shadows = s.shadows ∧ (l.foldl State.applyRecord s).snapTravel = s.snapTravel ∧
    (l.foldl State.applyRecord s).snapCount = s.snapCount ∧ (l.foldl State.applyRecord s).pins = s.pins ∧
    (l.foldl State.applyRecord s).lines = s.lines ∧ (l.foldl State.applyRecord s).sampled = s.sampled ∧
    (l.foldl State.applyRecord s).inputs = s.inputs ∧ (l.foldl State.applyRecord s).freeCount = s.freeCount := by
  induction l generalizing s with
  | nil => simp
  | cons x l ih =>
    simp only [List.foldl_cons]
    simp [ih]

@[simp] theorem State.acceptPacket_frame (s : State) (seqNo : Byte) (records : List VerdictRecord) :
    (s.acceptPacket seqNo records).pending = s.pending ∧ (s.acceptPacket seqNo records).port = s.port ∧
    (s.acceptPacket seqNo records).regs = s.regs ∧ (s.acceptPacket seqNo records).pattern = s.pattern ∧
    (s.acceptPacket seqNo records).route = s.route ∧ (s.acceptPacket seqNo records).lp = s.lp ∧
    (s.acceptPacket seqNo records).clk = s.clk ∧ (s.acceptPacket seqNo records).cs = s.cs ∧
    (s.acceptPacket seqNo records).candidates = s.candidates ∧ (s.acceptPacket seqNo records).ad = s.ad ∧
    (s.acceptPacket seqNo records).sl = s.sl ∧ (s.acceptPacket seqNo records).br = s.br ∧
    (s.acceptPacket seqNo records).sq = s.sq ∧ (s.acceptPacket seqNo records).shadows = s.shadows ∧
    (s.acceptPacket seqNo records).snapTravel = s.snapTravel ∧
    (s.acceptPacket seqNo records).snapCount = s.snapCount ∧ (s.acceptPacket seqNo records).pins = s.pins ∧
    (s.acceptPacket seqNo records).lines = s.lines ∧ (s.acceptPacket seqNo records).sampled = s.sampled ∧
    (s.acceptPacket seqNo records).inputs = s.inputs ∧ (s.acceptPacket seqNo records).freeCount = s.freeCount := by
  unfold State.acceptPacket
  simp

@[simp] theorem State.startTx_frame (s : State) (c : FlowChar) :
    (s.startTx c).pending = s.pending ∧ (s.startTx c).port = s.port ∧ (s.startTx c).regs = s.regs ∧
    (s.startTx c).pattern = s.pattern ∧ (s.startTx c).route = s.route ∧ (s.startTx c).lp = s.lp ∧
    (s.startTx c).clk = s.clk ∧ (s.startTx c).cs = s.cs ∧ (s.startTx c).candidates = s.candidates ∧
    (s.startTx c).ad = s.ad ∧ (s.startTx c).lg = s.lg ∧ (s.startTx c).gd = s.gd ∧ (s.startTx c).sl = s.sl ∧
    (s.startTx c).br = s.br ∧ (s.startTx c).sq = s.sq ∧ (s.startTx c).rc = s.rc ∧
    (s.startTx c).shadows = s.shadows ∧ (s.startTx c).snapTravel = s.snapTravel ∧
    (s.startTx c).snapCount = s.snapCount ∧ (s.startTx c).pins = s.pins ∧ (s.startTx c).lines = s.lines ∧
    (s.startTx c).sampled = s.sampled ∧ (s.startTx c).inputs = s.inputs ∧ (s.startTx c).freeCount = s.freeCount := by
  cases c <;> simp [State.startTx]

@[simp] theorem State.requestTx_frame (s : State) (c : FlowChar) :
    (s.requestTx c).pending = s.pending ∧ (s.requestTx c).port = s.port ∧ (s.requestTx c).regs = s.regs ∧
    (s.requestTx c).pattern = s.pattern ∧ (s.requestTx c).route = s.route ∧ (s.requestTx c).lp = s.lp ∧
    (s.requestTx c).clk = s.clk ∧ (s.requestTx c).cs = s.cs ∧ (s.requestTx c).candidates = s.candidates ∧
    (s.requestTx c).ad = s.ad ∧ (s.requestTx c).lg = s.lg ∧ (s.requestTx c).gd = s.gd ∧ (s.requestTx c).sl = s.sl ∧
    (s.requestTx c).br = s.br ∧ (s.requestTx c).sq = s.sq ∧ (s.requestTx c).rc = s.rc ∧
    (s.requestTx c).shadows = s.shadows ∧ (s.requestTx c).snapTravel = s.snapTravel ∧
    (s.requestTx c).snapCount = s.snapCount ∧ (s.requestTx c).pins = s.pins ∧ (s.requestTx c).lines = s.lines ∧
    (s.requestTx c).sampled = s.sampled ∧ (s.requestTx c).inputs = s.inputs ∧
    (s.requestTx c).freeCount = s.freeCount := by
  unfold State.requestTx
  dsimp only
  (repeat' split) <;> simp

@[simp] theorem State.completeTx_frame (s : State) :
    (s.completeTx).pending = s.pending ∧ (s.completeTx).port = s.port ∧ (s.completeTx).regs = s.regs ∧
    (s.completeTx).pattern = s.pattern ∧ (s.completeTx).route = s.route ∧ (s.completeTx).lp = s.lp ∧
    (s.completeTx).clk = s.clk ∧ (s.completeTx).cs = s.cs ∧ (s.completeTx).candidates = s.candidates ∧
    (s.completeTx).ad = s.ad ∧ (s.completeTx).lg = s.lg ∧ (s.completeTx).gd = s.gd ∧ (s.completeTx).sl = s.sl ∧
    (s.completeTx).br = s.br ∧ (s.completeTx).sq = s.sq ∧ (s.completeTx).rc = s.rc ∧
    (s.completeTx).shadows = s.shadows ∧ (s.completeTx).snapTravel = s.snapTravel ∧
    (s.completeTx).snapCount = s.snapCount ∧ (s.completeTx).pins = s.pins ∧ (s.completeTx).lines = s.lines ∧
    (s.completeTx).sampled = s.sampled ∧ (s.completeTx).inputs = s.inputs ∧ (s.completeTx).freeCount = s.freeCount := by
  unfold State.completeTx
  dsimp only
  (repeat' split) <;> simp

@[simp] theorem State.evalPause_frame (s : State) :
    (s.evalPause).pending = s.pending ∧ (s.evalPause).port = s.port ∧ (s.evalPause).regs = s.regs ∧
    (s.evalPause).pattern = s.pattern ∧ (s.evalPause).route = s.route ∧ (s.evalPause).lp = s.lp ∧
    (s.evalPause).clk = s.clk ∧ (s.evalPause).cs = s.cs ∧ (s.evalPause).candidates = s.candidates ∧
    (s.evalPause).ad = s.ad ∧ (s.evalPause).lg = s.lg ∧ (s.evalPause).gd = s.gd ∧ (s.evalPause).sl = s.sl ∧
    (s.evalPause).br = s.br ∧ (s.evalPause).sq = s.sq ∧ (s.evalPause).rc = s.rc ∧
    (s.evalPause).shadows = s.shadows ∧ (s.evalPause).snapTravel = s.snapTravel ∧
    (s.evalPause).snapCount = s.snapCount ∧ (s.evalPause).pins = s.pins ∧ (s.evalPause).lines = s.lines ∧
    (s.evalPause).sampled = s.sampled ∧ (s.evalPause).inputs = s.inputs ∧ (s.evalPause).freeCount = s.freeCount := by
  unfold State.evalPause
  dsimp only
  (repeat' split) <;> simp

@[simp] theorem State.evalStall_frame (s : State) :
    (s.evalStall).pending = s.pending ∧ (s.evalStall).port = s.port ∧ (s.evalStall).regs = s.regs ∧
    (s.evalStall).pattern = s.pattern ∧ (s.evalStall).route = s.route ∧ (s.evalStall).lp = s.lp ∧
    (s.evalStall).clk = s.clk ∧ (s.evalStall).cs = s.cs ∧ (s.evalStall).candidates = s.candidates ∧
    (s.evalStall).ad = s.ad ∧ (s.evalStall).lg = s.lg ∧ (s.evalStall).gd = s.gd ∧ (s.evalStall).sl = s.sl ∧
    (s.evalStall).br = s.br ∧ (s.evalStall).sq = s.sq ∧ (s.evalStall).rc = s.rc ∧
    (s.evalStall).counters = s.counters ∧ (s.evalStall).shadows = s.shadows ∧
    (s.evalStall).snapTravel = s.snapTravel ∧ (s.evalStall).snapCount = s.snapCount ∧ (s.evalStall).pins = s.pins ∧
    (s.evalStall).lines = s.lines ∧ (s.evalStall).sampled = s.sampled ∧ (s.evalStall).inputs = s.inputs ∧
    (s.evalStall).freeCount = s.freeCount := by
  unfold State.evalStall
  dsimp only
  (repeat' split) <;> simp

@[simp] theorem State.evalFlow_frame (s : State) :
    (s.evalFlow).pending = s.pending ∧ (s.evalFlow).port = s.port ∧ (s.evalFlow).regs = s.regs ∧
    (s.evalFlow).pattern = s.pattern ∧ (s.evalFlow).route = s.route ∧ (s.evalFlow).lp = s.lp ∧
    (s.evalFlow).clk = s.clk ∧ (s.evalFlow).cs = s.cs ∧ (s.evalFlow).candidates = s.candidates ∧
    (s.evalFlow).ad = s.ad ∧ (s.evalFlow).lg = s.lg ∧ (s.evalFlow).gd = s.gd ∧ (s.evalFlow).sl = s.sl ∧
    (s.evalFlow).br = s.br ∧ (s.evalFlow).sq = s.sq ∧ (s.evalFlow).rc = s.rc ∧ (s.evalFlow).shadows = s.shadows ∧
    (s.evalFlow).snapTravel = s.snapTravel ∧ (s.evalFlow).snapCount = s.snapCount ∧ (s.evalFlow).pins = s.pins ∧
    (s.evalFlow).lines = s.lines ∧ (s.evalFlow).sampled = s.sampled ∧ (s.evalFlow).inputs = s.inputs ∧
    (s.evalFlow).freeCount = s.freeCount := by
  unfold State.evalFlow
  simp

@[simp] theorem State.countResend_frame (s : State) :
    (s.countResend).pending = s.pending ∧ (s.countResend).port = s.port ∧ (s.countResend).regs = s.regs ∧
    (s.countResend).pattern = s.pattern ∧ (s.countResend).route = s.route ∧ (s.countResend).lp = s.lp ∧
    (s.countResend).clk = s.clk ∧ (s.countResend).cs = s.cs ∧ (s.countResend).candidates = s.candidates ∧
    (s.countResend).ad = s.ad ∧ (s.countResend).lg = s.lg ∧ (s.countResend).gd = s.gd ∧ (s.countResend).sl = s.sl ∧
    (s.countResend).br = s.br ∧ (s.countResend).sq = s.sq ∧ (s.countResend).rc = s.rc ∧
    (s.countResend).shadows = s.shadows ∧ (s.countResend).snapTravel = s.snapTravel ∧
    (s.countResend).snapCount = s.snapCount ∧ (s.countResend).pins = s.pins ∧ (s.countResend).lines = s.lines ∧
    (s.countResend).sampled = s.sampled ∧ (s.countResend).inputs = s.inputs ∧
    (s.countResend).freeCount = s.freeCount := by
  unfold State.countResend
  dsimp only
  (repeat' split) <;> simp

@[simp] theorem State.endPause_frame (s : State) :
    (s.endPause).pending = s.pending ∧ (s.endPause).port = s.port ∧ (s.endPause).regs = s.regs ∧
    (s.endPause).pattern = s.pattern ∧ (s.endPause).route = s.route ∧ (s.endPause).lp = s.lp ∧
    (s.endPause).clk = s.clk ∧ (s.endPause).cs = s.cs ∧ (s.endPause).candidates = s.candidates ∧
    (s.endPause).ad = s.ad ∧ (s.endPause).lg = s.lg ∧ (s.endPause).gd = s.gd ∧ (s.endPause).sl = s.sl ∧
    (s.endPause).br = s.br ∧ (s.endPause).sq = s.sq ∧ (s.endPause).rc = s.rc ∧ (s.endPause).shadows = s.shadows ∧
    (s.endPause).snapTravel = s.snapTravel ∧ (s.endPause).snapCount = s.snapCount ∧ (s.endPause).pins = s.pins ∧
    (s.endPause).lines = s.lines ∧ (s.endPause).sampled = s.sampled ∧ (s.endPause).inputs = s.inputs ∧
    (s.endPause).freeCount = s.freeCount := by
  unfold State.endPause
  dsimp only
  (repeat' split) <;> simp

@[simp] theorem State.endStall_frame (s : State) :
    (s.endStall).pending = s.pending ∧ (s.endStall).port = s.port ∧ (s.endStall).regs = s.regs ∧
    (s.endStall).pattern = s.pattern ∧ (s.endStall).route = s.route ∧ (s.endStall).lp = s.lp ∧
    (s.endStall).clk = s.clk ∧ (s.endStall).cs = s.cs ∧ (s.endStall).candidates = s.candidates ∧
    (s.endStall).ad = s.ad ∧ (s.endStall).lg = s.lg ∧ (s.endStall).gd = s.gd ∧ (s.endStall).sl = s.sl ∧
    (s.endStall).br = s.br ∧ (s.endStall).sq = s.sq ∧ (s.endStall).rc = s.rc ∧ (s.endStall).counters = s.counters ∧
    (s.endStall).shadows = s.shadows ∧ (s.endStall).snapTravel = s.snapTravel ∧
    (s.endStall).snapCount = s.snapCount ∧ (s.endStall).pins = s.pins ∧ (s.endStall).lines = s.lines ∧
    (s.endStall).sampled = s.sampled ∧ (s.endStall).inputs = s.inputs ∧ (s.endStall).freeCount = s.freeCount := by
  refine ⟨rfl, rfl, rfl, rfl, rfl, rfl, rfl, rfl, rfl, rfl, rfl, rfl, rfl, rfl, rfl, rfl, rfl, rfl, rfl, rfl, rfl, rfl, rfl, rfl, rfl⟩

@[simp] theorem State.discardPacket_frame (s : State) (reason : Nat) :
    (s.discardPacket reason).pending = s.pending ∧ (s.discardPacket reason).port = s.port ∧
    (s.discardPacket reason).regs = s.regs ∧ (s.discardPacket reason).pattern = s.pattern ∧
    (s.discardPacket reason).route = s.route ∧ (s.discardPacket reason).lp = s.lp ∧
    (s.discardPacket reason).clk = s.clk ∧ (s.discardPacket reason).cs = s.cs ∧
    (s.discardPacket reason).candidates = s.candidates ∧ (s.discardPacket reason).ad = s.ad ∧
    (s.discardPacket reason).lg = s.lg ∧ (s.discardPacket reason).gd = s.gd ∧ (s.discardPacket reason).sl = s.sl ∧
    (s.discardPacket reason).br = s.br ∧ (s.discardPacket reason).sq = s.sq ∧
    (s.discardPacket reason).shadows = s.shadows ∧ (s.discardPacket reason).snapTravel = s.snapTravel ∧
    (s.discardPacket reason).snapCount = s.snapCount ∧ (s.discardPacket reason).pins = s.pins ∧
    (s.discardPacket reason).lines = s.lines ∧ (s.discardPacket reason).sampled = s.sampled ∧
    (s.discardPacket reason).inputs = s.inputs ∧ (s.discardPacket reason).freeCount = s.freeCount := by
  unfold State.discardPacket
  dsimp only
  simp

@[simp] theorem State.dropPacket_frame (s : State) :
    (s.dropPacket).pending = s.pending ∧ (s.dropPacket).port = s.port ∧ (s.dropPacket).regs = s.regs ∧
    (s.dropPacket).pattern = s.pattern ∧ (s.dropPacket).route = s.route ∧ (s.dropPacket).lp = s.lp ∧
    (s.dropPacket).clk = s.clk ∧ (s.dropPacket).cs = s.cs ∧ (s.dropPacket).candidates = s.candidates ∧
    (s.dropPacket).ad = s.ad ∧ (s.dropPacket).lg = s.lg ∧ (s.dropPacket).gd = s.gd ∧ (s.dropPacket).sl = s.sl ∧
    (s.dropPacket).br = s.br ∧ (s.dropPacket).sq = s.sq ∧ (s.dropPacket).rc = s.rc ∧
    (s.dropPacket).shadows = s.shadows ∧ (s.dropPacket).snapTravel = s.snapTravel ∧
    (s.dropPacket).snapCount = s.snapCount ∧ (s.dropPacket).pins = s.pins ∧ (s.dropPacket).lines = s.lines ∧
    (s.dropPacket).sampled = s.sampled ∧ (s.dropPacket).inputs = s.inputs ∧ (s.dropPacket).freeCount = s.freeCount := by
  unfold State.dropPacket
  dsimp only
  (repeat' split) <;> simp

@[simp] theorem State.hunt_frame (s : State) (e : FifoEntry) :
    (s.hunt e).pending = s.pending ∧ (s.hunt e).port = s.port ∧ (s.hunt e).regs = s.regs ∧
    (s.hunt e).pattern = s.pattern ∧ (s.hunt e).route = s.route ∧ (s.hunt e).lp = s.lp ∧ (s.hunt e).clk = s.clk ∧
    (s.hunt e).cs = s.cs ∧ (s.hunt e).candidates = s.candidates ∧ (s.hunt e).ad = s.ad ∧ (s.hunt e).lg = s.lg ∧
    (s.hunt e).gd = s.gd ∧ (s.hunt e).sl = s.sl ∧ (s.hunt e).br = s.br ∧ (s.hunt e).sq = s.sq ∧
    (s.hunt e).rc = s.rc ∧ (s.hunt e).shadows = s.shadows ∧ (s.hunt e).snapTravel = s.snapTravel ∧
    (s.hunt e).snapCount = s.snapCount ∧ (s.hunt e).pins = s.pins ∧ (s.hunt e).lines = s.lines ∧
    (s.hunt e).sampled = s.sampled ∧ (s.hunt e).inputs = s.inputs ∧ (s.hunt e).freeCount = s.freeCount := by
  unfold State.hunt
  dsimp only
  (repeat' split) <;> simp

@[simp] theorem State.takeHeader_frame (s : State) (p : Parser) (data : Byte) :
    (s.takeHeader p data).pending = s.pending ∧ (s.takeHeader p data).port = s.port ∧
    (s.takeHeader p data).regs = s.regs ∧ (s.takeHeader p data).pattern = s.pattern ∧
    (s.takeHeader p data).route = s.route ∧ (s.takeHeader p data).lp = s.lp ∧ (s.takeHeader p data).clk = s.clk ∧
    (s.takeHeader p data).cs = s.cs ∧ (s.takeHeader p data).candidates = s.candidates ∧
    (s.takeHeader p data).ad = s.ad ∧ (s.takeHeader p data).lg = s.lg ∧ (s.takeHeader p data).gd = s.gd ∧
    (s.takeHeader p data).sl = s.sl ∧ (s.takeHeader p data).br = s.br ∧ (s.takeHeader p data).sq = s.sq ∧
    (s.takeHeader p data).shadows = s.shadows ∧ (s.takeHeader p data).snapTravel = s.snapTravel ∧
    (s.takeHeader p data).snapCount = s.snapCount ∧ (s.takeHeader p data).pins = s.pins ∧
    (s.takeHeader p data).lines = s.lines ∧ (s.takeHeader p data).sampled = s.sampled ∧
    (s.takeHeader p data).inputs = s.inputs ∧ (s.takeHeader p data).freeCount = s.freeCount := by
  unfold State.takeHeader
  dsimp only
  (repeat' split) <;> simp

@[simp] theorem State.takeRecord_frame (s : State) (p : Parser) (data : Byte) :
    (s.takeRecord p data).pending = s.pending ∧ (s.takeRecord p data).port = s.port ∧
    (s.takeRecord p data).regs = s.regs ∧ (s.takeRecord p data).pattern = s.pattern ∧
    (s.takeRecord p data).route = s.route ∧ (s.takeRecord p data).lp = s.lp ∧ (s.takeRecord p data).clk = s.clk ∧
    (s.takeRecord p data).cs = s.cs ∧ (s.takeRecord p data).candidates = s.candidates ∧
    (s.takeRecord p data).ad = s.ad ∧ (s.takeRecord p data).lg = s.lg ∧ (s.takeRecord p data).gd = s.gd ∧
    (s.takeRecord p data).sl = s.sl ∧ (s.takeRecord p data).br = s.br ∧ (s.takeRecord p data).sq = s.sq ∧
    (s.takeRecord p data).rc = s.rc ∧ (s.takeRecord p data).counters = s.counters ∧
    (s.takeRecord p data).shadows = s.shadows ∧ (s.takeRecord p data).snapTravel = s.snapTravel ∧
    (s.takeRecord p data).snapCount = s.snapCount ∧ (s.takeRecord p data).pins = s.pins ∧
    (s.takeRecord p data).lines = s.lines ∧ (s.takeRecord p data).sampled = s.sampled ∧
    (s.takeRecord p data).inputs = s.inputs ∧ (s.takeRecord p data).freeCount = s.freeCount := by
  unfold State.takeRecord
  dsimp only
  simp

@[simp] theorem State.takeCheck_frame (s : State) (p : Parser) :
    (s.takeCheck p).pending = s.pending ∧ (s.takeCheck p).port = s.port ∧ (s.takeCheck p).regs = s.regs ∧
    (s.takeCheck p).pattern = s.pattern ∧ (s.takeCheck p).route = s.route ∧ (s.takeCheck p).lp = s.lp ∧
    (s.takeCheck p).clk = s.clk ∧ (s.takeCheck p).cs = s.cs ∧ (s.takeCheck p).candidates = s.candidates ∧
    (s.takeCheck p).ad = s.ad ∧ (s.takeCheck p).sl = s.sl ∧ (s.takeCheck p).br = s.br ∧ (s.takeCheck p).sq = s.sq ∧
    (s.takeCheck p).shadows = s.shadows ∧ (s.takeCheck p).snapTravel = s.snapTravel ∧
    (s.takeCheck p).snapCount = s.snapCount ∧ (s.takeCheck p).pins = s.pins ∧ (s.takeCheck p).lines = s.lines ∧
    (s.takeCheck p).sampled = s.sampled ∧ (s.takeCheck p).inputs = s.inputs ∧
    (s.takeCheck p).freeCount = s.freeCount := by
  unfold State.takeCheck
  dsimp only
  (repeat' split) <;> simp

@[simp] theorem State.collect_frame (s : State) (e : FifoEntry) :
    (s.collect e).pending = s.pending ∧ (s.collect e).port = s.port ∧ (s.collect e).regs = s.regs ∧
    (s.collect e).pattern = s.pattern ∧ (s.collect e).route = s.route ∧ (s.collect e).lp = s.lp ∧
    (s.collect e).clk = s.clk ∧ (s.collect e).cs = s.cs ∧ (s.collect e).candidates = s.candidates ∧
    (s.collect e).ad = s.ad ∧ (s.collect e).sl = s.sl ∧ (s.collect e).br = s.br ∧ (s.collect e).sq = s.sq ∧
    (s.collect e).shadows = s.shadows ∧ (s.collect e).snapTravel = s.snapTravel ∧
    (s.collect e).snapCount = s.snapCount ∧ (s.collect e).pins = s.pins ∧ (s.collect e).lines = s.lines ∧
    (s.collect e).sampled = s.sampled ∧ (s.collect e).inputs = s.inputs ∧ (s.collect e).freeCount = s.freeCount := by
  unfold State.collect
  dsimp only
  (repeat' split) <;> simp

@[simp] theorem State.parse_frame (s : State) (e : FifoEntry) :
    (s.parse e).pending = s.pending ∧ (s.parse e).port = s.port ∧ (s.parse e).regs = s.regs ∧
    (s.parse e).pattern = s.pattern ∧ (s.parse e).route = s.route ∧ (s.parse e).lp = s.lp ∧
    (s.parse e).clk = s.clk ∧ (s.parse e).cs = s.cs ∧ (s.parse e).candidates = s.candidates ∧
    (s.parse e).ad = s.ad ∧ (s.parse e).sl = s.sl ∧ (s.parse e).br = s.br ∧ (s.parse e).sq = s.sq ∧
    (s.parse e).shadows = s.shadows ∧ (s.parse e).snapTravel = s.snapTravel ∧ (s.parse e).snapCount = s.snapCount ∧
    (s.parse e).pins = s.pins ∧ (s.parse e).lines = s.lines ∧ (s.parse e).sampled = s.sampled ∧
    (s.parse e).inputs = s.inputs ∧ (s.parse e).freeCount = s.freeCount := by
  unfold State.parse
  (repeat' split) <;> simp

@[simp] theorem State.dropRawElement_frame (s : State) :
    (s.dropRawElement).pending = s.pending ∧ (s.dropRawElement).regs = s.regs ∧
    (s.dropRawElement).pattern = s.pattern ∧ (s.dropRawElement).route = s.route ∧ (s.dropRawElement).lp = s.lp ∧
    (s.dropRawElement).clk = s.clk ∧ (s.dropRawElement).cs = s.cs ∧ (s.dropRawElement).candidates = s.candidates ∧
    (s.dropRawElement).ad = s.ad ∧ (s.dropRawElement).lg = s.lg ∧ (s.dropRawElement).vc = s.vc ∧
    (s.dropRawElement).gd = s.gd ∧ (s.dropRawElement).sl = s.sl ∧ (s.dropRawElement).br = s.br ∧
    (s.dropRawElement).sq = s.sq ∧ (s.dropRawElement).rc = s.rc ∧ (s.dropRawElement).counters = s.counters ∧
    (s.dropRawElement).shadows = s.shadows ∧ (s.dropRawElement).snapTravel = s.snapTravel ∧
    (s.dropRawElement).snapCount = s.snapCount ∧ (s.dropRawElement).pins = s.pins ∧
    (s.dropRawElement).lines = s.lines ∧ (s.dropRawElement).sampled = s.sampled ∧
    (s.dropRawElement).inputs = s.inputs ∧ (s.dropRawElement).freeCount = s.freeCount := by
  unfold State.dropRawElement
  dsimp only
  (repeat' split) <;> simp

@[simp] theorem State.parserTake_frame (s : State) :
    (s.parserTake).pending = s.pending ∧ (s.parserTake).regs = s.regs ∧ (s.parserTake).pattern = s.pattern ∧
    (s.parserTake).route = s.route ∧ (s.parserTake).lp = s.lp ∧ (s.parserTake).clk = s.clk ∧
    (s.parserTake).cs = s.cs ∧ (s.parserTake).candidates = s.candidates ∧ (s.parserTake).ad = s.ad ∧
    (s.parserTake).sl = s.sl ∧ (s.parserTake).br = s.br ∧ (s.parserTake).sq = s.sq ∧
    (s.parserTake).shadows = s.shadows ∧ (s.parserTake).snapTravel = s.snapTravel ∧
    (s.parserTake).snapCount = s.snapCount ∧ (s.parserTake).pins = s.pins ∧ (s.parserTake).lines = s.lines ∧
    (s.parserTake).sampled = s.sampled ∧ (s.parserTake).inputs = s.inputs ∧ (s.parserTake).freeCount = s.freeCount := by
  unfold State.parserTake
  dsimp only
  (repeat' split) <;> simp

@[simp] theorem State.receive_frame (s : State) (c : LineChar) (gap : Bool) :
    (s.receive c gap).pending = s.pending ∧ (s.receive c gap).port = s.port ∧ (s.receive c gap).regs = s.regs ∧
    (s.receive c gap).pattern = s.pattern ∧ (s.receive c gap).route = s.route ∧ (s.receive c gap).lp = s.lp ∧
    (s.receive c gap).clk = s.clk ∧ (s.receive c gap).cs = s.cs ∧ (s.receive c gap).candidates = s.candidates ∧
    (s.receive c gap).ad = s.ad ∧ (s.receive c gap).lg = s.lg ∧ (s.receive c gap).gd = s.gd ∧
    (s.receive c gap).sl = s.sl ∧ (s.receive c gap).br = s.br ∧ (s.receive c gap).sq = s.sq ∧
    (s.receive c gap).shadows = s.shadows ∧ (s.receive c gap).snapTravel = s.snapTravel ∧
    (s.receive c gap).snapCount = s.snapCount ∧ (s.receive c gap).pins = s.pins ∧
    (s.receive c gap).lines = s.lines ∧ (s.receive c gap).sampled = s.sampled ∧
    (s.receive c gap).inputs = s.inputs ∧ (s.receive c gap).freeCount = s.freeCount := by
  unfold State.receive
  dsimp only
  (repeat' split) <;> simp

@[simp] theorem State.vcReceive_frame (s : State) :
    (s.vcReceive).pending = s.pending ∧ (s.vcReceive).port = s.port ∧ (s.vcReceive).regs = s.regs ∧
    (s.vcReceive).pattern = s.pattern ∧ (s.vcReceive).route = s.route ∧ (s.vcReceive).lp = s.lp ∧
    (s.vcReceive).clk = s.clk ∧ (s.vcReceive).cs = s.cs ∧ (s.vcReceive).candidates = s.candidates ∧
    (s.vcReceive).ad = s.ad ∧ (s.vcReceive).lg = s.lg ∧ (s.vcReceive).gd = s.gd ∧ (s.vcReceive).sl = s.sl ∧
    (s.vcReceive).br = s.br ∧ (s.vcReceive).sq = s.sq ∧ (s.vcReceive).shadows = s.shadows ∧
    (s.vcReceive).snapTravel = s.snapTravel ∧ (s.vcReceive).snapCount = s.snapCount ∧ (s.vcReceive).pins = s.pins ∧
    (s.vcReceive).lines = s.lines ∧ (s.vcReceive).sampled = s.sampled ∧ (s.vcReceive).inputs = s.inputs ∧
    (s.vcReceive).freeCount = s.freeCount := by
  unfold State.vcReceive
  dsimp only
  (repeat' split) <;> simp

@[simp] theorem State.gapCheck_frame (s : State) :
    (s.gapCheck).pending = s.pending ∧ (s.gapCheck).port = s.port ∧ (s.gapCheck).regs = s.regs ∧
    (s.gapCheck).pattern = s.pattern ∧ (s.gapCheck).route = s.route ∧ (s.gapCheck).lp = s.lp ∧
    (s.gapCheck).clk = s.clk ∧ (s.gapCheck).cs = s.cs ∧ (s.gapCheck).candidates = s.candidates ∧
    (s.gapCheck).ad = s.ad ∧ (s.gapCheck).lg = s.lg ∧ (s.gapCheck).gd = s.gd ∧ (s.gapCheck).sl = s.sl ∧
    (s.gapCheck).br = s.br ∧ (s.gapCheck).sq = s.sq ∧ (s.gapCheck).shadows = s.shadows ∧
    (s.gapCheck).snapTravel = s.snapTravel ∧ (s.gapCheck).snapCount = s.snapCount ∧ (s.gapCheck).pins = s.pins ∧
    (s.gapCheck).lines = s.lines ∧ (s.gapCheck).sampled = s.sampled ∧ (s.gapCheck).inputs = s.inputs ∧
    (s.gapCheck).freeCount = s.freeCount := by
  unfold State.gapCheck
  (repeat' split) <;> simp

@[simp] theorem State.truncate_frame (s : State) :
    (s.truncate).pending = s.pending ∧ (s.truncate).port = s.port ∧ (s.truncate).regs = s.regs ∧
    (s.truncate).pattern = s.pattern ∧ (s.truncate).route = s.route ∧ (s.truncate).lp = s.lp ∧
    (s.truncate).clk = s.clk ∧ (s.truncate).cs = s.cs ∧ (s.truncate).candidates = s.candidates ∧
    (s.truncate).ad = s.ad ∧ (s.truncate).lg = s.lg ∧ (s.truncate).gd = s.gd ∧ (s.truncate).sl = s.sl ∧
    (s.truncate).br = s.br ∧ (s.truncate).sq = s.sq ∧ (s.truncate).shadows = s.shadows ∧
    (s.truncate).snapTravel = s.snapTravel ∧ (s.truncate).snapCount = s.snapCount ∧ (s.truncate).pins = s.pins ∧
    (s.truncate).lines = s.lines ∧ (s.truncate).sampled = s.sampled ∧ (s.truncate).inputs = s.inputs ∧
    (s.truncate).freeCount = s.freeCount := by
  unfold State.truncate
  dsimp only
  simp

@[simp] theorem State.characterEdge_frame (s : State) (c : LineChar) (idle : Nat) :
    (s.characterEdge c idle).pending = s.pending ∧ (s.characterEdge c idle).regs = s.regs ∧
    (s.characterEdge c idle).pattern = s.pattern ∧ (s.characterEdge c idle).route = s.route ∧
    (s.characterEdge c idle).lp = s.lp ∧ (s.characterEdge c idle).clk = s.clk ∧
    (s.characterEdge c idle).cs = s.cs ∧ (s.characterEdge c idle).candidates = s.candidates ∧
    (s.characterEdge c idle).ad = s.ad ∧ (s.characterEdge c idle).sl = s.sl ∧ (s.characterEdge c idle).br = s.br ∧
    (s.characterEdge c idle).sq = s.sq ∧ (s.characterEdge c idle).shadows = s.shadows ∧
    (s.characterEdge c idle).snapTravel = s.snapTravel ∧ (s.characterEdge c idle).snapCount = s.snapCount ∧
    (s.characterEdge c idle).pins = s.pins ∧ (s.characterEdge c idle).lines = s.lines ∧
    (s.characterEdge c idle).sampled = s.sampled ∧ (s.characterEdge c idle).inputs = s.inputs ∧
    (s.characterEdge c idle).freeCount = s.freeCount := by
  unfold State.characterEdge
  simp

@[simp] theorem State.clearRx_frame (s : State) :
    (s.clearRx).pending = s.pending ∧ (s.clearRx).port = s.port ∧ (s.clearRx).regs = s.regs ∧
    (s.clearRx).pattern = s.pattern ∧ (s.clearRx).route = s.route ∧ (s.clearRx).lp = s.lp ∧
    (s.clearRx).clk = s.clk ∧ (s.clearRx).cs = s.cs ∧ (s.clearRx).candidates = s.candidates ∧
    (s.clearRx).ad = s.ad ∧ (s.clearRx).lg = s.lg ∧ (s.clearRx).gd = s.gd ∧ (s.clearRx).sl = s.sl ∧
    (s.clearRx).br = s.br ∧ (s.clearRx).sq = s.sq ∧ (s.clearRx).rc = s.rc ∧ (s.clearRx).shadows = s.shadows ∧
    (s.clearRx).snapTravel = s.snapTravel ∧ (s.clearRx).snapCount = s.snapCount ∧ (s.clearRx).pins = s.pins ∧
    (s.clearRx).lines = s.lines ∧ (s.clearRx).sampled = s.sampled ∧ (s.clearRx).inputs = s.inputs ∧
    (s.clearRx).freeCount = s.freeCount := by
  unfold State.clearRx
  dsimp only
  simp

@[simp] theorem State.changeRaw_frame (s : State) (before : Bool) :
    (s.changeRaw before).pending = s.pending ∧ (s.changeRaw before).port = s.port ∧
    (s.changeRaw before).regs = s.regs ∧ (s.changeRaw before).pattern = s.pattern ∧
    (s.changeRaw before).route = s.route ∧ (s.changeRaw before).lp = s.lp ∧ (s.changeRaw before).clk = s.clk ∧
    (s.changeRaw before).cs = s.cs ∧ (s.changeRaw before).candidates = s.candidates ∧
    (s.changeRaw before).ad = s.ad ∧ (s.changeRaw before).lg = s.lg ∧ (s.changeRaw before).gd = s.gd ∧
    (s.changeRaw before).sl = s.sl ∧ (s.changeRaw before).br = s.br ∧ (s.changeRaw before).sq = s.sq ∧
    (s.changeRaw before).rc = s.rc ∧ (s.changeRaw before).shadows = s.shadows ∧
    (s.changeRaw before).snapTravel = s.snapTravel ∧ (s.changeRaw before).snapCount = s.snapCount ∧
    (s.changeRaw before).pins = s.pins ∧ (s.changeRaw before).lines = s.lines ∧
    (s.changeRaw before).sampled = s.sampled ∧ (s.changeRaw before).inputs = s.inputs ∧
    (s.changeRaw before).freeCount = s.freeCount := by
  unfold State.changeRaw
  (repeat' split) <;> simp

@[simp] theorem State.startFrame_frame (s : State) (f : Frame) :
    (s.startFrame f).pending = s.pending ∧ (s.startFrame f).port = s.port ∧ (s.startFrame f).regs = s.regs ∧
    (s.startFrame f).pattern = s.pattern ∧ (s.startFrame f).route = s.route ∧ (s.startFrame f).lp = s.lp ∧
    (s.startFrame f).clk = s.clk ∧ (s.startFrame f).cs = s.cs ∧ (s.startFrame f).candidates = s.candidates ∧
    (s.startFrame f).ad = s.ad ∧ (s.startFrame f).lg = s.lg ∧ (s.startFrame f).vc = s.vc ∧
    (s.startFrame f).gd = s.gd ∧ (s.startFrame f).br = s.br ∧ (s.startFrame f).sq = s.sq ∧
    (s.startFrame f).shadows = s.shadows ∧ (s.startFrame f).snapTravel = s.snapTravel ∧
    (s.startFrame f).snapCount = s.snapCount ∧ (s.startFrame f).pins = s.pins ∧ (s.startFrame f).lines = s.lines ∧
    (s.startFrame f).sampled = s.sampled ∧ (s.startFrame f).inputs = s.inputs ∧
    (s.startFrame f).freeCount = s.freeCount := by
  unfold State.startFrame
  dsimp only
  simp

@[simp] theorem State.restartCount_frame (s : State) :
    (s.restartCount).pending = s.pending ∧ (s.restartCount).port = s.port ∧ (s.restartCount).regs = s.regs ∧
    (s.restartCount).pattern = s.pattern ∧ (s.restartCount).route = s.route ∧ (s.restartCount).lp = s.lp ∧
    (s.restartCount).clk = s.clk ∧ (s.restartCount).cs = s.cs ∧ (s.restartCount).candidates = s.candidates ∧
    (s.restartCount).lg = s.lg ∧ (s.restartCount).vc = s.vc ∧ (s.restartCount).gd = s.gd ∧
    (s.restartCount).sl = s.sl ∧ (s.restartCount).br = s.br ∧ (s.restartCount).sq = s.sq ∧
    (s.restartCount).counters = s.counters ∧ (s.restartCount).shadows = s.shadows ∧
    (s.restartCount).snapTravel = s.snapTravel ∧ (s.restartCount).snapCount = s.snapCount ∧
    (s.restartCount).pins = s.pins ∧ (s.restartCount).lines = s.lines ∧ (s.restartCount).sampled = s.sampled ∧
    (s.restartCount).inputs = s.inputs ∧ (s.restartCount).freeCount = s.freeCount := by
  refine ⟨rfl, rfl, rfl, rfl, rfl, rfl, rfl, rfl, rfl, rfl, rfl, rfl, rfl, rfl, rfl, rfl, rfl, rfl, rfl, rfl, rfl, rfl, rfl, rfl⟩

@[simp] theorem State.recoverFrom_frame (s : State) (i : SeqId) :
    (s.recoverFrom i).pending = s.pending ∧ (s.recoverFrom i).port = s.port ∧ (s.recoverFrom i).regs = s.regs ∧
    (s.recoverFrom i).pattern = s.pattern ∧ (s.recoverFrom i).route = s.route ∧ (s.recoverFrom i).lp = s.lp ∧
    (s.recoverFrom i).clk = s.clk ∧ (s.recoverFrom i).cs = s.cs ∧ (s.recoverFrom i).candidates = s.candidates ∧
    (s.recoverFrom i).ad = s.ad ∧ (s.recoverFrom i).lg = s.lg ∧ (s.recoverFrom i).vc = s.vc ∧
    (s.recoverFrom i).gd = s.gd ∧ (s.recoverFrom i).sl = s.sl ∧ (s.recoverFrom i).br = s.br ∧
    (s.recoverFrom i).rc = s.rc ∧ (s.recoverFrom i).counters = s.counters ∧ (s.recoverFrom i).shadows = s.shadows ∧
    (s.recoverFrom i).snapTravel = s.snapTravel ∧ (s.recoverFrom i).snapCount = s.snapCount ∧
    (s.recoverFrom i).pins = s.pins ∧ (s.recoverFrom i).lines = s.lines ∧ (s.recoverFrom i).sampled = s.sampled ∧
    (s.recoverFrom i).inputs = s.inputs ∧ (s.recoverFrom i).freeCount = s.freeCount := by
  unfold State.recoverFrom
  (repeat' split) <;> simp

@[simp] theorem State.startMark_frame (s : State) :
    (s.startMark).pending = s.pending ∧ (s.startMark).port = s.port ∧ (s.startMark).regs = s.regs ∧
    (s.startMark).pattern = s.pattern ∧ (s.startMark).route = s.route ∧ (s.startMark).lp = s.lp ∧
    (s.startMark).clk = s.clk ∧ (s.startMark).cs = s.cs ∧ (s.startMark).candidates = s.candidates ∧
    (s.startMark).lg = s.lg ∧ (s.startMark).vc = s.vc ∧ (s.startMark).gd = s.gd ∧ (s.startMark).br = s.br ∧
    (s.startMark).sq = s.sq ∧ (s.startMark).shadows = s.shadows ∧ (s.startMark).snapTravel = s.snapTravel ∧
    (s.startMark).snapCount = s.snapCount ∧ (s.startMark).pins = s.pins ∧ (s.startMark).lines = s.lines ∧
    (s.startMark).sampled = s.sampled ∧ (s.startMark).inputs = s.inputs ∧ (s.startMark).freeCount = s.freeCount := by
  unfold State.startMark
  dsimp only
  (repeat' split) <;> simp

@[simp] theorem State.startFullReset_frame (s : State) :
    (s.startFullReset).pending = s.pending ∧ (s.startFullReset).port = s.port ∧ (s.startFullReset).regs = s.regs ∧
    (s.startFullReset).pattern = s.pattern ∧ (s.startFullReset).route = s.route ∧ (s.startFullReset).lp = s.lp ∧
    (s.startFullReset).clk = s.clk ∧ (s.startFullReset).cs = s.cs ∧ (s.startFullReset).candidates = s.candidates ∧
    (s.startFullReset).vc = s.vc ∧ (s.startFullReset).gd = s.gd ∧ (s.startFullReset).br = s.br ∧
    (s.startFullReset).shadows = s.shadows ∧ (s.startFullReset).snapTravel = s.snapTravel ∧
    (s.startFullReset).snapCount = s.snapCount ∧ (s.startFullReset).pins = s.pins ∧
    (s.startFullReset).lines = s.lines ∧ (s.startFullReset).sampled = s.sampled ∧
    (s.startFullReset).inputs = s.inputs ∧ (s.startFullReset).freeCount = s.freeCount := by
  unfold State.startFullReset
  dsimp only
  simp

@[simp] theorem State.startStationReset_frame (s : State) :
    (s.startStationReset).pending = s.pending ∧ (s.startStationReset).port = s.port ∧
    (s.startStationReset).regs = s.regs ∧ (s.startStationReset).pattern = s.pattern ∧
    (s.startStationReset).route = s.route ∧ (s.startStationReset).lp = s.lp ∧ (s.startStationReset).clk = s.clk ∧
    (s.startStationReset).cs = s.cs ∧ (s.startStationReset).candidates = s.candidates ∧
    (s.startStationReset).lg = s.lg ∧ (s.startStationReset).vc = s.vc ∧ (s.startStationReset).gd = s.gd ∧
    (s.startStationReset).br = s.br ∧ (s.startStationReset).shadows = s.shadows ∧
    (s.startStationReset).snapTravel = s.snapTravel ∧ (s.startStationReset).snapCount = s.snapCount ∧
    (s.startStationReset).pins = s.pins ∧ (s.startStationReset).lines = s.lines ∧
    (s.startStationReset).sampled = s.sampled ∧ (s.startStationReset).inputs = s.inputs ∧
    (s.startStationReset).freeCount = s.freeCount := by
  unfold State.startStationReset
  dsimp only
  simp

@[simp] theorem State.prepare_frame (s : State) (g : RefGen) :
    (s.prepare g).pending = s.pending ∧ (s.prepare g).port = s.port ∧ (s.prepare g).regs = s.regs ∧
    (s.prepare g).pattern = s.pattern ∧ (s.prepare g).route = s.route ∧ (s.prepare g).lp = s.lp ∧
    (s.prepare g).clk = s.clk ∧ (s.prepare g).candidates = s.candidates ∧ (s.prepare g).ad = s.ad ∧
    (s.prepare g).lg = s.lg ∧ (s.prepare g).vc = s.vc ∧ (s.prepare g).gd = s.gd ∧ (s.prepare g).sl = s.sl ∧
    (s.prepare g).br = s.br ∧ (s.prepare g).sq = s.sq ∧ (s.prepare g).rc = s.rc ∧
    (s.prepare g).shadows = s.shadows ∧ (s.prepare g).snapTravel = s.snapTravel ∧
    (s.prepare g).snapCount = s.snapCount ∧ (s.prepare g).pins = s.pins ∧ (s.prepare g).lines = s.lines ∧
    (s.prepare g).sampled = s.sampled ∧ (s.prepare g).inputs = s.inputs ∧ (s.prepare g).freeCount = s.freeCount := by
  unfold State.prepare
  (repeat' split) <;> simp

@[simp] theorem State.startPrepare_frame (s : State) (g : RefGen) :
    (s.startPrepare g).pending = s.pending ∧ (s.startPrepare g).port = s.port ∧ (s.startPrepare g).regs = s.regs ∧
    (s.startPrepare g).pattern = s.pattern ∧ (s.startPrepare g).route = s.route ∧ (s.startPrepare g).lp = s.lp ∧
    (s.startPrepare g).clk = s.clk ∧ (s.startPrepare g).candidates = s.candidates ∧ (s.startPrepare g).ad = s.ad ∧
    (s.startPrepare g).lg = s.lg ∧ (s.startPrepare g).vc = s.vc ∧ (s.startPrepare g).gd = s.gd ∧
    (s.startPrepare g).br = s.br ∧ (s.startPrepare g).sq = s.sq ∧ (s.startPrepare g).shadows = s.shadows ∧
    (s.startPrepare g).snapTravel = s.snapTravel ∧ (s.startPrepare g).snapCount = s.snapCount ∧
    (s.startPrepare g).pins = s.pins ∧ (s.startPrepare g).lines = s.lines ∧
    (s.startPrepare g).sampled = s.sampled ∧ (s.startPrepare g).inputs = s.inputs ∧
    (s.startPrepare g).freeCount = s.freeCount := by
  unfold State.startPrepare
  dsimp only
  simp

@[simp] theorem State.startUser_frame (s : State) :
    (s.startUser).pending = s.pending ∧ (s.startUser).port = s.port ∧ (s.startUser).regs = s.regs ∧
    (s.startUser).pattern = s.pattern ∧ (s.startUser).route = s.route ∧ (s.startUser).lp = s.lp ∧
    (s.startUser).clk = s.clk ∧ (s.startUser).cs = s.cs ∧ (s.startUser).candidates = s.candidates ∧
    (s.startUser).ad = s.ad ∧ (s.startUser).lg = s.lg ∧ (s.startUser).vc = s.vc ∧ (s.startUser).gd = s.gd ∧
    (s.startUser).br = s.br ∧ (s.startUser).sq = s.sq ∧ (s.startUser).shadows = s.shadows ∧
    (s.startUser).snapTravel = s.snapTravel ∧ (s.startUser).snapCount = s.snapCount ∧ (s.startUser).pins = s.pins ∧
    (s.startUser).lines = s.lines ∧ (s.startUser).sampled = s.sampled ∧ (s.startUser).inputs = s.inputs ∧
    (s.startUser).freeCount = s.freeCount := by
  unfold State.startUser
  dsimp only
  simp

@[simp] theorem State.sendSlot_frame (s : State) (i : SlotId) :
    (s.sendSlot i).pending = s.pending ∧ (s.sendSlot i).port = s.port ∧ (s.sendSlot i).regs = s.regs ∧
    (s.sendSlot i).pattern = s.pattern ∧ (s.sendSlot i).route = s.route ∧ (s.sendSlot i).lp = s.lp ∧
    (s.sendSlot i).clk = s.clk ∧ (s.sendSlot i).cs = s.cs ∧ (s.sendSlot i).candidates = s.candidates ∧
    (s.sendSlot i).ad = s.ad ∧ (s.sendSlot i).lg = s.lg ∧ (s.sendSlot i).vc = s.vc ∧ (s.sendSlot i).gd = s.gd ∧
    (s.sendSlot i).br = s.br ∧ (s.sendSlot i).sq = s.sq ∧ (s.sendSlot i).rc = s.rc ∧
    (s.sendSlot i).counters = s.counters ∧ (s.sendSlot i).shadows = s.shadows ∧
    (s.sendSlot i).snapTravel = s.snapTravel ∧ (s.sendSlot i).snapCount = s.snapCount ∧
    (s.sendSlot i).pins = s.pins ∧ (s.sendSlot i).lines = s.lines ∧ (s.sendSlot i).sampled = s.sampled ∧
    (s.sendSlot i).inputs = s.inputs ∧ (s.sendSlot i).freeCount = s.freeCount := by
  unfold State.sendSlot
  simp

@[simp] theorem State.startSlot_frame (s : State) (i : SlotId) :
    (s.startSlot i).pending = s.pending ∧ (s.startSlot i).port = s.port ∧ (s.startSlot i).regs = s.regs ∧
    (s.startSlot i).pattern = s.pattern ∧ (s.startSlot i).route = s.route ∧ (s.startSlot i).lp = s.lp ∧
    (s.startSlot i).clk = s.clk ∧ (s.startSlot i).candidates = s.candidates ∧ (s.startSlot i).vc = s.vc ∧
    (s.startSlot i).gd = s.gd ∧ (s.startSlot i).br = s.br ∧ (s.startSlot i).shadows = s.shadows ∧
    (s.startSlot i).snapTravel = s.snapTravel ∧ (s.startSlot i).snapCount = s.snapCount ∧
    (s.startSlot i).pins = s.pins ∧ (s.startSlot i).lines = s.lines ∧ (s.startSlot i).sampled = s.sampled ∧
    (s.startSlot i).inputs = s.inputs ∧ (s.startSlot i).freeCount = s.freeCount := by
  cases i <;> simp [State.startSlot]

@[simp] theorem State.takePoll_frame (s : State) :
    (s.takePoll).pending = s.pending ∧ (s.takePoll).port = s.port ∧ (s.takePoll).regs = s.regs ∧
    (s.takePoll).pattern = s.pattern ∧ (s.takePoll).route = s.route ∧ (s.takePoll).lp = s.lp ∧
    (s.takePoll).clk = s.clk ∧ (s.takePoll).cs = s.cs ∧ (s.takePoll).candidates = s.candidates ∧
    (s.takePoll).ad = s.ad ∧ (s.takePoll).lg = s.lg ∧ (s.takePoll).vc = s.vc ∧ (s.takePoll).gd = s.gd ∧
    (s.takePoll).br = s.br ∧ (s.takePoll).sq = s.sq ∧ (s.takePoll).shadows = s.shadows ∧
    (s.takePoll).snapTravel = s.snapTravel ∧ (s.takePoll).snapCount = s.snapCount ∧ (s.takePoll).pins = s.pins ∧
    (s.takePoll).lines = s.lines ∧ (s.takePoll).sampled = s.sampled ∧ (s.takePoll).inputs = s.inputs ∧
    (s.takePoll).freeCount = s.freeCount := by
  unfold State.takePoll
  dsimp only
  (repeat' split) <;> simp

@[simp] theorem State.startFree_frame (s : State) (old : Startable) :
    (s.startFree old).pending = s.pending ∧ (s.startFree old).port = s.port ∧ (s.startFree old).regs = s.regs ∧
    (s.startFree old).pattern = s.pattern ∧ (s.startFree old).route = s.route ∧ (s.startFree old).lp = s.lp ∧
    (s.startFree old).clk = s.clk ∧ (s.startFree old).cs = s.cs ∧ (s.startFree old).candidates = s.candidates ∧
    (s.startFree old).ad = s.ad ∧ (s.startFree old).lg = s.lg ∧ (s.startFree old).vc = s.vc ∧
    (s.startFree old).gd = s.gd ∧ (s.startFree old).br = s.br ∧ (s.startFree old).sq = s.sq ∧
    (s.startFree old).shadows = s.shadows ∧ (s.startFree old).snapTravel = s.snapTravel ∧
    (s.startFree old).snapCount = s.snapCount ∧ (s.startFree old).pins = s.pins ∧
    (s.startFree old).lines = s.lines ∧ (s.startFree old).sampled = s.sampled ∧
    (s.startFree old).inputs = s.inputs ∧ (s.startFree old).freeCount = s.freeCount := by
  unfold State.startFree
  dsimp only
  (repeat' split) <;> simp

@[simp] theorem State.select_frame (s : State) (old : Startable) :
    (s.select old).pending = s.pending ∧ (s.select old).port = s.port ∧ (s.select old).regs = s.regs ∧
    (s.select old).pattern = s.pattern ∧ (s.select old).route = s.route ∧ (s.select old).lp = s.lp ∧
    (s.select old).clk = s.clk ∧ (s.select old).candidates = s.candidates ∧ (s.select old).vc = s.vc ∧
    (s.select old).gd = s.gd ∧ (s.select old).br = s.br ∧ (s.select old).shadows = s.shadows ∧
    (s.select old).snapTravel = s.snapTravel ∧ (s.select old).snapCount = s.snapCount ∧
    (s.select old).pins = s.pins ∧ (s.select old).lines = s.lines ∧ (s.select old).sampled = s.sampled ∧
    (s.select old).inputs = s.inputs ∧ (s.select old).freeCount = s.freeCount := by
  unfold State.select
  (repeat' split) <;> simp

@[simp] theorem State.closeEdge_frame (s : State) :
    (s.closeEdge).pending = s.pending ∧ (s.closeEdge).port = s.port ∧ (s.closeEdge).regs = s.regs ∧
    (s.closeEdge).pattern = s.pattern ∧ (s.closeEdge).route = s.route ∧ (s.closeEdge).lp = s.lp ∧
    (s.closeEdge).clk = s.clk ∧ (s.closeEdge).cs = s.cs ∧ (s.closeEdge).candidates = s.candidates ∧
    (s.closeEdge).ad = s.ad ∧ (s.closeEdge).lg = s.lg ∧ (s.closeEdge).vc = s.vc ∧ (s.closeEdge).gd = s.gd ∧
    (s.closeEdge).br = s.br ∧ (s.closeEdge).sq = s.sq ∧ (s.closeEdge).rc = s.rc ∧
    (s.closeEdge).counters = s.counters ∧ (s.closeEdge).shadows = s.shadows ∧
    (s.closeEdge).snapTravel = s.snapTravel ∧ (s.closeEdge).snapCount = s.snapCount ∧ (s.closeEdge).pins = s.pins ∧
    (s.closeEdge).lines = s.lines ∧ (s.closeEdge).sampled = s.sampled ∧ (s.closeEdge).inputs = s.inputs ∧
    (s.closeEdge).freeCount = s.freeCount := by
  refine ⟨rfl, rfl, rfl, rfl, rfl, rfl, rfl, rfl, rfl, rfl, rfl, rfl, rfl, rfl, rfl, rfl, rfl, rfl, rfl, rfl, rfl, rfl, rfl, rfl, rfl⟩

@[simp] theorem State.arrive_frame (s : State) (p : Place) :
    (s.arrive p).pending = s.pending ∧ (s.arrive p).port = s.port ∧ (s.arrive p).regs = s.regs ∧
    (s.arrive p).pattern = s.pattern ∧ (s.arrive p).route = s.route ∧ (s.arrive p).lp = s.lp ∧
    (s.arrive p).clk = s.clk ∧ (s.arrive p).cs = s.cs ∧ (s.arrive p).candidates = s.candidates ∧
    (s.arrive p).ad = s.ad ∧ (s.arrive p).lg = s.lg ∧ (s.arrive p).vc = s.vc ∧ (s.arrive p).gd = s.gd ∧
    (s.arrive p).br = s.br ∧ (s.arrive p).sq = s.sq ∧ (s.arrive p).rc = s.rc ∧ (s.arrive p).counters = s.counters ∧
    (s.arrive p).shadows = s.shadows ∧ (s.arrive p).snapTravel = s.snapTravel ∧
    (s.arrive p).snapCount = s.snapCount ∧ (s.arrive p).pins = s.pins ∧ (s.arrive p).lines = s.lines ∧
    (s.arrive p).sampled = s.sampled ∧ (s.arrive p).inputs = s.inputs ∧ (s.arrive p).freeCount = s.freeCount := by
  unfold State.arrive
  dsimp only
  (repeat' split) <;> simp

@[simp] theorem State.enterSpacing_frame (s : State) :
    (s.enterSpacing).pending = s.pending ∧ (s.enterSpacing).port = s.port ∧ (s.enterSpacing).regs = s.regs ∧
    (s.enterSpacing).pattern = s.pattern ∧ (s.enterSpacing).route = s.route ∧ (s.enterSpacing).lp = s.lp ∧
    (s.enterSpacing).clk = s.clk ∧ (s.enterSpacing).cs = s.cs ∧ (s.enterSpacing).candidates = s.candidates ∧
    (s.enterSpacing).ad = s.ad ∧ (s.enterSpacing).lg = s.lg ∧ (s.enterSpacing).vc = s.vc ∧
    (s.enterSpacing).gd = s.gd ∧ (s.enterSpacing).br = s.br ∧ (s.enterSpacing).sq = s.sq ∧
    (s.enterSpacing).rc = s.rc ∧ (s.enterSpacing).counters = s.counters ∧ (s.enterSpacing).shadows = s.shadows ∧
    (s.enterSpacing).snapTravel = s.snapTravel ∧ (s.enterSpacing).snapCount = s.snapCount ∧
    (s.enterSpacing).pins = s.pins ∧ (s.enterSpacing).lines = s.lines ∧ (s.enterSpacing).sampled = s.sampled ∧
    (s.enterSpacing).inputs = s.inputs ∧ (s.enterSpacing).freeCount = s.freeCount := by
  refine ⟨rfl, rfl, rfl, rfl, rfl, rfl, rfl, rfl, rfl, rfl, rfl, rfl, rfl, rfl, rfl, rfl, rfl, rfl, rfl, rfl, rfl, rfl, rfl, rfl, rfl⟩

@[simp] theorem endEach_frame (l : List SlotId) (s : State) :
    (l.foldl State.endSlotFrame s).pending = s.pending ∧ (l.foldl State.endSlotFrame s).port = s.port ∧
    (l.foldl State.endSlotFrame s).regs = s.regs ∧ (l.foldl State.endSlotFrame s).pattern = s.pattern ∧
    (l.foldl State.endSlotFrame s).route = s.route ∧ (l.foldl State.endSlotFrame s).lp = s.lp ∧
    (l.foldl State.endSlotFrame s).clk = s.clk ∧ (l.foldl State.endSlotFrame s).cs = s.cs ∧
    (l.foldl State.endSlotFrame s).candidates = s.candidates ∧ (l.foldl State.endSlotFrame s).ad = s.ad ∧
    (l.foldl State.endSlotFrame s).lg = s.lg ∧ (l.foldl State.endSlotFrame s).vc = s.vc ∧
    (l.foldl State.endSlotFrame s).gd = s.gd ∧ (l.foldl State.endSlotFrame s).br = s.br ∧
    (l.foldl State.endSlotFrame s).sq = s.sq ∧ (l.foldl State.endSlotFrame s).rc = s.rc ∧
    (l.foldl State.endSlotFrame s).counters = s.counters ∧ (l.foldl State.endSlotFrame s).shadows = s.shadows ∧
    (l.foldl State.endSlotFrame s).snapTravel = s.snapTravel ∧
    (l.foldl State.endSlotFrame s).snapCount = s.snapCount ∧ (l.foldl State.endSlotFrame s).pins = s.pins ∧
    (l.foldl State.endSlotFrame s).lines = s.lines ∧ (l.foldl State.endSlotFrame s).sampled = s.sampled ∧
    (l.foldl State.endSlotFrame s).inputs = s.inputs ∧ (l.foldl State.endSlotFrame s).freeCount = s.freeCount := by
  induction l generalizing s with
  | nil => simp
  | cons x l ih =>
    simp only [List.foldl_cons]
    simp [ih]

@[simp] theorem State.endFrame_frame (s : State) :
    (s.endFrame).pending = s.pending ∧ (s.endFrame).port = s.port ∧ (s.endFrame).regs = s.regs ∧
    (s.endFrame).pattern = s.pattern ∧ (s.endFrame).route = s.route ∧ (s.endFrame).lp = s.lp ∧
    (s.endFrame).clk = s.clk ∧ (s.endFrame).cs = s.cs ∧ (s.endFrame).candidates = s.candidates ∧
    (s.endFrame).ad = s.ad ∧ (s.endFrame).lg = s.lg ∧ (s.endFrame).vc = s.vc ∧ (s.endFrame).gd = s.gd ∧
    (s.endFrame).br = s.br ∧ (s.endFrame).sq = s.sq ∧ (s.endFrame).rc = s.rc ∧ (s.endFrame).counters = s.counters ∧
    (s.endFrame).shadows = s.shadows ∧ (s.endFrame).snapTravel = s.snapTravel ∧
    (s.endFrame).snapCount = s.snapCount ∧ (s.endFrame).pins = s.pins ∧ (s.endFrame).lines = s.lines ∧
    (s.endFrame).sampled = s.sampled ∧ (s.endFrame).inputs = s.inputs ∧ (s.endFrame).freeCount = s.freeCount := by
  unfold State.endFrame
  dsimp only
  (repeat' split) <;> simp

@[simp] theorem State.endSpacing_frame (s : State) :
    (s.endSpacing).pending = s.pending ∧ (s.endSpacing).port = s.port ∧ (s.endSpacing).regs = s.regs ∧
    (s.endSpacing).pattern = s.pattern ∧ (s.endSpacing).route = s.route ∧ (s.endSpacing).lp = s.lp ∧
    (s.endSpacing).clk = s.clk ∧ (s.endSpacing).cs = s.cs ∧ (s.endSpacing).candidates = s.candidates ∧
    (s.endSpacing).ad = s.ad ∧ (s.endSpacing).lg = s.lg ∧ (s.endSpacing).vc = s.vc ∧ (s.endSpacing).gd = s.gd ∧
    (s.endSpacing).br = s.br ∧ (s.endSpacing).sq = s.sq ∧ (s.endSpacing).rc = s.rc ∧
    (s.endSpacing).counters = s.counters ∧ (s.endSpacing).shadows = s.shadows ∧
    (s.endSpacing).snapTravel = s.snapTravel ∧ (s.endSpacing).snapCount = s.snapCount ∧
    (s.endSpacing).pins = s.pins ∧ (s.endSpacing).lines = s.lines ∧ (s.endSpacing).sampled = s.sampled ∧
    (s.endSpacing).inputs = s.inputs ∧ (s.endSpacing).freeCount = s.freeCount := by
  refine ⟨rfl, rfl, rfl, rfl, rfl, rfl, rfl, rfl, rfl, rfl, rfl, rfl, rfl, rfl, rfl, rfl, rfl, rfl, rfl, rfl, rfl, rfl, rfl, rfl, rfl⟩

@[simp] theorem State.endTransaction_frame (s : State) :
    (s.endTransaction).pending = s.pending ∧ (s.endTransaction).port = s.port ∧ (s.endTransaction).regs = s.regs ∧
    (s.endTransaction).pattern = s.pattern ∧ (s.endTransaction).route = s.route ∧ (s.endTransaction).lp = s.lp ∧
    (s.endTransaction).clk = s.clk ∧ (s.endTransaction).cs = s.cs ∧ (s.endTransaction).candidates = s.candidates ∧
    (s.endTransaction).ad = s.ad ∧ (s.endTransaction).lg = s.lg ∧ (s.endTransaction).vc = s.vc ∧
    (s.endTransaction).gd = s.gd ∧ (s.endTransaction).br = s.br ∧ (s.endTransaction).sq = s.sq ∧
    (s.endTransaction).rc = s.rc ∧ (s.endTransaction).counters = s.counters ∧
    (s.endTransaction).shadows = s.shadows ∧ (s.endTransaction).snapTravel = s.snapTravel ∧
    (s.endTransaction).snapCount = s.snapCount ∧ (s.endTransaction).pins = s.pins ∧
    (s.endTransaction).lines = s.lines ∧ (s.endTransaction).sampled = s.sampled ∧
    (s.endTransaction).inputs = s.inputs ∧ (s.endTransaction).freeCount = s.freeCount := by
  refine ⟨rfl, rfl, rfl, rfl, rfl, rfl, rfl, rfl, rfl, rfl, rfl, rfl, rfl, rfl, rfl, rfl, rfl, rfl, rfl, rfl, rfl, rfl, rfl, rfl, rfl⟩

@[simp] theorem State.noteLoss_frame (s : State) (before after : StationState) :
    (s.noteLoss before after).pending = s.pending ∧ (s.noteLoss before after).port = s.port ∧
    (s.noteLoss before after).regs = s.regs ∧ (s.noteLoss before after).pattern = s.pattern ∧
    (s.noteLoss before after).route = s.route ∧ (s.noteLoss before after).lp = s.lp ∧
    (s.noteLoss before after).clk = s.clk ∧ (s.noteLoss before after).cs = s.cs ∧
    (s.noteLoss before after).candidates = s.candidates ∧ (s.noteLoss before after).ad = s.ad ∧
    (s.noteLoss before after).lg = s.lg ∧ (s.noteLoss before after).vc = s.vc ∧
    (s.noteLoss before after).gd = s.gd ∧ (s.noteLoss before after).sq = s.sq ∧
    (s.noteLoss before after).shadows = s.shadows ∧ (s.noteLoss before after).snapTravel = s.snapTravel ∧
    (s.noteLoss before after).snapCount = s.snapCount ∧ (s.noteLoss before after).pins = s.pins ∧
    (s.noteLoss before after).lines = s.lines ∧ (s.noteLoss before after).sampled = s.sampled ∧
    (s.noteLoss before after).inputs = s.inputs ∧ (s.noteLoss before after).freeCount = s.freeCount := by
  unfold State.noteLoss
  (repeat' split) <;> simp

@[simp] theorem State.chargeMiss_frame (s : State) :
    (s.chargeMiss).pending = s.pending ∧ (s.chargeMiss).port = s.port ∧ (s.chargeMiss).regs = s.regs ∧
    (s.chargeMiss).pattern = s.pattern ∧ (s.chargeMiss).route = s.route ∧ (s.chargeMiss).lp = s.lp ∧
    (s.chargeMiss).clk = s.clk ∧ (s.chargeMiss).cs = s.cs ∧ (s.chargeMiss).candidates = s.candidates ∧
    (s.chargeMiss).ad = s.ad ∧ (s.chargeMiss).lg = s.lg ∧ (s.chargeMiss).vc = s.vc ∧ (s.chargeMiss).gd = s.gd ∧
    (s.chargeMiss).sq = s.sq ∧ (s.chargeMiss).shadows = s.shadows ∧ (s.chargeMiss).snapTravel = s.snapTravel ∧
    (s.chargeMiss).snapCount = s.snapCount ∧ (s.chargeMiss).pins = s.pins ∧ (s.chargeMiss).lines = s.lines ∧
    (s.chargeMiss).sampled = s.sampled ∧ (s.chargeMiss).inputs = s.inputs ∧ (s.chargeMiss).freeCount = s.freeCount := by
  unfold State.chargeMiss
  dsimp only
  simp

@[simp] theorem State.setMissReason_frame (s : State) (reason : Nat) :
    (s.setMissReason reason).pending = s.pending ∧ (s.setMissReason reason).port = s.port ∧
    (s.setMissReason reason).regs = s.regs ∧ (s.setMissReason reason).pattern = s.pattern ∧
    (s.setMissReason reason).route = s.route ∧ (s.setMissReason reason).lp = s.lp ∧
    (s.setMissReason reason).clk = s.clk ∧ (s.setMissReason reason).cs = s.cs ∧
    (s.setMissReason reason).candidates = s.candidates ∧ (s.setMissReason reason).ad = s.ad ∧
    (s.setMissReason reason).lg = s.lg ∧ (s.setMissReason reason).vc = s.vc ∧ (s.setMissReason reason).gd = s.gd ∧
    (s.setMissReason reason).br = s.br ∧ (s.setMissReason reason).sq = s.sq ∧ (s.setMissReason reason).rc = s.rc ∧
    (s.setMissReason reason).counters = s.counters ∧ (s.setMissReason reason).shadows = s.shadows ∧
    (s.setMissReason reason).snapTravel = s.snapTravel ∧ (s.setMissReason reason).snapCount = s.snapCount ∧
    (s.setMissReason reason).pins = s.pins ∧ (s.setMissReason reason).lines = s.lines ∧
    (s.setMissReason reason).sampled = s.sampled ∧ (s.setMissReason reason).inputs = s.inputs ∧
    (s.setMissReason reason).freeCount = s.freeCount := by
  refine ⟨rfl, rfl, rfl, rfl, rfl, rfl, rfl, rfl, rfl, rfl, rfl, rfl, rfl, rfl, rfl, rfl, rfl, rfl, rfl, rfl, rfl, rfl, rfl, rfl, rfl⟩

@[simp] theorem State.endWithMiss_frame (s : State) (reason : Nat) :
    (s.endWithMiss reason).pending = s.pending ∧ (s.endWithMiss reason).port = s.port ∧
    (s.endWithMiss reason).regs = s.regs ∧ (s.endWithMiss reason).pattern = s.pattern ∧
    (s.endWithMiss reason).route = s.route ∧ (s.endWithMiss reason).lp = s.lp ∧
    (s.endWithMiss reason).clk = s.clk ∧ (s.endWithMiss reason).cs = s.cs ∧
    (s.endWithMiss reason).candidates = s.candidates ∧ (s.endWithMiss reason).ad = s.ad ∧
    (s.endWithMiss reason).lg = s.lg ∧ (s.endWithMiss reason).vc = s.vc ∧ (s.endWithMiss reason).gd = s.gd ∧
    (s.endWithMiss reason).sq = s.sq ∧ (s.endWithMiss reason).shadows = s.shadows ∧
    (s.endWithMiss reason).snapTravel = s.snapTravel ∧ (s.endWithMiss reason).snapCount = s.snapCount ∧
    (s.endWithMiss reason).pins = s.pins ∧ (s.endWithMiss reason).lines = s.lines ∧
    (s.endWithMiss reason).sampled = s.sampled ∧ (s.endWithMiss reason).inputs = s.inputs ∧
    (s.endWithMiss reason).freeCount = s.freeCount := by
  unfold State.endWithMiss
  (repeat' split) <;> simp

@[simp] theorem State.creditReply_frame (s : State) (payload : Byte) :
    (s.creditReply payload).pending = s.pending ∧ (s.creditReply payload).port = s.port ∧
    (s.creditReply payload).regs = s.regs ∧ (s.creditReply payload).pattern = s.pattern ∧
    (s.creditReply payload).route = s.route ∧ (s.creditReply payload).lp = s.lp ∧
    (s.creditReply payload).clk = s.clk ∧ (s.creditReply payload).cs = s.cs ∧
    (s.creditReply payload).candidates = s.candidates ∧ (s.creditReply payload).ad = s.ad ∧
    (s.creditReply payload).lg = s.lg ∧ (s.creditReply payload).vc = s.vc ∧ (s.creditReply payload).gd = s.gd ∧
    (s.creditReply payload).br = s.br ∧ (s.creditReply payload).sq = s.sq ∧
    (s.creditReply payload).shadows = s.shadows ∧ (s.creditReply payload).snapTravel = s.snapTravel ∧
    (s.creditReply payload).snapCount = s.snapCount ∧ (s.creditReply payload).pins = s.pins ∧
    (s.creditReply payload).lines = s.lines ∧ (s.creditReply payload).sampled = s.sampled ∧
    (s.creditReply payload).inputs = s.inputs ∧ (s.creditReply payload).freeCount = s.freeCount := by
  unfold State.creditReply
  dsimp only
  (repeat' split) <;> simp

@[simp] theorem State.judgeReply_frame (s : State) (h a b c : LineChar) :
    (s.judgeReply h a b c).pending = s.pending ∧ (s.judgeReply h a b c).port = s.port ∧
    (s.judgeReply h a b c).regs = s.regs ∧ (s.judgeReply h a b c).pattern = s.pattern ∧
    (s.judgeReply h a b c).route = s.route ∧ (s.judgeReply h a b c).lp = s.lp ∧
    (s.judgeReply h a b c).clk = s.clk ∧ (s.judgeReply h a b c).cs = s.cs ∧
    (s.judgeReply h a b c).candidates = s.candidates ∧ (s.judgeReply h a b c).ad = s.ad ∧
    (s.judgeReply h a b c).lg = s.lg ∧ (s.judgeReply h a b c).vc = s.vc ∧ (s.judgeReply h a b c).gd = s.gd ∧
    (s.judgeReply h a b c).sq = s.sq ∧ (s.judgeReply h a b c).shadows = s.shadows ∧
    (s.judgeReply h a b c).snapTravel = s.snapTravel ∧ (s.judgeReply h a b c).snapCount = s.snapCount ∧
    (s.judgeReply h a b c).pins = s.pins ∧ (s.judgeReply h a b c).lines = s.lines ∧
    (s.judgeReply h a b c).sampled = s.sampled ∧ (s.judgeReply h a b c).inputs = s.inputs ∧
    (s.judgeReply h a b c).freeCount = s.freeCount := by
  unfold State.judgeReply
  (repeat' split) <;> simp

@[simp] theorem State.unsolicited_frame (s : State) :
    (s.unsolicited).pending = s.pending ∧ (s.unsolicited).port = s.port ∧ (s.unsolicited).regs = s.regs ∧
    (s.unsolicited).pattern = s.pattern ∧ (s.unsolicited).route = s.route ∧ (s.unsolicited).lp = s.lp ∧
    (s.unsolicited).clk = s.clk ∧ (s.unsolicited).cs = s.cs ∧ (s.unsolicited).candidates = s.candidates ∧
    (s.unsolicited).ad = s.ad ∧ (s.unsolicited).lg = s.lg ∧ (s.unsolicited).vc = s.vc ∧ (s.unsolicited).gd = s.gd ∧
    (s.unsolicited).sl = s.sl ∧ (s.unsolicited).br = s.br ∧ (s.unsolicited).sq = s.sq ∧
    (s.unsolicited).shadows = s.shadows ∧ (s.unsolicited).snapTravel = s.snapTravel ∧
    (s.unsolicited).snapCount = s.snapCount ∧ (s.unsolicited).pins = s.pins ∧ (s.unsolicited).lines = s.lines ∧
    (s.unsolicited).sampled = s.sampled ∧ (s.unsolicited).inputs = s.inputs ∧
    (s.unsolicited).freeCount = s.freeCount := by
  unfold State.unsolicited
  simp

@[simp] theorem State.replyTake_frame (s : State) (c : LineChar) :
    (s.replyTake c).pending = s.pending ∧ (s.replyTake c).port = s.port ∧ (s.replyTake c).regs = s.regs ∧
    (s.replyTake c).pattern = s.pattern ∧ (s.replyTake c).route = s.route ∧ (s.replyTake c).lp = s.lp ∧
    (s.replyTake c).clk = s.clk ∧ (s.replyTake c).cs = s.cs ∧ (s.replyTake c).candidates = s.candidates ∧
    (s.replyTake c).ad = s.ad ∧ (s.replyTake c).lg = s.lg ∧ (s.replyTake c).vc = s.vc ∧ (s.replyTake c).gd = s.gd ∧
    (s.replyTake c).sq = s.sq ∧ (s.replyTake c).shadows = s.shadows ∧ (s.replyTake c).snapTravel = s.snapTravel ∧
    (s.replyTake c).snapCount = s.snapCount ∧ (s.replyTake c).pins = s.pins ∧ (s.replyTake c).lines = s.lines ∧
    (s.replyTake c).sampled = s.sampled ∧ (s.replyTake c).inputs = s.inputs ∧
    (s.replyTake c).freeCount = s.freeCount := by
  unfold State.replyTake
  dsimp only
  (repeat' split) <;> simp

@[simp] theorem State.linkTake_frame (s : State) (c : LineChar) :
    (s.linkTake c).pending = s.pending ∧ (s.linkTake c).port = s.port ∧ (s.linkTake c).regs = s.regs ∧
    (s.linkTake c).pattern = s.pattern ∧ (s.linkTake c).route = s.route ∧ (s.linkTake c).lp = s.lp ∧
    (s.linkTake c).clk = s.clk ∧ (s.linkTake c).cs = s.cs ∧ (s.linkTake c).candidates = s.candidates ∧
    (s.linkTake c).ad = s.ad ∧ (s.linkTake c).lg = s.lg ∧ (s.linkTake c).vc = s.vc ∧ (s.linkTake c).gd = s.gd ∧
    (s.linkTake c).sq = s.sq ∧ (s.linkTake c).shadows = s.shadows ∧ (s.linkTake c).snapTravel = s.snapTravel ∧
    (s.linkTake c).snapCount = s.snapCount ∧ (s.linkTake c).pins = s.pins ∧ (s.linkTake c).lines = s.lines ∧
    (s.linkTake c).sampled = s.sampled ∧ (s.linkTake c).inputs = s.inputs ∧ (s.linkTake c).freeCount = s.freeCount := by
  unfold State.linkTake
  (repeat' split) <;> simp

@[simp] theorem State.linkCharacter_frame (s : State) (c : LineChar) :
    (s.linkCharacter c).pending = s.pending ∧ (s.linkCharacter c).port = s.port ∧
    (s.linkCharacter c).regs = s.regs ∧ (s.linkCharacter c).pattern = s.pattern ∧
    (s.linkCharacter c).route = s.route ∧ (s.linkCharacter c).lp = s.lp ∧ (s.linkCharacter c).clk = s.clk ∧
    (s.linkCharacter c).cs = s.cs ∧ (s.linkCharacter c).candidates = s.candidates ∧ (s.linkCharacter c).ad = s.ad ∧
    (s.linkCharacter c).lg = s.lg ∧ (s.linkCharacter c).vc = s.vc ∧ (s.linkCharacter c).gd = s.gd ∧
    (s.linkCharacter c).sq = s.sq ∧ (s.linkCharacter c).shadows = s.shadows ∧
    (s.linkCharacter c).snapTravel = s.snapTravel ∧ (s.linkCharacter c).snapCount = s.snapCount ∧
    (s.linkCharacter c).pins = s.pins ∧ (s.linkCharacter c).lines = s.lines ∧
    (s.linkCharacter c).sampled = s.sampled ∧ (s.linkCharacter c).inputs = s.inputs ∧
    (s.linkCharacter c).freeCount = s.freeCount := by
  unfold State.linkCharacter
  dsimp only
  (repeat' split) <;> simp

@[simp] theorem State.replyExpiry_frame (s : State) :
    (s.replyExpiry).pending = s.pending ∧ (s.replyExpiry).port = s.port ∧ (s.replyExpiry).regs = s.regs ∧
    (s.replyExpiry).pattern = s.pattern ∧ (s.replyExpiry).route = s.route ∧ (s.replyExpiry).lp = s.lp ∧
    (s.replyExpiry).clk = s.clk ∧ (s.replyExpiry).cs = s.cs ∧ (s.replyExpiry).candidates = s.candidates ∧
    (s.replyExpiry).ad = s.ad ∧ (s.replyExpiry).lg = s.lg ∧ (s.replyExpiry).vc = s.vc ∧ (s.replyExpiry).gd = s.gd ∧
    (s.replyExpiry).sq = s.sq ∧ (s.replyExpiry).shadows = s.shadows ∧ (s.replyExpiry).snapTravel = s.snapTravel ∧
    (s.replyExpiry).snapCount = s.snapCount ∧ (s.replyExpiry).pins = s.pins ∧ (s.replyExpiry).lines = s.lines ∧
    (s.replyExpiry).sampled = s.sampled ∧ (s.replyExpiry).inputs = s.inputs ∧
    (s.replyExpiry).freeCount = s.freeCount := by
  unfold State.replyExpiry
  (repeat' split) <;> simp

@[simp] theorem State.linkReceive_frame (s : State) :
    (s.linkReceive).pending = s.pending ∧ (s.linkReceive).port = s.port ∧ (s.linkReceive).regs = s.regs ∧
    (s.linkReceive).pattern = s.pattern ∧ (s.linkReceive).route = s.route ∧ (s.linkReceive).lp = s.lp ∧
    (s.linkReceive).clk = s.clk ∧ (s.linkReceive).cs = s.cs ∧ (s.linkReceive).candidates = s.candidates ∧
    (s.linkReceive).ad = s.ad ∧ (s.linkReceive).lg = s.lg ∧ (s.linkReceive).vc = s.vc ∧ (s.linkReceive).gd = s.gd ∧
    (s.linkReceive).sq = s.sq ∧ (s.linkReceive).shadows = s.shadows ∧ (s.linkReceive).snapTravel = s.snapTravel ∧
    (s.linkReceive).snapCount = s.snapCount ∧ (s.linkReceive).pins = s.pins ∧ (s.linkReceive).lines = s.lines ∧
    (s.linkReceive).sampled = s.sampled ∧ (s.linkReceive).inputs = s.inputs ∧
    (s.linkReceive).freeCount = s.freeCount := by
  unfold State.linkReceive
  dsimp only
  (repeat' split) <;> simp

@[simp] theorem State.expirePoll_frame (s : State) :
    (s.expirePoll).pending = s.pending ∧ (s.expirePoll).port = s.port ∧ (s.expirePoll).regs = s.regs ∧
    (s.expirePoll).pattern = s.pattern ∧ (s.expirePoll).route = s.route ∧ (s.expirePoll).lp = s.lp ∧
    (s.expirePoll).clk = s.clk ∧ (s.expirePoll).cs = s.cs ∧ (s.expirePoll).candidates = s.candidates ∧
    (s.expirePoll).ad = s.ad ∧ (s.expirePoll).lg = s.lg ∧ (s.expirePoll).vc = s.vc ∧ (s.expirePoll).gd = s.gd ∧
    (s.expirePoll).br = s.br ∧ (s.expirePoll).sq = s.sq ∧ (s.expirePoll).rc = s.rc ∧
    (s.expirePoll).counters = s.counters ∧ (s.expirePoll).shadows = s.shadows ∧
    (s.expirePoll).snapTravel = s.snapTravel ∧ (s.expirePoll).snapCount = s.snapCount ∧
    (s.expirePoll).pins = s.pins ∧ (s.expirePoll).lines = s.lines ∧ (s.expirePoll).sampled = s.sampled ∧
    (s.expirePoll).inputs = s.inputs ∧ (s.expirePoll).freeCount = s.freeCount := by
  refine ⟨rfl, rfl, rfl, rfl, rfl, rfl, rfl, rfl, rfl, rfl, rfl, rfl, rfl, rfl, rfl, rfl, rfl, rfl, rfl, rfl, rfl, rfl, rfl, rfl, rfl⟩

@[simp] theorem State.abortLink_frame (s : State) :
    (s.abortLink).pending = s.pending ∧ (s.abortLink).port = s.port ∧ (s.abortLink).regs = s.regs ∧
    (s.abortLink).pattern = s.pattern ∧ (s.abortLink).route = s.route ∧ (s.abortLink).lp = s.lp ∧
    (s.abortLink).clk = s.clk ∧ (s.abortLink).cs = s.cs ∧ (s.abortLink).candidates = s.candidates ∧
    (s.abortLink).ad = s.ad ∧ (s.abortLink).lg = s.lg ∧ (s.abortLink).vc = s.vc ∧ (s.abortLink).gd = s.gd ∧
    (s.abortLink).br = s.br ∧ (s.abortLink).sq = s.sq ∧ (s.abortLink).rc = s.rc ∧
    (s.abortLink).shadows = s.shadows ∧ (s.abortLink).snapTravel = s.snapTravel ∧
    (s.abortLink).snapCount = s.snapCount ∧ (s.abortLink).pins = s.pins ∧ (s.abortLink).lines = s.lines ∧
    (s.abortLink).sampled = s.sampled ∧ (s.abortLink).inputs = s.inputs ∧ (s.abortLink).freeCount = s.freeCount := by
  unfold State.abortLink
  dsimp only
  simp

end Sys2Proof.Machine
end

