-- ==== Sys2Proof/Laws/Edge.lean ====
section
/-! SUPPORT. A row's arrival at its edge, said once: what it writes, and that nothing else is read otherwise after it. -/

namespace Sys2Proof.Machine

/-- What the arrival of a row does (log 29): its place is kept, and where it cannot stand at the edge of the row before
it, what stands startable is taken anew. -/
theorem State.arrive_eq (s : State) (p : Place) :
    s.arrive p = { s with sl := { s.sl with
      place := p, earlier := if p.follows s.sl.place then s.sl.earlier else s.startableNow } } := by
  unfold State.arrive
  cases p.follows s.sl.place <;> rfl

/-- A late row ends no edge. -/
theorem State.arrive_late (s : State) : s.arrive .late = { s with sl := { s.sl with place := .late } } := rfl

/-- A position event is the first of its edge. -/
theorem State.arrive_position (s : State) :
    s.arrive .position = { s with sl := { s.sl with place := .position, earlier := s.startableNow } } := rfl

@[simp] theorem State.arrive_place (s : State) (p : Place) : (s.arrive p).sl.place = p := by simp [State.arrive_eq]
@[simp] theorem State.arrive_link (s : State) (p : Place) : (s.arrive p).sl.link = s.sl.link := by
  simp [State.arrive_eq]
@[simp] theorem State.arrive_slots (s : State) (p : Place) : (s.arrive p).sl.slots = s.sl.slots := by
  simp [State.arrive_eq]
@[simp] theorem State.arrive_stations (s : State) (p : Place) : (s.arrive p).sl.stations = s.sl.stations := by
  simp [State.arrive_eq]
@[simp] theorem State.arrive_routeQ (s : State) (p : Place) : (s.arrive p).sl.routeQ = s.sl.routeQ := by
  simp [State.arrive_eq]
@[simp] theorem State.arrive_tagQ (s : State) (p : Place) : (s.arrive p).sl.tagQ = s.sl.tagQ := by
  simp [State.arrive_eq]
@[simp] theorem State.arrive_noticeQ (s : State) (p : Place) : (s.arrive p).sl.noticeQ = s.sl.noticeQ := by
  simp [State.arrive_eq]
@[simp] theorem State.arrive_rx (s : State) (p : Place) : (s.arrive p).sl.rx = s.sl.rx := by simp [State.arrive_eq]
@[simp] theorem State.arrive_startableNow (s : State) (p : Place) : (s.arrive p).startableNow = s.startableNow := by
  rw [State.arrive_eq]
  rfl

/-- An edge once closed and a row arrived: arriving again at a later place of the same edge only moves the place. -/
theorem State.arrive_follows {s : State} {p : Place} (h : p.follows s.sl.place = true) :
    s.arrive p = { s with sl := { s.sl with place := p } } := by
  simp [State.arrive_eq, h]

end Sys2Proof.Machine
end

