-- ==== Sys2Proof/Laws/Frame5.lean ====
section
/-! SUPPORT. What run control and the host port leave alone: one lemma for each, a conjunction over the fields of State. -/

namespace Sys2Proof.Machine

@[simp] theorem State.refuseCommand_frame (s : State) (why : CommandRefusal) :
    (s.refuseCommand why).pending = s.pending ∧ (s.refuseCommand why).port = s.port ∧
    (s.refuseCommand why).regs = s.regs ∧ (s.refuseCommand why).pattern = s.pattern ∧
    (s.refuseCommand why).route = s.route ∧ (s.refuseCommand why).lp = s.lp ∧ (s.refuseCommand why).clk = s.clk ∧
    (s.refuseCommand why).cs = s.cs ∧ (s.refuseCommand why).candidates = s.candidates ∧
    (s.refuseCommand why).ad = s.ad ∧ (s.refuseCommand why).lg = s.lg ∧ (s.refuseCommand why).vc = s.vc ∧
    (s.refuseCommand why).gd = s.gd ∧ (s.refuseCommand why).sl = s.sl ∧ (s.refuseCommand why).br = s.br ∧
    (s.refuseCommand why).sq = s.sq ∧ (s.refuseCommand why).shadows = s.shadows ∧
    (s.refuseCommand why).snapTravel = s.snapTravel ∧ (s.refuseCommand why).snapCount = s.snapCount ∧
    (s.refuseCommand why).pins = s.pins ∧ (s.refuseCommand why).lines = s.lines ∧
    (s.refuseCommand why).sampled = s.sampled ∧ (s.refuseCommand why).inputs = s.inputs ∧
    (s.refuseCommand why).freeCount = s.freeCount := by
  unfold State.refuseCommand
  dsimp only
  simp

@[simp] theorem State.acceptCommand_frame (s : State) :
    (s.acceptCommand).pending = s.pending ∧ (s.acceptCommand).port = s.port ∧ (s.acceptCommand).regs = s.regs ∧
    (s.acceptCommand).pattern = s.pattern ∧ (s.acceptCommand).route = s.route ∧ (s.acceptCommand).lp = s.lp ∧
    (s.acceptCommand).clk = s.clk ∧ (s.acceptCommand).cs = s.cs ∧ (s.acceptCommand).candidates = s.candidates ∧
    (s.acceptCommand).ad = s.ad ∧ (s.acceptCommand).lg = s.lg ∧ (s.acceptCommand).vc = s.vc ∧
    (s.acceptCommand).gd = s.gd ∧ (s.acceptCommand).sl = s.sl ∧ (s.acceptCommand).br = s.br ∧
    (s.acceptCommand).sq = s.sq ∧ (s.acceptCommand).counters = s.counters ∧ (s.acceptCommand).shadows = s.shadows ∧
    (s.acceptCommand).snapTravel = s.snapTravel ∧ (s.acceptCommand).snapCount = s.snapCount ∧
    (s.acceptCommand).pins = s.pins ∧ (s.acceptCommand).lines = s.lines ∧ (s.acceptCommand).sampled = s.sampled ∧
    (s.acceptCommand).inputs = s.inputs ∧ (s.acceptCommand).freeCount = s.freeCount := by
  refine ⟨rfl, rfl, rfl, rfl, rfl, rfl, rfl, rfl, rfl, rfl, rfl, rfl, rfl, rfl, rfl, rfl, rfl, rfl, rfl, rfl, rfl, rfl, rfl, rfl, rfl⟩

@[simp] theorem State.nameCommand_frame (s : State) (code : Nat) :
    (s.nameCommand code).pending = s.pending ∧ (s.nameCommand code).port = s.port ∧
    (s.nameCommand code).regs = s.regs ∧ (s.nameCommand code).pattern = s.pattern ∧
    (s.nameCommand code).route = s.route ∧ (s.nameCommand code).lp = s.lp ∧ (s.nameCommand code).clk = s.clk ∧
    (s.nameCommand code).cs = s.cs ∧ (s.nameCommand code).candidates = s.candidates ∧
    (s.nameCommand code).ad = s.ad ∧ (s.nameCommand code).lg = s.lg ∧ (s.nameCommand code).vc = s.vc ∧
    (s.nameCommand code).gd = s.gd ∧ (s.nameCommand code).sl = s.sl ∧ (s.nameCommand code).br = s.br ∧
    (s.nameCommand code).sq = s.sq ∧ (s.nameCommand code).counters = s.counters ∧
    (s.nameCommand code).shadows = s.shadows ∧ (s.nameCommand code).snapTravel = s.snapTravel ∧
    (s.nameCommand code).snapCount = s.snapCount ∧ (s.nameCommand code).pins = s.pins ∧
    (s.nameCommand code).lines = s.lines ∧ (s.nameCommand code).sampled = s.sampled ∧
    (s.nameCommand code).inputs = s.inputs ∧ (s.nameCommand code).freeCount = s.freeCount := by
  refine ⟨rfl, rfl, rfl, rfl, rfl, rfl, rfl, rfl, rfl, rfl, rfl, rfl, rfl, rfl, rfl, rfl, rfl, rfl, rfl, rfl, rfl, rfl, rfl, rfl, rfl⟩

@[simp] theorem State.setRun_frame (s : State) (x : RunState) :
    (s.setRun x).pending = s.pending ∧ (s.setRun x).port = s.port ∧ (s.setRun x).regs = s.regs ∧
    (s.setRun x).pattern = s.pattern ∧ (s.setRun x).route = s.route ∧ (s.setRun x).lp = s.lp ∧
    (s.setRun x).clk = s.clk ∧ (s.setRun x).cs = s.cs ∧ (s.setRun x).candidates = s.candidates ∧
    (s.setRun x).ad = s.ad ∧ (s.setRun x).lg = s.lg ∧ (s.setRun x).vc = s.vc ∧ (s.setRun x).gd = s.gd ∧
    (s.setRun x).sl = s.sl ∧ (s.setRun x).br = s.br ∧ (s.setRun x).sq = s.sq ∧ (s.setRun x).counters = s.counters ∧
    (s.setRun x).shadows = s.shadows ∧ (s.setRun x).snapTravel = s.snapTravel ∧
    (s.setRun x).snapCount = s.snapCount ∧ (s.setRun x).pins = s.pins ∧ (s.setRun x).lines = s.lines ∧
    (s.setRun x).sampled = s.sampled ∧ (s.setRun x).inputs = s.inputs ∧ (s.setRun x).freeCount = s.freeCount := by
  refine ⟨rfl, rfl, rfl, rfl, rfl, rfl, rfl, rfl, rfl, rfl, rfl, rfl, rfl, rfl, rfl, rfl, rfl, rfl, rfl, rfl, rfl, rfl, rfl, rfl, rfl⟩

@[simp] theorem State.rebase_frame (s : State) :
    (s.rebase).pending = s.pending ∧ (s.rebase).port = s.port ∧ (s.rebase).regs = s.regs ∧
    (s.rebase).pattern = s.pattern ∧ (s.rebase).route = s.route ∧ (s.rebase).clk = s.clk ∧
    (s.rebase).candidates = s.candidates ∧ (s.rebase).ad = s.ad ∧ (s.rebase).vc = s.vc ∧ (s.rebase).gd = s.gd ∧
    (s.rebase).sl = s.sl ∧ (s.rebase).br = s.br ∧ (s.rebase).sq = s.sq ∧ (s.rebase).rc = s.rc ∧
    (s.rebase).counters = s.counters ∧ (s.rebase).shadows = s.shadows ∧ (s.rebase).snapTravel = s.snapTravel ∧
    (s.rebase).snapCount = s.snapCount ∧ (s.rebase).pins = s.pins ∧ (s.rebase).lines = s.lines ∧
    (s.rebase).sampled = s.sampled ∧ (s.rebase).inputs = s.inputs ∧ (s.rebase).freeCount = s.freeCount := by
  refine ⟨rfl, rfl, rfl, rfl, rfl, rfl, rfl, rfl, rfl, rfl, rfl, rfl, rfl, rfl, rfl, rfl, rfl, rfl, rfl, rfl, rfl, rfl, rfl⟩

@[simp] theorem State.startRun_frame (s : State) :
    (s.startRun).pending = s.pending ∧ (s.startRun).port = s.port ∧ (s.startRun).regs = s.regs ∧
    (s.startRun).pattern = s.pattern ∧ (s.startRun).route = s.route ∧ (s.startRun).clk = s.clk ∧
    (s.startRun).candidates = s.candidates ∧ (s.startRun).gd = s.gd ∧ (s.startRun).sl = s.sl ∧
    (s.startRun).sq = s.sq ∧ (s.startRun).counters = s.counters ∧ (s.startRun).shadows = s.shadows ∧
    (s.startRun).snapTravel = s.snapTravel ∧ (s.startRun).snapCount = s.snapCount ∧ (s.startRun).pins = s.pins ∧
    (s.startRun).lines = s.lines ∧ (s.startRun).sampled = s.sampled ∧ (s.startRun).inputs = s.inputs ∧
    (s.startRun).freeCount = s.freeCount := by
  unfold State.startRun
  dsimp only
  simp

@[simp] theorem State.start_frame (s : State) :
    (s.start).pending = s.pending ∧ (s.start).port = s.port ∧ (s.start).regs = s.regs ∧
    (s.start).pattern = s.pattern ∧ (s.start).route = s.route ∧ (s.start).clk = s.clk ∧
    (s.start).candidates = s.candidates ∧ (s.start).gd = s.gd ∧ (s.start).sl = s.sl ∧ (s.start).sq = s.sq ∧
    (s.start).shadows = s.shadows ∧ (s.start).snapTravel = s.snapTravel ∧ (s.start).snapCount = s.snapCount ∧
    (s.start).pins = s.pins ∧ (s.start).lines = s.lines ∧ (s.start).sampled = s.sampled ∧
    (s.start).inputs = s.inputs ∧ (s.start).freeCount = s.freeCount := by
  unfold State.start
  dsimp only
  (repeat' split) <;> simp

@[simp] theorem State.stop_frame (s : State) :
    (s.stop).pending = s.pending ∧ (s.stop).port = s.port ∧ (s.stop).regs = s.regs ∧ (s.stop).pattern = s.pattern ∧
    (s.stop).route = s.route ∧ (s.stop).lp = s.lp ∧ (s.stop).clk = s.clk ∧ (s.stop).cs = s.cs ∧
    (s.stop).candidates = s.candidates ∧ (s.stop).ad = s.ad ∧ (s.stop).lg = s.lg ∧ (s.stop).vc = s.vc ∧
    (s.stop).gd = s.gd ∧ (s.stop).sq = s.sq ∧ (s.stop).shadows = s.shadows ∧ (s.stop).snapTravel = s.snapTravel ∧
    (s.stop).snapCount = s.snapCount ∧ (s.stop).pins = s.pins ∧ (s.stop).lines = s.lines ∧
    (s.stop).sampled = s.sampled ∧ (s.stop).inputs = s.inputs ∧ (s.stop).freeCount = s.freeCount := by
  unfold State.stop
  dsimp only
  (repeat' split) <;> simp

@[simp] theorem abortEach_frame (l : List RefGen) (s : State) :
    (l.foldl State.refOnAbort s).pending = s.pending ∧ (l.foldl State.refOnAbort s).port = s.port ∧
    (l.foldl State.refOnAbort s).regs = s.regs ∧ (l.foldl State.refOnAbort s).pattern = s.pattern ∧
    (l.foldl State.refOnAbort s).route = s.route ∧ (l.foldl State.refOnAbort s).lp = s.lp ∧
    (l.foldl State.refOnAbort s).clk = s.clk ∧ (l.foldl State.refOnAbort s).candidates = s.candidates ∧
    (l.foldl State.refOnAbort s).ad = s.ad ∧ (l.foldl State.refOnAbort s).lg = s.lg ∧
    (l.foldl State.refOnAbort s).vc = s.vc ∧ (l.foldl State.refOnAbort s).gd = s.gd ∧
    (l.foldl State.refOnAbort s).sl = s.sl ∧ (l.foldl State.refOnAbort s).br = s.br ∧
    (l.foldl State.refOnAbort s).sq = s.sq ∧ (l.foldl State.refOnAbort s).rc = s.rc ∧
    (l.foldl State.refOnAbort s).shadows = s.shadows ∧ (l.foldl State.refOnAbort s).snapTravel = s.snapTravel ∧
    (l.foldl State.refOnAbort s).snapCount = s.snapCount ∧ (l.foldl State.refOnAbort s).pins = s.pins ∧
    (l.foldl State.refOnAbort s).lines = s.lines ∧ (l.foldl State.refOnAbort s).sampled = s.sampled ∧
    (l.foldl State.refOnAbort s).inputs = s.inputs ∧ (l.foldl State.refOnAbort s).freeCount = s.freeCount := by
  induction l generalizing s with
  | nil => simp
  | cons x l ih =>
    simp only [List.foldl_cons]
    simp [ih]

@[simp] theorem State.abortSources_frame (s : State) :
    (s.abortSources).pending = s.pending ∧ (s.abortSources).port = s.port ∧ (s.abortSources).regs = s.regs ∧
    (s.abortSources).pattern = s.pattern ∧ (s.abortSources).route = s.route ∧ (s.abortSources).lp = s.lp ∧
    (s.abortSources).clk = s.clk ∧ (s.abortSources).candidates = s.candidates ∧ (s.abortSources).ad = s.ad ∧
    (s.abortSources).lg = s.lg ∧ (s.abortSources).vc = s.vc ∧ (s.abortSources).gd = s.gd ∧
    (s.abortSources).sl = s.sl ∧ (s.abortSources).br = s.br ∧ (s.abortSources).sq = s.sq ∧
    (s.abortSources).rc = s.rc ∧ (s.abortSources).shadows = s.shadows ∧
    (s.abortSources).snapTravel = s.snapTravel ∧ (s.abortSources).snapCount = s.snapCount ∧
    (s.abortSources).pins = s.pins ∧ (s.abortSources).lines = s.lines ∧ (s.abortSources).sampled = s.sampled ∧
    (s.abortSources).inputs = s.inputs ∧ (s.abortSources).freeCount = s.freeCount := by
  unfold State.abortSources
  dsimp only
  (repeat' split) <;> simp

@[simp] theorem State.abortRun_frame (s : State) :
    (s.abortRun).pending = s.pending ∧ (s.abortRun).port = s.port ∧ (s.abortRun).regs = s.regs ∧
    (s.abortRun).pattern = s.pattern ∧ (s.abortRun).route = s.route ∧ (s.abortRun).lp = s.lp ∧
    (s.abortRun).clk = s.clk ∧ (s.abortRun).candidates = s.candidates ∧ (s.abortRun).ad = s.ad ∧
    (s.abortRun).shadows = s.shadows ∧ (s.abortRun).snapTravel = s.snapTravel ∧
    (s.abortRun).snapCount = s.snapCount ∧ (s.abortRun).pins = s.pins ∧ (s.abortRun).lines = s.lines ∧
    (s.abortRun).sampled = s.sampled ∧ (s.abortRun).inputs = s.inputs ∧ (s.abortRun).freeCount = s.freeCount := by
  unfold State.abortRun
  dsimp only
  simp

@[simp] theorem State.abort_frame (s : State) :
    (s.abort).pending = s.pending ∧ (s.abort).port = s.port ∧ (s.abort).regs = s.regs ∧
    (s.abort).pattern = s.pattern ∧ (s.abort).route = s.route ∧ (s.abort).lp = s.lp ∧ (s.abort).clk = s.clk ∧
    (s.abort).candidates = s.candidates ∧ (s.abort).ad = s.ad ∧ (s.abort).shadows = s.shadows ∧
    (s.abort).snapTravel = s.snapTravel ∧ (s.abort).snapCount = s.snapCount ∧ (s.abort).pins = s.pins ∧
    (s.abort).lines = s.lines ∧ (s.abort).sampled = s.sampled ∧ (s.abort).inputs = s.inputs ∧
    (s.abort).freeCount = s.freeCount := by
  unfold State.abort
  dsimp only
  (repeat' split) <;> simp

@[simp] theorem State.recover_frame (s : State) :
    (s.recover).pending = s.pending ∧ (s.recover).port = s.port ∧ (s.recover).regs = s.regs ∧
    (s.recover).pattern = s.pattern ∧ (s.recover).route = s.route ∧ (s.recover).lp = s.lp ∧
    (s.recover).clk = s.clk ∧ (s.recover).cs = s.cs ∧ (s.recover).candidates = s.candidates ∧
    (s.recover).ad = s.ad ∧ (s.recover).lg = s.lg ∧ (s.recover).vc = s.vc ∧ (s.recover).gd = s.gd ∧
    (s.recover).sl = s.sl ∧ (s.recover).br = s.br ∧ (s.recover).sq = s.sq ∧ (s.recover).shadows = s.shadows ∧
    (s.recover).snapTravel = s.snapTravel ∧ (s.recover).snapCount = s.snapCount ∧ (s.recover).pins = s.pins ∧
    (s.recover).lines = s.lines ∧ (s.recover).sampled = s.sampled ∧ (s.recover).inputs = s.inputs ∧
    (s.recover).freeCount = s.freeCount := by
  unfold State.recover
  dsimp only
  (repeat' split) <;> simp

@[simp] theorem State.command_frame (s : State) (v : Word) :
    (s.command v).pending = s.pending ∧ (s.command v).port = s.port ∧ (s.command v).regs = s.regs ∧
    (s.command v).pattern = s.pattern ∧ (s.command v).route = s.route ∧ (s.command v).clk = s.clk ∧
    (s.command v).candidates = s.candidates ∧ (s.command v).shadows = s.shadows ∧
    (s.command v).snapTravel = s.snapTravel ∧ (s.command v).snapCount = s.snapCount ∧ (s.command v).pins = s.pins ∧
    (s.command v).lines = s.lines ∧ (s.command v).sampled = s.sampled ∧ (s.command v).inputs = s.inputs ∧
    (s.command v).freeCount = s.freeCount := by
  unfold State.command
  (repeat' split) <;> simp

@[simp] theorem State.snapshot_frame (s : State) :
    (s.snapshot).pending = s.pending ∧ (s.snapshot).port = s.port ∧ (s.snapshot).regs = s.regs ∧
    (s.snapshot).pattern = s.pattern ∧ (s.snapshot).route = s.route ∧ (s.snapshot).lp = s.lp ∧
    (s.snapshot).clk = s.clk ∧ (s.snapshot).cs = s.cs ∧ (s.snapshot).candidates = s.candidates ∧
    (s.snapshot).ad = s.ad ∧ (s.snapshot).lg = s.lg ∧ (s.snapshot).vc = s.vc ∧ (s.snapshot).gd = s.gd ∧
    (s.snapshot).sl = s.sl ∧ (s.snapshot).br = s.br ∧ (s.snapshot).sq = s.sq ∧ (s.snapshot).rc = s.rc ∧
    (s.snapshot).counters = s.counters ∧ (s.snapshot).pins = s.pins ∧ (s.snapshot).lines = s.lines ∧
    (s.snapshot).sampled = s.sampled ∧ (s.snapshot).inputs = s.inputs ∧ (s.snapshot).freeCount = s.freeCount := by
  refine ⟨rfl, rfl, rfl, rfl, rfl, rfl, rfl, rfl, rfl, rfl, rfl, rfl, rfl, rfl, rfl, rfl, rfl, rfl, rfl, rfl, rfl, rfl, rfl⟩

@[simp] theorem State.clearCounters_frame (s : State) :
    (s.clearCounters).pending = s.pending ∧ (s.clearCounters).port = s.port ∧ (s.clearCounters).regs = s.regs ∧
    (s.clearCounters).pattern = s.pattern ∧ (s.clearCounters).route = s.route ∧ (s.clearCounters).lp = s.lp ∧
    (s.clearCounters).clk = s.clk ∧ (s.clearCounters).cs = s.cs ∧ (s.clearCounters).candidates = s.candidates ∧
    (s.clearCounters).ad = s.ad ∧ (s.clearCounters).lg = s.lg ∧ (s.clearCounters).vc = s.vc ∧
    (s.clearCounters).gd = s.gd ∧ (s.clearCounters).sl = s.sl ∧ (s.clearCounters).br = s.br ∧
    (s.clearCounters).sq = s.sq ∧ (s.clearCounters).rc = s.rc ∧ (s.clearCounters).shadows = s.shadows ∧
    (s.clearCounters).snapTravel = s.snapTravel ∧ (s.clearCounters).snapCount = s.snapCount ∧
    (s.clearCounters).pins = s.pins ∧ (s.clearCounters).lines = s.lines ∧ (s.clearCounters).sampled = s.sampled ∧
    (s.clearCounters).inputs = s.inputs ∧ (s.clearCounters).freeCount = s.freeCount := by
  refine ⟨rfl, rfl, rfl, rfl, rfl, rfl, rfl, rfl, rfl, rfl, rfl, rfl, rfl, rfl, rfl, rfl, rfl, rfl, rfl, rfl, rfl, rfl, rfl, rfl, rfl⟩

@[simp] theorem State.clearGroups_frame (s : State) (first : Nat) (mask : Word) :
    (s.clearGroups first mask).pending = s.pending ∧ (s.clearGroups first mask).port = s.port ∧
    (s.clearGroups first mask).regs = s.regs ∧ (s.clearGroups first mask).pattern = s.pattern ∧
    (s.clearGroups first mask).route = s.route ∧ (s.clearGroups first mask).lp = s.lp ∧
    (s.clearGroups first mask).clk = s.clk ∧ (s.clearGroups first mask).cs = s.cs ∧
    (s.clearGroups first mask).candidates = s.candidates ∧ (s.clearGroups first mask).ad = s.ad ∧
    (s.clearGroups first mask).lg = s.lg ∧ (s.clearGroups first mask).vc = s.vc ∧
    (s.clearGroups first mask).gd = s.gd ∧ (s.clearGroups first mask).sl = s.sl ∧
    (s.clearGroups first mask).br = s.br ∧ (s.clearGroups first mask).sq = s.sq ∧
    (s.clearGroups first mask).rc = s.rc ∧ (s.clearGroups first mask).shadows = s.shadows ∧
    (s.clearGroups first mask).snapTravel = s.snapTravel ∧ (s.clearGroups first mask).snapCount = s.snapCount ∧
    (s.clearGroups first mask).pins = s.pins ∧ (s.clearGroups first mask).lines = s.lines ∧
    (s.clearGroups first mask).sampled = s.sampled ∧ (s.clearGroups first mask).inputs = s.inputs ∧
    (s.clearGroups first mask).freeCount = s.freeCount := by
  refine ⟨rfl, rfl, rfl, rfl, rfl, rfl, rfl, rfl, rfl, rfl, rfl, rfl, rfl, rfl, rfl, rfl, rfl, rfl, rfl, rfl, rfl, rfl, rfl, rfl, rfl⟩

@[simp] theorem State.refuse_frame (s : State) (write : Bool) (why : AccessReason) (index : Nat) (a : Addr) :
    (s.refuse write why index a).pending = s.pending ∧ (s.refuse write why index a).regs = s.regs ∧
    (s.refuse write why index a).pattern = s.pattern ∧ (s.refuse write why index a).route = s.route ∧
    (s.refuse write why index a).lp = s.lp ∧ (s.refuse write why index a).clk = s.clk ∧
    (s.refuse write why index a).cs = s.cs ∧ (s.refuse write why index a).candidates = s.candidates ∧
    (s.refuse write why index a).ad = s.ad ∧ (s.refuse write why index a).lg = s.lg ∧
    (s.refuse write why index a).vc = s.vc ∧ (s.refuse write why index a).gd = s.gd ∧
    (s.refuse write why index a).sl = s.sl ∧ (s.refuse write why index a).br = s.br ∧
    (s.refuse write why index a).sq = s.sq ∧ (s.refuse write why index a).shadows = s.shadows ∧
    (s.refuse write why index a).snapTravel = s.snapTravel ∧ (s.refuse write why index a).snapCount = s.snapCount ∧
    (s.refuse write why index a).pins = s.pins ∧ (s.refuse write why index a).lines = s.lines ∧
    (s.refuse write why index a).sampled = s.sampled ∧ (s.refuse write why index a).inputs = s.inputs ∧
    (s.refuse write why index a).freeCount = s.freeCount := by
  unfold State.refuse
  dsimp only
  (repeat' split) <;> simp

@[simp] theorem State.advancePointer_frame (s : State) (t : TableId) :
    (s.advancePointer t).pending = s.pending ∧ (s.advancePointer t).port = s.port ∧
    (s.advancePointer t).pattern = s.pattern ∧ (s.advancePointer t).route = s.route ∧
    (s.advancePointer t).lp = s.lp ∧ (s.advancePointer t).clk = s.clk ∧ (s.advancePointer t).cs = s.cs ∧
    (s.advancePointer t).candidates = s.candidates ∧ (s.advancePointer t).ad = s.ad ∧
    (s.advancePointer t).lg = s.lg ∧ (s.advancePointer t).vc = s.vc ∧ (s.advancePointer t).gd = s.gd ∧
    (s.advancePointer t).sl = s.sl ∧ (s.advancePointer t).br = s.br ∧ (s.advancePointer t).sq = s.sq ∧
    (s.advancePointer t).rc = s.rc ∧ (s.advancePointer t).counters = s.counters ∧
    (s.advancePointer t).shadows = s.shadows ∧ (s.advancePointer t).snapTravel = s.snapTravel ∧
    (s.advancePointer t).snapCount = s.snapCount ∧ (s.advancePointer t).pins = s.pins ∧
    (s.advancePointer t).lines = s.lines ∧ (s.advancePointer t).sampled = s.sampled ∧
    (s.advancePointer t).inputs = s.inputs ∧ (s.advancePointer t).freeCount = s.freeCount := by
  unfold State.advancePointer
  simp

@[simp] theorem State.discardPoll_frame (s : State) (i : Nat) :
    (s.discardPoll i).pending = s.pending ∧ (s.discardPoll i).port = s.port ∧ (s.discardPoll i).regs = s.regs ∧
    (s.discardPoll i).pattern = s.pattern ∧ (s.discardPoll i).route = s.route ∧ (s.discardPoll i).lp = s.lp ∧
    (s.discardPoll i).clk = s.clk ∧ (s.discardPoll i).cs = s.cs ∧ (s.discardPoll i).candidates = s.candidates ∧
    (s.discardPoll i).ad = s.ad ∧ (s.discardPoll i).lg = s.lg ∧ (s.discardPoll i).vc = s.vc ∧
    (s.discardPoll i).gd = s.gd ∧ (s.discardPoll i).br = s.br ∧ (s.discardPoll i).sq = s.sq ∧
    (s.discardPoll i).rc = s.rc ∧ (s.discardPoll i).counters = s.counters ∧ (s.discardPoll i).shadows = s.shadows ∧
    (s.discardPoll i).snapTravel = s.snapTravel ∧ (s.discardPoll i).snapCount = s.snapCount ∧
    (s.discardPoll i).pins = s.pins ∧ (s.discardPoll i).lines = s.lines ∧ (s.discardPoll i).sampled = s.sampled ∧
    (s.discardPoll i).inputs = s.inputs ∧ (s.discardPoll i).freeCount = s.freeCount := by
  unfold State.discardPoll
  dsimp only
  (repeat' split) <;> simp

@[simp] theorem State.writeStation_frame (s : State) (i : Nat) (v : Word) :
    (s.writeStation i v).pending = s.pending ∧ (s.writeStation i v).port = s.port ∧
    (s.writeStation i v).regs = s.regs ∧ (s.writeStation i v).pattern = s.pattern ∧
    (s.writeStation i v).route = s.route ∧ (s.writeStation i v).lp = s.lp ∧ (s.writeStation i v).clk = s.clk ∧
    (s.writeStation i v).cs = s.cs ∧ (s.writeStation i v).candidates = s.candidates ∧
    (s.writeStation i v).ad = s.ad ∧ (s.writeStation i v).lg = s.lg ∧ (s.writeStation i v).vc = s.vc ∧
    (s.writeStation i v).gd = s.gd ∧ (s.writeStation i v).br = s.br ∧ (s.writeStation i v).sq = s.sq ∧
    (s.writeStation i v).rc = s.rc ∧ (s.writeStation i v).counters = s.counters ∧
    (s.writeStation i v).shadows = s.shadows ∧ (s.writeStation i v).snapTravel = s.snapTravel ∧
    (s.writeStation i v).snapCount = s.snapCount ∧ (s.writeStation i v).pins = s.pins ∧
    (s.writeStation i v).lines = s.lines ∧ (s.writeStation i v).sampled = s.sampled ∧
    (s.writeStation i v).inputs = s.inputs ∧ (s.writeStation i v).freeCount = s.freeCount := by
  unfold State.writeStation
  dsimp only
  (repeat' split) <;> simp

@[simp] theorem State.writeTablePort_frame (s : State) (t : TableId) (v : Word) (a : Addr) :
    (s.writeTablePort t v a).pending = s.pending ∧ (s.writeTablePort t v a).lp = s.lp ∧
    (s.writeTablePort t v a).clk = s.clk ∧ (s.writeTablePort t v a).cs = s.cs ∧
    (s.writeTablePort t v a).candidates = s.candidates ∧ (s.writeTablePort t v a).ad = s.ad ∧
    (s.writeTablePort t v a).lg = s.lg ∧ (s.writeTablePort t v a).vc = s.vc ∧ (s.writeTablePort t v a).gd = s.gd ∧
    (s.writeTablePort t v a).br = s.br ∧ (s.writeTablePort t v a).sq = s.sq ∧
    (s.writeTablePort t v a).shadows = s.shadows ∧ (s.writeTablePort t v a).snapTravel = s.snapTravel ∧
    (s.writeTablePort t v a).snapCount = s.snapCount ∧ (s.writeTablePort t v a).pins = s.pins ∧
    (s.writeTablePort t v a).lines = s.lines ∧ (s.writeTablePort t v a).sampled = s.sampled ∧
    (s.writeTablePort t v a).inputs = s.inputs ∧ (s.writeTablePort t v a).freeCount = s.freeCount := by
  unfold State.writeTablePort
  dsimp only
  (repeat' split) <;> simp

@[simp] theorem State.applyCtrl_frame (s : State) (v : Word) :
    (s.applyCtrl v).pending = s.pending ∧ (s.applyCtrl v).regs = s.regs ∧ (s.applyCtrl v).pattern = s.pattern ∧
    (s.applyCtrl v).route = s.route ∧ (s.applyCtrl v).lp = s.lp ∧ (s.applyCtrl v).clk = s.clk ∧
    (s.applyCtrl v).cs = s.cs ∧ (s.applyCtrl v).candidates = s.candidates ∧ (s.applyCtrl v).ad = s.ad ∧
    (s.applyCtrl v).lg = s.lg ∧ (s.applyCtrl v).vc = s.vc ∧ (s.applyCtrl v).gd = s.gd ∧ (s.applyCtrl v).sl = s.sl ∧
    (s.applyCtrl v).br = s.br ∧ (s.applyCtrl v).sq = s.sq ∧ (s.applyCtrl v).rc = s.rc ∧
    (s.applyCtrl v).counters = s.counters ∧ (s.applyCtrl v).shadows = s.shadows ∧
    (s.applyCtrl v).snapTravel = s.snapTravel ∧ (s.applyCtrl v).snapCount = s.snapCount ∧
    (s.applyCtrl v).pins = s.pins ∧ (s.applyCtrl v).lines = s.lines ∧ (s.applyCtrl v).sampled = s.sampled ∧
    (s.applyCtrl v).inputs = s.inputs ∧ (s.applyCtrl v).freeCount = s.freeCount := by
  refine ⟨rfl, rfl, rfl, rfl, rfl, rfl, rfl, rfl, rfl, rfl, rfl, rfl, rfl, rfl, rfl, rfl, rfl, rfl, rfl, rfl, rfl, rfl, rfl, rfl, rfl⟩

@[simp] theorem State.changeLine_frame (s : State) (before : Word) :
    (s.changeLine before).pending = s.pending ∧ (s.changeLine before).port = s.port ∧
    (s.changeLine before).regs = s.regs ∧ (s.changeLine before).pattern = s.pattern ∧
    (s.changeLine before).route = s.route ∧ (s.changeLine before).clk = s.clk ∧ (s.changeLine before).cs = s.cs ∧
    (s.changeLine before).candidates = s.candidates ∧ (s.changeLine before).ad = s.ad ∧
    (s.changeLine before).lg = s.lg ∧ (s.changeLine before).vc = s.vc ∧ (s.changeLine before).gd = s.gd ∧
    (s.changeLine before).sl = s.sl ∧ (s.changeLine before).br = s.br ∧ (s.changeLine before).sq = s.sq ∧
    (s.changeLine before).rc = s.rc ∧ (s.changeLine before).counters = s.counters ∧
    (s.changeLine before).shadows = s.shadows ∧ (s.changeLine before).snapTravel = s.snapTravel ∧
    (s.changeLine before).snapCount = s.snapCount ∧ (s.changeLine before).pins = s.pins ∧
    (s.changeLine before).lines = s.lines ∧ (s.changeLine before).inputs = s.inputs ∧
    (s.changeLine before).freeCount = s.freeCount := by
  unfold State.changeLine
  dsimp only
  (repeat' split) <;> simp

@[simp] theorem State.changeGenerator_frame (s : State) (before : Word) :
    (s.changeGenerator before).pending = s.pending ∧ (s.changeGenerator before).port = s.port ∧
    (s.changeGenerator before).regs = s.regs ∧ (s.changeGenerator before).pattern = s.pattern ∧
    (s.changeGenerator before).route = s.route ∧ (s.changeGenerator before).clk = s.clk ∧
    (s.changeGenerator before).cs = s.cs ∧ (s.changeGenerator before).candidates = s.candidates ∧
    (s.changeGenerator before).ad = s.ad ∧ (s.changeGenerator before).lg = s.lg ∧
    (s.changeGenerator before).vc = s.vc ∧ (s.changeGenerator before).gd = s.gd ∧
    (s.changeGenerator before).sl = s.sl ∧ (s.changeGenerator before).br = s.br ∧
    (s.changeGenerator before).sq = s.sq ∧ (s.changeGenerator before).rc = s.rc ∧
    (s.changeGenerator before).counters = s.counters ∧ (s.changeGenerator before).shadows = s.shadows ∧
    (s.changeGenerator before).snapTravel = s.snapTravel ∧ (s.changeGenerator before).snapCount = s.snapCount ∧
    (s.changeGenerator before).pins = s.pins ∧ (s.changeGenerator before).lines = s.lines ∧
    (s.changeGenerator before).sampled = s.sampled ∧ (s.changeGenerator before).inputs = s.inputs ∧
    (s.changeGenerator before).freeCount = s.freeCount := by
  unfold State.changeGenerator
  dsimp only
  (repeat' split) <;> simp

@[simp] theorem State.changeStall_frame (s : State) (before : Word) :
    (s.changeStall before).pending = s.pending ∧ (s.changeStall before).port = s.port ∧
    (s.changeStall before).regs = s.regs ∧ (s.changeStall before).pattern = s.pattern ∧
    (s.changeStall before).route = s.route ∧ (s.changeStall before).clk = s.clk ∧
    (s.changeStall before).cs = s.cs ∧ (s.changeStall before).candidates = s.candidates ∧
    (s.changeStall before).ad = s.ad ∧ (s.changeStall before).lg = s.lg ∧ (s.changeStall before).vc = s.vc ∧
    (s.changeStall before).gd = s.gd ∧ (s.changeStall before).sl = s.sl ∧ (s.changeStall before).br = s.br ∧
    (s.changeStall before).sq = s.sq ∧ (s.changeStall before).rc = s.rc ∧
    (s.changeStall before).counters = s.counters ∧ (s.changeStall before).shadows = s.shadows ∧
    (s.changeStall before).snapTravel = s.snapTravel ∧ (s.changeStall before).snapCount = s.snapCount ∧
    (s.changeStall before).pins = s.pins ∧ (s.changeStall before).lines = s.lines ∧
    (s.changeStall before).sampled = s.sampled ∧ (s.changeStall before).inputs = s.inputs ∧
    (s.changeStall before).freeCount = s.freeCount := by
  unfold State.changeStall
  dsimp only
  (repeat' split) <;> simp

@[simp] theorem State.applyDemand_frame (s : State) (v : Word) :
    (s.applyDemand v).pending = s.pending ∧ (s.applyDemand v).port = s.port ∧ (s.applyDemand v).regs = s.regs ∧
    (s.applyDemand v).pattern = s.pattern ∧ (s.applyDemand v).route = s.route ∧ (s.applyDemand v).lp = s.lp ∧
    (s.applyDemand v).clk = s.clk ∧ (s.applyDemand v).candidates = s.candidates ∧ (s.applyDemand v).ad = s.ad ∧
    (s.applyDemand v).lg = s.lg ∧ (s.applyDemand v).vc = s.vc ∧ (s.applyDemand v).gd = s.gd ∧
    (s.applyDemand v).sl = s.sl ∧ (s.applyDemand v).br = s.br ∧ (s.applyDemand v).sq = s.sq ∧
    (s.applyDemand v).rc = s.rc ∧ (s.applyDemand v).counters = s.counters ∧ (s.applyDemand v).shadows = s.shadows ∧
    (s.applyDemand v).snapTravel = s.snapTravel ∧ (s.applyDemand v).snapCount = s.snapCount ∧
    (s.applyDemand v).pins = s.pins ∧ (s.applyDemand v).lines = s.lines ∧ (s.applyDemand v).sampled = s.sampled ∧
    (s.applyDemand v).inputs = s.inputs ∧ (s.applyDemand v).freeCount = s.freeCount := by
  refine ⟨rfl, rfl, rfl, rfl, rfl, rfl, rfl, rfl, rfl, rfl, rfl, rfl, rfl, rfl, rfl, rfl, rfl, rfl, rfl, rfl, rfl, rfl, rfl, rfl, rfl⟩

@[simp] theorem State.changeRandom_frame (s : State) (before : Word) :
    (s.changeRandom before).pending = s.pending ∧ (s.changeRandom before).port = s.port ∧
    (s.changeRandom before).regs = s.regs ∧ (s.changeRandom before).pattern = s.pattern ∧
    (s.changeRandom before).route = s.route ∧ (s.changeRandom before).lp = s.lp ∧
    (s.changeRandom before).clk = s.clk ∧ (s.changeRandom before).candidates = s.candidates ∧
    (s.changeRandom before).ad = s.ad ∧ (s.changeRandom before).lg = s.lg ∧ (s.changeRandom before).vc = s.vc ∧
    (s.changeRandom before).gd = s.gd ∧ (s.changeRandom before).sl = s.sl ∧ (s.changeRandom before).br = s.br ∧
    (s.changeRandom before).sq = s.sq ∧ (s.changeRandom before).rc = s.rc ∧
    (s.changeRandom before).counters = s.counters ∧ (s.changeRandom before).shadows = s.shadows ∧
    (s.changeRandom before).snapTravel = s.snapTravel ∧ (s.changeRandom before).snapCount = s.snapCount ∧
    (s.changeRandom before).pins = s.pins ∧ (s.changeRandom before).lines = s.lines ∧
    (s.changeRandom before).sampled = s.sampled ∧ (s.changeRandom before).inputs = s.inputs ∧
    (s.changeRandom before).freeCount = s.freeCount := by
  unfold State.changeRandom
  dsimp only
  (repeat' split) <;> simp

@[simp] theorem State.changeFlow_frame (s : State) (before : Word) :
    (s.changeFlow before).pending = s.pending ∧ (s.changeFlow before).port = s.port ∧
    (s.changeFlow before).regs = s.regs ∧ (s.changeFlow before).pattern = s.pattern ∧
    (s.changeFlow before).route = s.route ∧ (s.changeFlow before).lp = s.lp ∧ (s.changeFlow before).clk = s.clk ∧
    (s.changeFlow before).cs = s.cs ∧ (s.changeFlow before).candidates = s.candidates ∧
    (s.changeFlow before).ad = s.ad ∧ (s.changeFlow before).lg = s.lg ∧ (s.changeFlow before).gd = s.gd ∧
    (s.changeFlow before).sl = s.sl ∧ (s.changeFlow before).br = s.br ∧ (s.changeFlow before).sq = s.sq ∧
    (s.changeFlow before).rc = s.rc ∧ (s.changeFlow before).shadows = s.shadows ∧
    (s.changeFlow before).snapTravel = s.snapTravel ∧ (s.changeFlow before).snapCount = s.snapCount ∧
    (s.changeFlow before).pins = s.pins ∧ (s.changeFlow before).lines = s.lines ∧
    (s.changeFlow before).sampled = s.sampled ∧ (s.changeFlow before).inputs = s.inputs ∧
    (s.changeFlow before).freeCount = s.freeCount := by
  unfold State.changeFlow
  dsimp only
  (repeat' split) <;> simp

@[simp] theorem State.changeLink_frame (s : State) (before : Word) :
    (s.changeLink before).pending = s.pending ∧ (s.changeLink before).port = s.port ∧
    (s.changeLink before).regs = s.regs ∧ (s.changeLink before).pattern = s.pattern ∧
    (s.changeLink before).route = s.route ∧ (s.changeLink before).lp = s.lp ∧ (s.changeLink before).clk = s.clk ∧
    (s.changeLink before).cs = s.cs ∧ (s.changeLink before).candidates = s.candidates ∧
    (s.changeLink before).ad = s.ad ∧ (s.changeLink before).lg = s.lg ∧ (s.changeLink before).vc = s.vc ∧
    (s.changeLink before).gd = s.gd ∧ (s.changeLink before).br = s.br ∧ (s.changeLink before).sq = s.sq ∧
    (s.changeLink before).rc = s.rc ∧ (s.changeLink before).counters = s.counters ∧
    (s.changeLink before).shadows = s.shadows ∧ (s.changeLink before).snapTravel = s.snapTravel ∧
    (s.changeLink before).snapCount = s.snapCount ∧ (s.changeLink before).pins = s.pins ∧
    (s.changeLink before).lines = s.lines ∧ (s.changeLink before).sampled = s.sampled ∧
    (s.changeLink before).inputs = s.inputs ∧ (s.changeLink before).freeCount = s.freeCount := by
  unfold State.changeLink
  dsimp only
  (repeat' split) <;> simp

@[simp] theorem State.changeDiv_frame (s : State) :
    (s.changeDiv).pending = s.pending ∧ (s.changeDiv).port = s.port ∧ (s.changeDiv).regs = s.regs ∧
    (s.changeDiv).pattern = s.pattern ∧ (s.changeDiv).route = s.route ∧ (s.changeDiv).lp = s.lp ∧
    (s.changeDiv).clk = s.clk ∧ (s.changeDiv).cs = s.cs ∧ (s.changeDiv).candidates = s.candidates ∧
    (s.changeDiv).ad = s.ad ∧ (s.changeDiv).lg = s.lg ∧ (s.changeDiv).vc = s.vc ∧ (s.changeDiv).gd = s.gd ∧
    (s.changeDiv).br = s.br ∧ (s.changeDiv).sq = s.sq ∧ (s.changeDiv).rc = s.rc ∧
    (s.changeDiv).counters = s.counters ∧ (s.changeDiv).shadows = s.shadows ∧
    (s.changeDiv).snapTravel = s.snapTravel ∧ (s.changeDiv).snapCount = s.snapCount ∧ (s.changeDiv).pins = s.pins ∧
    (s.changeDiv).lines = s.lines ∧ (s.changeDiv).sampled = s.sampled ∧ (s.changeDiv).inputs = s.inputs ∧
    (s.changeDiv).freeCount = s.freeCount := by
  unfold State.changeDiv
  dsimp only
  (repeat' split) <;> simp

@[simp] theorem State.applyUserDemand_frame (s : State) (v : Word) :
    (s.applyUserDemand v).pending = s.pending ∧ (s.applyUserDemand v).port = s.port ∧
    (s.applyUserDemand v).regs = s.regs ∧ (s.applyUserDemand v).pattern = s.pattern ∧
    (s.applyUserDemand v).route = s.route ∧ (s.applyUserDemand v).lp = s.lp ∧ (s.applyUserDemand v).clk = s.clk ∧
    (s.applyUserDemand v).cs = s.cs ∧ (s.applyUserDemand v).candidates = s.candidates ∧
    (s.applyUserDemand v).ad = s.ad ∧ (s.applyUserDemand v).lg = s.lg ∧ (s.applyUserDemand v).vc = s.vc ∧
    (s.applyUserDemand v).gd = s.gd ∧ (s.applyUserDemand v).br = s.br ∧ (s.applyUserDemand v).sq = s.sq ∧
    (s.applyUserDemand v).rc = s.rc ∧ (s.applyUserDemand v).shadows = s.shadows ∧
    (s.applyUserDemand v).snapTravel = s.snapTravel ∧ (s.applyUserDemand v).snapCount = s.snapCount ∧
    (s.applyUserDemand v).pins = s.pins ∧ (s.applyUserDemand v).lines = s.lines ∧
    (s.applyUserDemand v).sampled = s.sampled ∧ (s.applyUserDemand v).inputs = s.inputs ∧
    (s.applyUserDemand v).freeCount = s.freeCount := by
  unfold State.applyUserDemand
  (repeat' split) <;> simp

@[simp] theorem cancelEach_frame (v : Word) (l : List RefGen) (s : State) :
    (l.foldl (fun s g => if bit v (refBit g) then s.cancelReference g else s) s).pending = s.pending ∧
    (l.foldl (fun s g => if bit v (refBit g) then s.cancelReference g else s) s).port = s.port ∧
    (l.foldl (fun s g => if bit v (refBit g) then s.cancelReference g else s) s).regs = s.regs ∧
    (l.foldl (fun s g => if bit v (refBit g) then s.cancelReference g else s) s).pattern = s.pattern ∧
    (l.foldl (fun s g => if bit v (refBit g) then s.cancelReference g else s) s).route = s.route ∧
    (l.foldl (fun s g => if bit v (refBit g) then s.cancelReference g else s) s).lp = s.lp ∧
    (l.foldl (fun s g => if bit v (refBit g) then s.cancelReference g else s) s).clk = s.clk ∧
    (l.foldl (fun s g => if bit v (refBit g) then s.cancelReference g else s) s).candidates = s.candidates ∧
    (l.foldl (fun s g => if bit v (refBit g) then s.cancelReference g else s) s).ad = s.ad ∧
    (l.foldl (fun s g => if bit v (refBit g) then s.cancelReference g else s) s).lg = s.lg ∧
    (l.foldl (fun s g => if bit v (refBit g) then s.cancelReference g else s) s).vc = s.vc ∧
    (l.foldl (fun s g => if bit v (refBit g) then s.cancelReference g else s) s).gd = s.gd ∧
    (l.foldl (fun s g => if bit v (refBit g) then s.cancelReference g else s) s).br = s.br ∧
    (l.foldl (fun s g => if bit v (refBit g) then s.cancelReference g else s) s).sq = s.sq ∧
    (l.foldl (fun s g => if bit v (refBit g) then s.cancelReference g else s) s).rc = s.rc ∧
    (l.foldl (fun s g => if bit v (refBit g) then s.cancelReference g else s) s).shadows = s.shadows ∧
    (l.foldl (fun s g => if bit v (refBit g) then s.cancelReference g else s) s).snapTravel = s.snapTravel ∧
    (l.foldl (fun s g => if bit v (refBit g) then s.cancelReference g else s) s).snapCount = s.snapCount ∧
    (l.foldl (fun s g => if bit v (refBit g) then s.cancelReference g else s) s).pins = s.pins ∧
    (l.foldl (fun s g => if bit v (refBit g) then s.cancelReference g else s) s).lines = s.lines ∧
    (l.foldl (fun s g => if bit v (refBit g) then s.cancelReference g else s) s).sampled = s.sampled ∧
    (l.foldl (fun s g => if bit v (refBit g) then s.cancelReference g else s) s).inputs = s.inputs ∧
    (l.foldl (fun s g => if bit v (refBit g) then s.cancelReference g else s) s).freeCount = s.freeCount := by
  induction l generalizing s with
  | nil => simp
  | cons x l ih =>
    simp only [List.foldl_cons]
    split <;> simp [ih]

@[simp] theorem State.applySlotCancel_frame (s : State) (v : Word) :
    (s.applySlotCancel v).pending = s.pending ∧ (s.applySlotCancel v).port = s.port ∧
    (s.applySlotCancel v).regs = s.regs ∧ (s.applySlotCancel v).pattern = s.pattern ∧
    (s.applySlotCancel v).route = s.route ∧ (s.applySlotCancel v).lp = s.lp ∧ (s.applySlotCancel v).clk = s.clk ∧
    (s.applySlotCancel v).candidates = s.candidates ∧ (s.applySlotCancel v).ad = s.ad ∧
    (s.applySlotCancel v).lg = s.lg ∧ (s.applySlotCancel v).vc = s.vc ∧ (s.applySlotCancel v).gd = s.gd ∧
    (s.applySlotCancel v).br = s.br ∧ (s.applySlotCancel v).sq = s.sq ∧ (s.applySlotCancel v).rc = s.rc ∧
    (s.applySlotCancel v).shadows = s.shadows ∧ (s.applySlotCancel v).snapTravel = s.snapTravel ∧
    (s.applySlotCancel v).snapCount = s.snapCount ∧ (s.applySlotCancel v).pins = s.pins ∧
    (s.applySlotCancel v).lines = s.lines ∧ (s.applySlotCancel v).sampled = s.sampled ∧
    (s.applySlotCancel v).inputs = s.inputs ∧ (s.applySlotCancel v).freeCount = s.freeCount := by
  unfold State.applySlotCancel
  simp

@[simp] theorem State.applySeqDemand_frame (s : State) (v : Word) :
    (s.applySeqDemand v).pending = s.pending ∧ (s.applySeqDemand v).port = s.port ∧
    (s.applySeqDemand v).regs = s.regs ∧ (s.applySeqDemand v).pattern = s.pattern ∧
    (s.applySeqDemand v).route = s.route ∧ (s.applySeqDemand v).lp = s.lp ∧ (s.applySeqDemand v).clk = s.clk ∧
    (s.applySeqDemand v).cs = s.cs ∧ (s.applySeqDemand v).candidates = s.candidates ∧
    (s.applySeqDemand v).ad = s.ad ∧ (s.applySeqDemand v).lg = s.lg ∧ (s.applySeqDemand v).vc = s.vc ∧
    (s.applySeqDemand v).gd = s.gd ∧ (s.applySeqDemand v).sl = s.sl ∧ (s.applySeqDemand v).br = s.br ∧
    (s.applySeqDemand v).rc = s.rc ∧ (s.applySeqDemand v).counters = s.counters ∧
    (s.applySeqDemand v).shadows = s.shadows ∧ (s.applySeqDemand v).snapTravel = s.snapTravel ∧
    (s.applySeqDemand v).snapCount = s.snapCount ∧ (s.applySeqDemand v).pins = s.pins ∧
    (s.applySeqDemand v).lines = s.lines ∧ (s.applySeqDemand v).sampled = s.sampled ∧
    (s.applySeqDemand v).inputs = s.inputs ∧ (s.applySeqDemand v).freeCount = s.freeCount := by
  refine ⟨rfl, rfl, rfl, rfl, rfl, rfl, rfl, rfl, rfl, rfl, rfl, rfl, rfl, rfl, rfl, rfl, rfl, rfl, rfl, rfl, rfl, rfl, rfl, rfl, rfl⟩

@[simp] theorem State.applyRestartDemand_frame (s : State) (v : Word) :
    (s.applyRestartDemand v).pending = s.pending ∧ (s.applyRestartDemand v).port = s.port ∧
    (s.applyRestartDemand v).regs = s.regs ∧ (s.applyRestartDemand v).pattern = s.pattern ∧
    (s.applyRestartDemand v).route = s.route ∧ (s.applyRestartDemand v).lp = s.lp ∧
    (s.applyRestartDemand v).clk = s.clk ∧ (s.applyRestartDemand v).cs = s.cs ∧
    (s.applyRestartDemand v).candidates = s.candidates ∧ (s.applyRestartDemand v).ad = s.ad ∧
    (s.applyRestartDemand v).lg = s.lg ∧ (s.applyRestartDemand v).vc = s.vc ∧ (s.applyRestartDemand v).gd = s.gd ∧
    (s.applyRestartDemand v).sl = s.sl ∧ (s.applyRestartDemand v).br = s.br ∧ (s.applyRestartDemand v).sq = s.sq ∧
    (s.applyRestartDemand v).counters = s.counters ∧ (s.applyRestartDemand v).shadows = s.shadows ∧
    (s.applyRestartDemand v).snapTravel = s.snapTravel ∧ (s.applyRestartDemand v).snapCount = s.snapCount ∧
    (s.applyRestartDemand v).pins = s.pins ∧ (s.applyRestartDemand v).lines = s.lines ∧
    (s.applyRestartDemand v).sampled = s.sampled ∧ (s.applyRestartDemand v).inputs = s.inputs ∧
    (s.applyRestartDemand v).freeCount = s.freeCount := by
  unfold State.applyRestartDemand
  dsimp only
  (repeat' split) <;> simp

@[simp] theorem State.clearEvents_frame (s : State) (v : Word) :
    (s.clearEvents v).pending = s.pending ∧ (s.clearEvents v).port = s.port ∧ (s.clearEvents v).regs = s.regs ∧
    (s.clearEvents v).pattern = s.pattern ∧ (s.clearEvents v).route = s.route ∧ (s.clearEvents v).lp = s.lp ∧
    (s.clearEvents v).clk = s.clk ∧ (s.clearEvents v).cs = s.cs ∧ (s.clearEvents v).candidates = s.candidates ∧
    (s.clearEvents v).ad = s.ad ∧ (s.clearEvents v).lg = s.lg ∧ (s.clearEvents v).vc = s.vc ∧
    (s.clearEvents v).gd = s.gd ∧ (s.clearEvents v).sl = s.sl ∧ (s.clearEvents v).br = s.br ∧
    (s.clearEvents v).sq = s.sq ∧ (s.clearEvents v).counters = s.counters ∧ (s.clearEvents v).shadows = s.shadows ∧
    (s.clearEvents v).snapTravel = s.snapTravel ∧ (s.clearEvents v).snapCount = s.snapCount ∧
    (s.clearEvents v).pins = s.pins ∧ (s.clearEvents v).lines = s.lines ∧ (s.clearEvents v).sampled = s.sampled ∧
    (s.clearEvents v).inputs = s.inputs ∧ (s.clearEvents v).freeCount = s.freeCount := by
  refine ⟨rfl, rfl, rfl, rfl, rfl, rfl, rfl, rfl, rfl, rfl, rfl, rfl, rfl, rfl, rfl, rfl, rfl, rfl, rfl, rfl, rfl, rfl, rfl, rfl, rfl⟩

@[simp] theorem State.storeWord_frame (s : State) (r : Reg) (v : Word) :
    (s.storeWord r v).pending = s.pending ∧ (s.storeWord r v).port = s.port ∧
    (s.storeWord r v).pattern = s.pattern ∧ (s.storeWord r v).route = s.route ∧ (s.storeWord r v).lp = s.lp ∧
    (s.storeWord r v).clk = s.clk ∧ (s.storeWord r v).cs = s.cs ∧ (s.storeWord r v).candidates = s.candidates ∧
    (s.storeWord r v).ad = s.ad ∧ (s.storeWord r v).lg = s.lg ∧ (s.storeWord r v).vc = s.vc ∧
    (s.storeWord r v).gd = s.gd ∧ (s.storeWord r v).sl = s.sl ∧ (s.storeWord r v).br = s.br ∧
    (s.storeWord r v).sq = s.sq ∧ (s.storeWord r v).rc = s.rc ∧ (s.storeWord r v).counters = s.counters ∧
    (s.storeWord r v).shadows = s.shadows ∧ (s.storeWord r v).snapTravel = s.snapTravel ∧
    (s.storeWord r v).snapCount = s.snapCount ∧ (s.storeWord r v).pins = s.pins ∧
    (s.storeWord r v).lines = s.lines ∧ (s.storeWord r v).sampled = s.sampled ∧
    (s.storeWord r v).inputs = s.inputs ∧ (s.storeWord r v).freeCount = s.freeCount := by
  unfold State.storeWord
  simp

@[simp] theorem State.storeAnchor_frame (s : State) (r : Reg) (v : Word) :
    (s.storeAnchor r v).pending = s.pending ∧ (s.storeAnchor r v).port = s.port ∧
    (s.storeAnchor r v).pattern = s.pattern ∧ (s.storeAnchor r v).route = s.route ∧ (s.storeAnchor r v).lp = s.lp ∧
    (s.storeAnchor r v).clk = s.clk ∧ (s.storeAnchor r v).cs = s.cs ∧
    (s.storeAnchor r v).candidates = s.candidates ∧ (s.storeAnchor r v).ad = s.ad ∧ (s.storeAnchor r v).lg = s.lg ∧
    (s.storeAnchor r v).vc = s.vc ∧ (s.storeAnchor r v).gd = s.gd ∧ (s.storeAnchor r v).br = s.br ∧
    (s.storeAnchor r v).sq = s.sq ∧ (s.storeAnchor r v).rc = s.rc ∧ (s.storeAnchor r v).counters = s.counters ∧
    (s.storeAnchor r v).shadows = s.shadows ∧ (s.storeAnchor r v).snapTravel = s.snapTravel ∧
    (s.storeAnchor r v).snapCount = s.snapCount ∧ (s.storeAnchor r v).pins = s.pins ∧
    (s.storeAnchor r v).lines = s.lines ∧ (s.storeAnchor r v).sampled = s.sampled ∧
    (s.storeAnchor r v).inputs = s.inputs ∧ (s.storeAnchor r v).freeCount = s.freeCount := by
  unfold State.storeAnchor
  simp

@[simp] theorem State.disarm_frame (s : State) :
    (s.disarm).pending = s.pending ∧ (s.disarm).port = s.port ∧ (s.disarm).regs = s.regs ∧
    (s.disarm).pattern = s.pattern ∧ (s.disarm).route = s.route ∧ (s.disarm).lp = s.lp ∧ (s.disarm).clk = s.clk ∧
    (s.disarm).cs = s.cs ∧ (s.disarm).candidates = s.candidates ∧ (s.disarm).ad = s.ad ∧ (s.disarm).lg = s.lg ∧
    (s.disarm).vc = s.vc ∧ (s.disarm).gd = s.gd ∧ (s.disarm).sl = s.sl ∧ (s.disarm).br = s.br ∧
    (s.disarm).sq = s.sq ∧ (s.disarm).counters = s.counters ∧ (s.disarm).shadows = s.shadows ∧
    (s.disarm).snapTravel = s.snapTravel ∧ (s.disarm).snapCount = s.snapCount ∧ (s.disarm).pins = s.pins ∧
    (s.disarm).lines = s.lines ∧ (s.disarm).sampled = s.sampled ∧ (s.disarm).inputs = s.inputs ∧
    (s.disarm).freeCount = s.freeCount := by
  refine ⟨rfl, rfl, rfl, rfl, rfl, rfl, rfl, rfl, rfl, rfl, rfl, rfl, rfl, rfl, rfl, rfl, rfl, rfl, rfl, rfl, rfl, rfl, rfl, rfl, rfl⟩

@[simp] theorem State.popLog_frame (s : State) (element : Bool) :
    (s.popLog element).pending = s.pending ∧ (s.popLog element).port = s.port ∧ (s.popLog element).regs = s.regs ∧
    (s.popLog element).pattern = s.pattern ∧ (s.popLog element).route = s.route ∧ (s.popLog element).lp = s.lp ∧
    (s.popLog element).clk = s.clk ∧ (s.popLog element).cs = s.cs ∧ (s.popLog element).candidates = s.candidates ∧
    (s.popLog element).ad = s.ad ∧ (s.popLog element).lg = s.lg ∧ (s.popLog element).vc = s.vc ∧
    (s.popLog element).sl = s.sl ∧ (s.popLog element).br = s.br ∧ (s.popLog element).sq = s.sq ∧
    (s.popLog element).counters = s.counters ∧ (s.popLog element).shadows = s.shadows ∧
    (s.popLog element).snapTravel = s.snapTravel ∧ (s.popLog element).snapCount = s.snapCount ∧
    (s.popLog element).pins = s.pins ∧ (s.popLog element).lines = s.lines ∧
    (s.popLog element).sampled = s.sampled ∧ (s.popLog element).inputs = s.inputs ∧
    (s.popLog element).freeCount = s.freeCount := by
  unfold State.popLog
  dsimp only
  (repeat' split) <;> simp

@[simp] theorem State.popRaw_frame (s : State) (element : Bool) :
    (s.popRaw element).pending = s.pending ∧ (s.popRaw element).port = s.port ∧ (s.popRaw element).regs = s.regs ∧
    (s.popRaw element).pattern = s.pattern ∧ (s.popRaw element).route = s.route ∧ (s.popRaw element).lp = s.lp ∧
    (s.popRaw element).clk = s.clk ∧ (s.popRaw element).cs = s.cs ∧ (s.popRaw element).candidates = s.candidates ∧
    (s.popRaw element).ad = s.ad ∧ (s.popRaw element).lg = s.lg ∧ (s.popRaw element).gd = s.gd ∧
    (s.popRaw element).sl = s.sl ∧ (s.popRaw element).br = s.br ∧ (s.popRaw element).sq = s.sq ∧
    (s.popRaw element).rc = s.rc ∧ (s.popRaw element).shadows = s.shadows ∧
    (s.popRaw element).snapTravel = s.snapTravel ∧ (s.popRaw element).snapCount = s.snapCount ∧
    (s.popRaw element).pins = s.pins ∧ (s.popRaw element).lines = s.lines ∧
    (s.popRaw element).sampled = s.sampled ∧ (s.popRaw element).inputs = s.inputs ∧
    (s.popRaw element).freeCount = s.freeCount := by
  unfold State.popRaw
  dsimp only
  (repeat' split) <;> simp

@[simp] theorem State.readPort_frame (s : State) (r : Reg) (w : WordStart) :
    (s.readPort r w).pending = s.pending ∧ (s.readPort r w).port = s.port ∧ (s.readPort r w).pattern = s.pattern ∧
    (s.readPort r w).route = s.route ∧ (s.readPort r w).lp = s.lp ∧ (s.readPort r w).clk = s.clk ∧
    (s.readPort r w).cs = s.cs ∧ (s.readPort r w).candidates = s.candidates ∧ (s.readPort r w).ad = s.ad ∧
    (s.readPort r w).lg = s.lg ∧ (s.readPort r w).sl = s.sl ∧ (s.readPort r w).br = s.br ∧
    (s.readPort r w).sq = s.sq ∧ (s.readPort r w).shadows = s.shadows ∧
    (s.readPort r w).snapTravel = s.snapTravel ∧ (s.readPort r w).snapCount = s.snapCount ∧
    (s.readPort r w).pins = s.pins ∧ (s.readPort r w).lines = s.lines ∧ (s.readPort r w).sampled = s.sampled ∧
    (s.readPort r w).inputs = s.inputs ∧ (s.readPort r w).freeCount = s.freeCount := by
  unfold State.readPort
  (repeat' split) <;> simp

@[simp] theorem State.completeRead_frame (s : State) (a : Addr) (w : WordStart) :
    (s.completeRead a w).pending = s.pending ∧ (s.completeRead a w).pattern = s.pattern ∧
    (s.completeRead a w).route = s.route ∧ (s.completeRead a w).lp = s.lp ∧ (s.completeRead a w).clk = s.clk ∧
    (s.completeRead a w).cs = s.cs ∧ (s.completeRead a w).candidates = s.candidates ∧
    (s.completeRead a w).ad = s.ad ∧ (s.completeRead a w).lg = s.lg ∧ (s.completeRead a w).sl = s.sl ∧
    (s.completeRead a w).br = s.br ∧ (s.completeRead a w).sq = s.sq ∧ (s.completeRead a w).shadows = s.shadows ∧
    (s.completeRead a w).snapTravel = s.snapTravel ∧ (s.completeRead a w).snapCount = s.snapCount ∧
    (s.completeRead a w).pins = s.pins ∧ (s.completeRead a w).lines = s.lines ∧
    (s.completeRead a w).sampled = s.sampled ∧ (s.completeRead a w).inputs = s.inputs ∧
    (s.completeRead a w).freeCount = s.freeCount := by
  unfold State.completeRead
  dsimp only
  (repeat' split) <;> simp

@[simp] theorem State.advanceTxn_frame (s : State) :
    (s.advanceTxn).pending = s.pending ∧ (s.advanceTxn).regs = s.regs ∧ (s.advanceTxn).pattern = s.pattern ∧
    (s.advanceTxn).route = s.route ∧ (s.advanceTxn).lp = s.lp ∧ (s.advanceTxn).clk = s.clk ∧
    (s.advanceTxn).cs = s.cs ∧ (s.advanceTxn).candidates = s.candidates ∧ (s.advanceTxn).ad = s.ad ∧
    (s.advanceTxn).lg = s.lg ∧ (s.advanceTxn).vc = s.vc ∧ (s.advanceTxn).gd = s.gd ∧ (s.advanceTxn).sl = s.sl ∧
    (s.advanceTxn).br = s.br ∧ (s.advanceTxn).sq = s.sq ∧ (s.advanceTxn).rc = s.rc ∧
    (s.advanceTxn).counters = s.counters ∧ (s.advanceTxn).shadows = s.shadows ∧
    (s.advanceTxn).snapTravel = s.snapTravel ∧ (s.advanceTxn).snapCount = s.snapCount ∧
    (s.advanceTxn).pins = s.pins ∧ (s.advanceTxn).lines = s.lines ∧ (s.advanceTxn).sampled = s.sampled ∧
    (s.advanceTxn).inputs = s.inputs ∧ (s.advanceTxn).freeCount = s.freeCount := by
  unfold State.advanceTxn
  dsimp only
  (repeat' split) <;> simp

@[simp] theorem State.joinTxn_frame (s : State) (read : Bool) (a : Addr) :
    (s.joinTxn read a).pending = s.pending ∧ (s.joinTxn read a).regs = s.regs ∧
    (s.joinTxn read a).pattern = s.pattern ∧ (s.joinTxn read a).route = s.route ∧ (s.joinTxn read a).lp = s.lp ∧
    (s.joinTxn read a).clk = s.clk ∧ (s.joinTxn read a).cs = s.cs ∧ (s.joinTxn read a).candidates = s.candidates ∧
    (s.joinTxn read a).ad = s.ad ∧ (s.joinTxn read a).lg = s.lg ∧ (s.joinTxn read a).vc = s.vc ∧
    (s.joinTxn read a).gd = s.gd ∧ (s.joinTxn read a).sl = s.sl ∧ (s.joinTxn read a).br = s.br ∧
    (s.joinTxn read a).sq = s.sq ∧ (s.joinTxn read a).rc = s.rc ∧ (s.joinTxn read a).counters = s.counters ∧
    (s.joinTxn read a).shadows = s.shadows ∧ (s.joinTxn read a).snapTravel = s.snapTravel ∧
    (s.joinTxn read a).snapCount = s.snapCount ∧ (s.joinTxn read a).pins = s.pins ∧
    (s.joinTxn read a).lines = s.lines ∧ (s.joinTxn read a).sampled = s.sampled ∧
    (s.joinTxn read a).inputs = s.inputs ∧ (s.joinTxn read a).freeCount = s.freeCount := by
  refine ⟨rfl, rfl, rfl, rfl, rfl, rfl, rfl, rfl, rfl, rfl, rfl, rfl, rfl, rfl, rfl, rfl, rfl, rfl, rfl, rfl, rfl, rfl, rfl, rfl, rfl⟩

@[simp] theorem State.header_frame (s : State) (byte0 byte1 byte2 : Byte) :
    (s.header byte0 byte1 byte2).pending = s.pending ∧ (s.header byte0 byte1 byte2).regs = s.regs ∧
    (s.header byte0 byte1 byte2).pattern = s.pattern ∧ (s.header byte0 byte1 byte2).route = s.route ∧
    (s.header byte0 byte1 byte2).lp = s.lp ∧ (s.header byte0 byte1 byte2).clk = s.clk ∧
    (s.header byte0 byte1 byte2).cs = s.cs ∧ (s.header byte0 byte1 byte2).candidates = s.candidates ∧
    (s.header byte0 byte1 byte2).ad = s.ad ∧ (s.header byte0 byte1 byte2).lg = s.lg ∧
    (s.header byte0 byte1 byte2).vc = s.vc ∧ (s.header byte0 byte1 byte2).gd = s.gd ∧
    (s.header byte0 byte1 byte2).sl = s.sl ∧ (s.header byte0 byte1 byte2).br = s.br ∧
    (s.header byte0 byte1 byte2).sq = s.sq ∧ (s.header byte0 byte1 byte2).rc = s.rc ∧
    (s.header byte0 byte1 byte2).counters = s.counters ∧ (s.header byte0 byte1 byte2).shadows = s.shadows ∧
    (s.header byte0 byte1 byte2).snapTravel = s.snapTravel ∧ (s.header byte0 byte1 byte2).snapCount = s.snapCount ∧
    (s.header byte0 byte1 byte2).pins = s.pins ∧ (s.header byte0 byte1 byte2).lines = s.lines ∧
    (s.header byte0 byte1 byte2).sampled = s.sampled ∧ (s.header byte0 byte1 byte2).inputs = s.inputs ∧
    (s.header byte0 byte1 byte2).freeCount = s.freeCount := by
  unfold State.header
  dsimp only
  simp

@[simp] theorem State.endTurnaround_frame (s : State) :
    (s.endTurnaround).pending = s.pending ∧ (s.endTurnaround).regs = s.regs ∧
    (s.endTurnaround).pattern = s.pattern ∧ (s.endTurnaround).route = s.route ∧ (s.endTurnaround).lp = s.lp ∧
    (s.endTurnaround).clk = s.clk ∧ (s.endTurnaround).cs = s.cs ∧ (s.endTurnaround).candidates = s.candidates ∧
    (s.endTurnaround).ad = s.ad ∧ (s.endTurnaround).lg = s.lg ∧ (s.endTurnaround).vc = s.vc ∧
    (s.endTurnaround).gd = s.gd ∧ (s.endTurnaround).sl = s.sl ∧ (s.endTurnaround).br = s.br ∧
    (s.endTurnaround).sq = s.sq ∧ (s.endTurnaround).rc = s.rc ∧ (s.endTurnaround).counters = s.counters ∧
    (s.endTurnaround).shadows = s.shadows ∧ (s.endTurnaround).snapTravel = s.snapTravel ∧
    (s.endTurnaround).snapCount = s.snapCount ∧ (s.endTurnaround).pins = s.pins ∧
    (s.endTurnaround).lines = s.lines ∧ (s.endTurnaround).sampled = s.sampled ∧
    (s.endTurnaround).inputs = s.inputs ∧ (s.endTurnaround).freeCount = s.freeCount := by
  unfold State.endTurnaround
  dsimp only
  (repeat' split) <;> simp

@[simp] theorem State.endTransactionHost_frame (s : State) :
    (s.endTransactionHost).pending = s.pending ∧ (s.endTransactionHost).regs = s.regs ∧
    (s.endTransactionHost).pattern = s.pattern ∧ (s.endTransactionHost).route = s.route ∧
    (s.endTransactionHost).lp = s.lp ∧ (s.endTransactionHost).clk = s.clk ∧ (s.endTransactionHost).cs = s.cs ∧
    (s.endTransactionHost).candidates = s.candidates ∧ (s.endTransactionHost).ad = s.ad ∧
    (s.endTransactionHost).lg = s.lg ∧ (s.endTransactionHost).vc = s.vc ∧ (s.endTransactionHost).gd = s.gd ∧
    (s.endTransactionHost).sl = s.sl ∧ (s.endTransactionHost).br = s.br ∧ (s.endTransactionHost).sq = s.sq ∧
    (s.endTransactionHost).rc = s.rc ∧ (s.endTransactionHost).counters = s.counters ∧
    (s.endTransactionHost).shadows = s.shadows ∧ (s.endTransactionHost).snapTravel = s.snapTravel ∧
    (s.endTransactionHost).snapCount = s.snapCount ∧ (s.endTransactionHost).pins = s.pins ∧
    (s.endTransactionHost).lines = s.lines ∧ (s.endTransactionHost).sampled = s.sampled ∧
    (s.endTransactionHost).inputs = s.inputs ∧ (s.endTransactionHost).freeCount = s.freeCount := by
  refine ⟨rfl, rfl, rfl, rfl, rfl, rfl, rfl, rfl, rfl, rfl, rfl, rfl, rfl, rfl, rfl, rfl, rfl, rfl, rfl, rfl, rfl, rfl, rfl, rfl, rfl⟩

@[simp] theorem State.beginHeader_frame (s : State) :
    (s.beginHeader).pending = s.pending ∧ (s.beginHeader).regs = s.regs ∧ (s.beginHeader).pattern = s.pattern ∧
    (s.beginHeader).route = s.route ∧ (s.beginHeader).lp = s.lp ∧ (s.beginHeader).clk = s.clk ∧
    (s.beginHeader).cs = s.cs ∧ (s.beginHeader).candidates = s.candidates ∧ (s.beginHeader).ad = s.ad ∧
    (s.beginHeader).lg = s.lg ∧ (s.beginHeader).vc = s.vc ∧ (s.beginHeader).gd = s.gd ∧ (s.beginHeader).sl = s.sl ∧
    (s.beginHeader).br = s.br ∧ (s.beginHeader).sq = s.sq ∧ (s.beginHeader).rc = s.rc ∧
    (s.beginHeader).counters = s.counters ∧ (s.beginHeader).shadows = s.shadows ∧
    (s.beginHeader).snapTravel = s.snapTravel ∧ (s.beginHeader).snapCount = s.snapCount ∧
    (s.beginHeader).pins = s.pins ∧ (s.beginHeader).lines = s.lines ∧ (s.beginHeader).sampled = s.sampled ∧
    (s.beginHeader).inputs = s.inputs ∧ (s.beginHeader).freeCount = s.freeCount := by
  refine ⟨rfl, rfl, rfl, rfl, rfl, rfl, rfl, rfl, rfl, rfl, rfl, rfl, rfl, rfl, rfl, rfl, rfl, rfl, rfl, rfl, rfl, rfl, rfl, rfl, rfl⟩

@[simp] theorem State.followSelect_frame (s : State) (before : Bool) :
    (s.followSelect before).pending = s.pending ∧ (s.followSelect before).regs = s.regs ∧
    (s.followSelect before).pattern = s.pattern ∧ (s.followSelect before).route = s.route ∧
    (s.followSelect before).lp = s.lp ∧ (s.followSelect before).clk = s.clk ∧ (s.followSelect before).cs = s.cs ∧
    (s.followSelect before).candidates = s.candidates ∧ (s.followSelect before).ad = s.ad ∧
    (s.followSelect before).lg = s.lg ∧ (s.followSelect before).vc = s.vc ∧ (s.followSelect before).gd = s.gd ∧
    (s.followSelect before).sl = s.sl ∧ (s.followSelect before).br = s.br ∧ (s.followSelect before).sq = s.sq ∧
    (s.followSelect before).rc = s.rc ∧ (s.followSelect before).counters = s.counters ∧
    (s.followSelect before).shadows = s.shadows ∧ (s.followSelect before).snapTravel = s.snapTravel ∧
    (s.followSelect before).snapCount = s.snapCount ∧ (s.followSelect before).pins = s.pins ∧
    (s.followSelect before).lines = s.lines ∧ (s.followSelect before).sampled = s.sampled ∧
    (s.followSelect before).inputs = s.inputs ∧ (s.followSelect before).freeCount = s.freeCount := by
  unfold State.followSelect
  (repeat' split) <;> simp

@[simp] theorem State.hostRead_frame (s : State) (a : Addr) :
    (s.hostRead a).pending = s.pending ∧ (s.hostRead a).pattern = s.pattern ∧ (s.hostRead a).route = s.route ∧
    (s.hostRead a).lp = s.lp ∧ (s.hostRead a).clk = s.clk ∧ (s.hostRead a).cs = s.cs ∧
    (s.hostRead a).candidates = s.candidates ∧ (s.hostRead a).ad = s.ad ∧ (s.hostRead a).lg = s.lg ∧
    (s.hostRead a).br = s.br ∧ (s.hostRead a).sq = s.sq ∧ (s.hostRead a).shadows = s.shadows ∧
    (s.hostRead a).snapTravel = s.snapTravel ∧ (s.hostRead a).snapCount = s.snapCount ∧
    (s.hostRead a).pins = s.pins ∧ (s.hostRead a).lines = s.lines ∧ (s.hostRead a).sampled = s.sampled ∧
    (s.hostRead a).inputs = s.inputs ∧ (s.hostRead a).freeCount = s.freeCount := by
  unfold State.hostRead
  dsimp only
  (repeat' split) <;> simp

@[simp] theorem State.endReadiness_frame (s : State) :
    (s.endReadiness).pending = s.pending ∧ (s.endReadiness).regs = s.regs ∧ (s.endReadiness).pattern = s.pattern ∧
    (s.endReadiness).route = s.route ∧ (s.endReadiness).lp = s.lp ∧ (s.endReadiness).clk = s.clk ∧
    (s.endReadiness).cs = s.cs ∧ (s.endReadiness).candidates = s.candidates ∧ (s.endReadiness).ad = s.ad ∧
    (s.endReadiness).lg = s.lg ∧ (s.endReadiness).vc = s.vc ∧ (s.endReadiness).gd = s.gd ∧
    (s.endReadiness).sl = s.sl ∧ (s.endReadiness).br = s.br ∧ (s.endReadiness).sq = s.sq ∧
    (s.endReadiness).rc = s.rc ∧ (s.endReadiness).counters = s.counters ∧ (s.endReadiness).shadows = s.shadows ∧
    (s.endReadiness).snapTravel = s.snapTravel ∧ (s.endReadiness).snapCount = s.snapCount ∧
    (s.endReadiness).pins = s.pins ∧ (s.endReadiness).lines = s.lines ∧ (s.endReadiness).sampled = s.sampled ∧
    (s.endReadiness).inputs = s.inputs ∧ (s.endReadiness).freeCount = s.freeCount := by
  refine ⟨rfl, rfl, rfl, rfl, rfl, rfl, rfl, rfl, rfl, rfl, rfl, rfl, rfl, rfl, rfl, rfl, rfl, rfl, rfl, rfl, rfl, rfl, rfl, rfl, rfl⟩

@[simp] theorem State.expireStall_frame (s : State) :
    (s.expireStall).pending = s.pending ∧ (s.expireStall).port = s.port ∧ (s.expireStall).regs = s.regs ∧
    (s.expireStall).pattern = s.pattern ∧ (s.expireStall).route = s.route ∧ (s.expireStall).clk = s.clk ∧
    (s.expireStall).cs = s.cs ∧ (s.expireStall).candidates = s.candidates ∧ (s.expireStall).ad = s.ad ∧
    (s.expireStall).lg = s.lg ∧ (s.expireStall).vc = s.vc ∧ (s.expireStall).gd = s.gd ∧ (s.expireStall).sq = s.sq ∧
    (s.expireStall).shadows = s.shadows ∧ (s.expireStall).snapTravel = s.snapTravel ∧
    (s.expireStall).snapCount = s.snapCount ∧ (s.expireStall).pins = s.pins ∧ (s.expireStall).lines = s.lines ∧
    (s.expireStall).sampled = s.sampled ∧ (s.expireStall).inputs = s.inputs ∧
    (s.expireStall).freeCount = s.freeCount := by
  unfold State.expireStall
  dsimp only
  simp

@[simp] theorem State.expireSilence_frame (s : State) :
    (s.expireSilence).pending = s.pending ∧ (s.expireSilence).port = s.port ∧ (s.expireSilence).regs = s.regs ∧
    (s.expireSilence).pattern = s.pattern ∧ (s.expireSilence).route = s.route ∧ (s.expireSilence).lp = s.lp ∧
    (s.expireSilence).clk = s.clk ∧ (s.expireSilence).cs = s.cs ∧ (s.expireSilence).candidates = s.candidates ∧
    (s.expireSilence).ad = s.ad ∧ (s.expireSilence).lg = s.lg ∧ (s.expireSilence).gd = s.gd ∧
    (s.expireSilence).sq = s.sq ∧ (s.expireSilence).shadows = s.shadows ∧
    (s.expireSilence).snapTravel = s.snapTravel ∧ (s.expireSilence).snapCount = s.snapCount ∧
    (s.expireSilence).pins = s.pins ∧ (s.expireSilence).lines = s.lines ∧ (s.expireSilence).sampled = s.sampled ∧
    (s.expireSilence).inputs = s.inputs ∧ (s.expireSilence).freeCount = s.freeCount := by
  unfold State.expireSilence
  dsimp only
  simp

end Sys2Proof.Machine
end

