-- ==== Sys2Proof/Laws/Tables.lean ====
section
/-! SUPPORT. Reads after writes of the addressed memories, and that every write keeps their canonical form. -/

namespace Sys2Proof.Machine

/-- A word read just after it was written. -/
theorem readTable_writeTable_self (d : Nat → Word) (t : Table) (a : Nat) (v : Word) (lo : Option Nat)
    (h : tableWfFrom d lo t = true) : readTable (d a) (writeTable (d a) t a v) a = v := by
  induction t generalizing lo with
  | nil => simp only [writeTable]; split <;> simp_all [readTable]
  | cons e t ih =>
    obtain ⟨k, w⟩ := e
    simp only [tableWfFrom, Bool.and_eq_true] at h
    have gap : ∀ (t : Table) (lo : Nat), tableWfFrom d (some lo) t = true → a ≤ lo → readTable (d a) t a = d a := by
      intro t
      induction t with
      | nil => intros; rfl
      | cons f t ih =>
        intro lo h hl
        obtain ⟨j, x⟩ := f
        simp only [tableWfFrom, Bool.and_eq_true, decide_eq_true_eq] at h
        have : ¬ j = a := by omega
        simp only [readTable, this, if_false]
        exact ih j h.2 (by omega)
    simp only [writeTable]
    split
    · rename_i hlt
      split
      · subst_vars
        have : ¬ k = a := by omega
        simp only [readTable, this, if_false]
        exact gap t k h.2 (by omega)
      · simp [readTable]
    · split
      · split
        · subst_vars
          exact gap t _ h.2 (by omega)
        · simp_all [readTable]
      · have : ¬ k = a := fun hh => by simp_all
        simp only [readTable, this, if_false]
        exact ih _ h.2

/-- A word read after another was written. -/
theorem readTable_writeTable_other (d : Word) (d' : Word) (t : Table) (a b : Nat) (v : Word) (h : b ≠ a) :
    readTable d (writeTable d' t a v) b = readTable d t b := by
  induction t with
  | nil =>
    have : ¬ a = b := fun hh => h hh.symm
    simp only [writeTable]; split <;> simp [readTable, this]
  | cons e t ih =>
    obtain ⟨k, w⟩ := e
    have hab : ¬ a = b := fun hh => h hh.symm
    simp only [writeTable]
    split
    · split <;> simp [readTable, hab]
    · split
      · subst_vars
        split <;> simp [readTable, hab]
      · simp [readTable, ih]

/-- A write keeps the canonical form above any bound below its address. -/
theorem tableWfFrom_writeTable (d : Nat → Word) (t : Table) (a : Nat) (v : Word) (lo : Option Nat)
    (h : tableWfFrom d lo t = true) (hlo : ∀ l, lo = some l → l < a) :
    tableWfFrom d lo (writeTable (d a) t a v) = true := by
  induction t generalizing lo with
  | nil =>
    simp only [writeTable]
    split
    · rfl
    · cases lo <;> simp_all [tableWfFrom]
  | cons e t ih =>
    obtain ⟨k, w⟩ := e
    simp only [tableWfFrom, Bool.and_eq_true, decide_eq_true_eq] at h
    simp only [writeTable]
    split
    · split
      · simp_all [tableWfFrom]
      · cases lo <;> simp_all [tableWfFrom]
    · split
      · split
        · subst_vars
          cases t with
          | nil => rfl
          | cons f t =>
            obtain ⟨j, x⟩ := f
            simp only [tableWfFrom, Bool.and_eq_true, decide_eq_true_eq] at h ⊢
            refine ⟨⟨?_, h.2.1.2⟩, h.2.2⟩
            cases lo with
            | none => rfl
            | some l =>
              have := hlo l rfl
              simp only [decide_eq_true_eq]
              omega
        · subst_vars
          cases lo <;> simp_all [tableWfFrom]
      · simp only [tableWfFrom, Bool.and_eq_true, decide_eq_true_eq]
        refine ⟨h.1, ih (some k) h.2 ?_⟩
        intro l hl
        cases hl
        omega

/-- A write keeps the canonical form. -/
theorem tableWf_writeTable (d : Nat → Word) (t : Table) (a : Nat) (v : Word) (h : tableWf d t = true) :
    tableWf d (writeTable (d a) t a v) = true :=
  tableWfFrom_writeTable d t a v none h (by simp)

/-- The canonical form above a bound is kept by lowering the bound. -/
theorem tableWfFrom_lower (d : Nat → Word) (t : Table) (l m : Nat) (h : tableWfFrom d (some m) t = true) (hlm : l ≤ m) :
    tableWfFrom d (some l) t = true := by
  cases t with
  | nil => rfl
  | cons e t =>
    obtain ⟨k, w⟩ := e
    simp only [tableWfFrom, Bool.and_eq_true, decide_eq_true_eq] at h ⊢
    exact ⟨⟨by omega, h.1.2⟩, h.2⟩

/-- Dropping entries keeps the canonical form. -/
theorem tableWf_filter (d : Nat → Word) (p : Nat × Word → Bool) (t : Table) (lo : Option Nat)
    (h : tableWfFrom d lo t = true) : tableWfFrom d lo (t.filter p) = true := by
  induction t generalizing lo with
  | nil => simpa using h
  | cons e t ih =>
    obtain ⟨k, w⟩ := e
    simp only [tableWfFrom, Bool.and_eq_true, decide_eq_true_eq] at h
    rw [List.filter_cons]
    split
    · simp only [tableWfFrom, Bool.and_eq_true, decide_eq_true_eq]
      exact ⟨h.1, ih _ h.2⟩
    · cases lo with
      | none =>
        have := ih (some k) h.2
        cases ht : t.filter p with
        | nil => rfl
        | cons f u =>
          obtain ⟨j, x⟩ := f
          rw [ht] at this
          simp only [tableWfFrom, Bool.and_eq_true, decide_eq_true_eq] at this ⊢
          exact ⟨⟨trivial, this.1.2⟩, this.2⟩
      | some l =>
        have hl : l < k := by simpa using h.1.1
        exact tableWfFrom_lower d _ l k (ih (some k) h.2) (by omega)

/-- Reading past entries that were dropped by address. -/
theorem readTable_filter (d : Word) (p : Nat → Bool) (t : Table) (a : Nat) :
    readTable d (t.filter fun e => p e.1) a = if p a then readTable d t a else d := by
  induction t with
  | nil => simp [readTable]
  | cons e t ih =>
    obtain ⟨k, w⟩ := e
    rw [List.filter_cons]
    by_cases hk : k = a
    · subst hk
      cases hp : p k <;> simp_all [readTable]
    · cases hp : p k <;> simp_all [readTable]

/-! ### Registers and counters -/

/-- Every register has an address of its own. -/
theorem regReset_addr (r : Reg) : regReset r.info.addr = r.info.reset := by cases r <;> decide +kernel

/-- Every register is found at its address. -/
theorem regAt_address (r : Reg) : regAt r.address = some r := by cases r <;> decide +kernel

/-- Two registers at one address are one. -/
theorem info_addr_inj (r q : Reg) (h : r.info.addr = q.info.addr) : r = q := by
  have hr := regAt_address r
  have hq := regAt_address q
  simp only [Reg.address, h] at hr
  simp only [Reg.address] at hq
  rw [hr] at hq
  simpa using hq

/-- A register read just after it was written. -/
theorem State.reg_setReg_self (s : State) (r : Reg) (v : Word) (h : tableWf regReset s.regs = true) :
    (s.setReg r v).reg r = v := by
  simp only [State.reg, State.setReg, ← regReset_addr r]
  exact readTable_writeTable_self regReset s.regs _ v none h

/-- A register read after another was written. -/
theorem State.reg_setReg_other (s : State) (r q : Reg) (v : Word) (h : q ≠ r) : (s.setReg r v).reg q = s.reg q :=
  readTable_writeTable_other _ _ _ _ _ _ fun he => h (info_addr_inj q r he)

/-- A counter read just after it moved on. -/
theorem State.counter_bumpBy_self (s : State) (c k : Ctr) (n : Nat) (h : tableWf zeroDefault s.counters = true)
    (hk : k.offset = c.offset) : (s.bumpBy c n).counter k = s.counter k + BitVec.ofNat 32 n := by
  simp only [State.counter, State.bumpBy, hk]
  exact readTable_writeTable_self zeroDefault s.counters _ _ none h

/-- A counter read after another moved on. -/
theorem State.counter_bumpBy_other (s : State) (c k : Ctr) (n : Nat) (hk : k.offset ≠ c.offset) :
    (s.bumpBy c n).counter k = s.counter k :=
  readTable_writeTable_other _ _ _ _ _ _ hk

/-- Moving a counter on keeps the canonical form. -/
theorem State.bumpBy_counters_wf (s : State) (c : Ctr) (n : Nat) (h : tableWf zeroDefault s.counters = true) :
    tableWf zeroDefault (s.bumpBy c n).counters = true :=
  tableWf_writeTable zeroDefault s.counters _ _ h

/-- Writing a register keeps the canonical form. -/
theorem State.setReg_regs_wf (s : State) (r : Reg) (v : Word) (h : tableWf regReset s.regs = true) :
    tableWf regReset (s.setReg r v).regs = true := by
  simp only [State.setReg, ← regReset_addr r]
  exact tableWf_writeTable regReset s.regs _ _ h

/-- The memories are canonical after reset. -/
theorem reset_tablesCanonical : State.reset.tablesCanonical = true := by decide +kernel

end Sys2Proof.Machine
end

