-- ==== Sys2Proof/Laws/HostWrite.lean ====
section
/-! SUPPORT. A completed write word, said once: the state its register's effect starts from, the effect, and what the
word does to the open transaction. -/

namespace Sys2Proof.Machine

/-- The state a write word at an address takes effect on: another transaction is given up, the soft reset disarmed. -/
def State.wordBegun (s : State) (a : Addr) : State :=
  { s with
    port := { s.port with heading := false, txn := if s.continues false a then s.port.txn else none }
    rc := { s.rc with resetArmed := false }
    sl := { s.sl with place := .late } }

/-- The state a write word takes effect on, as `hostWrite` forms it. -/
theorem State.wordBegun_eq (s : State) (a : Addr) :
    ((s.arrive .late).joinTxn false a).disarm = s.wordBegun a := rfl

/-- A transaction that a write word continues is a write of at least one more word. -/
theorem State.continues_write {s : State} {a : Addr} (h : s.continues false a = true) :
    ∃ t, s.port.txn = some t ∧ t.read = false ∧ 0 < t.left ∧ t.addr = a := by
  unfold State.continues at h
  cases ht : s.port.txn with
  | none => simp [ht] at h
  | some t => simp_all

/-- The end of a write word whose effect left the transaction as it found it. -/
theorem State.advanceTxn_write (s x : State) (a : Addr) (h : x.port.txn = (s.wordBegun a).port.txn) :
    x.advanceTxn = { x with port := { x.port with txn := (s.wordDone a).port.txn } } := by
  unfold State.advanceTxn
  by_cases hc : s.continues false a = true
  · obtain ⟨t, ht, hr, -, -⟩ := State.continues_write hc
    have hx : x.port.txn = some t := by simp [h, State.wordBegun, hc, ht]
    simp [hx, State.wordDone, hc, ht, Transaction.afterWrite, hr]
  · have hx : x.port.txn = none := by simp [h, State.wordBegun, hc]
    simp [hx, State.wordDone, hc]
    rw [← hx]

/-- The end of a write word whose effect gave the transaction up. -/
theorem State.advanceTxn_none (x : State) (h : x.port.txn = none) : x.advanceTxn = x := by
  unfold State.advanceTxn
  simp [h]

/-- A port that listens is not deaf (R1, R7). -/
theorem State.listens_not_deaf {s : State} (h : s.listens) : s.port.deaf = false := by
  obtain ⟨-, hi, ht⟩ := h
  unfold Port.deaf
  cases hx : s.port.txn with
  | none => simp [hi]
  | some t =>
    have := ht t (by simp [hx])
    simp [hi]
    omega

/-- A deaf port takes no word (R1, R7). -/
theorem State.hostWrite_deaf {s : State} (a : Addr) (v : Word) (h : s.port.deaf = true) : s.hostWrite a v = s := by
  simp [State.hostWrite, h]

/-- A write word continues the open transaction at its own address, unless it fires the soft reset (log 37). -/
theorem State.burstAddr_eq (s : State) (a : Addr) (v : Word)
    (h : a ≠ Reg.rcAction.address ∨ bit v 4 = false ∨ s.port.ready = false ∨ s.rc.resetArmed = false) :
    s.burstAddr a v = a := by
  unfold State.burstAddr
  split
  · simp_all
  · rfl

/-- A write word to a port that listens. -/
theorem State.hostWrite_ready (s : State) (a : Addr) (v : Word) (h : s.listens) :
    s.hostWrite a v = (((s.arrive .late).joinTxn false (s.burstAddr a v)).writeWord a v).advanceTxn := by
  have hd := State.listens_not_deaf h
  have hr : ((s.arrive .late).joinTxn false (s.burstAddr a v)).port.ready = true := h.1
  simp [State.hostWrite, hd, hr]

/-- A write word to a register that has no table and is not read only, permitted by its class. -/
theorem State.hostWrite_applied (s : State) (r : Reg) (v : Word) (h : s.listens) (ht : tableOf r = none)
    (hr : readOnly r.address = false) (hf : s.fieldFault r v = none) :
    s.hostWrite r.address v =
      ((s.wordBegun (s.burstAddr r.address v)).applyWord r v s.rc.resetArmed).advanceTxn := by
  rw [State.hostWrite_ready s _ _ h]
  unfold State.writeWord
  have ha : ((s.arrive .late).joinTxn false (s.burstAddr r.address v)).rc.resetArmed = s.rc.resetArmed := rfl
  have hg : (s.wordBegun (s.burstAddr r.address v)).fieldFault r v = none := by rw [← hf]; rfl
  simp only [ha, State.wordBegun_eq, regAt_address, State.writeRegister, ht, hr, hg, Bool.false_eq_true, if_false]

/-- The word permitted and its effect keeping the transaction: the whole of it. -/
theorem State.hostWrite_eq (s : State) (r : Reg) (v : Word) (h : s.listens) (ht : tableOf r = none)
    (hr : readOnly r.address = false) (hf : s.fieldFault r v = none)
    (hb : s.burstAddr r.address v = r.address)
    (hx : ((s.wordBegun r.address).applyWord r v s.rc.resetArmed).port.txn = (s.wordBegun r.address).port.txn) :
    s.hostWrite r.address v =
      { (s.wordBegun r.address).applyWord r v s.rc.resetArmed with
        port := { ((s.wordBegun r.address).applyWord r v s.rc.resetArmed).port with
          txn := (s.wordDone r.address).port.txn } } := by
  rw [State.hostWrite_applied s r v h ht hr hf, hb, State.advanceTxn_write s _ _ hx]

/-- A register with no Install and no Setup field takes every word. -/
theorem State.fieldFault_free (s : State) (r : Reg) (v : Word) (hi : r.info.install = 0#32)
    (hs : r.info.setup = 0#32) : s.fieldFault r v = none := by
  simp [State.fieldFault, hi, hs]

/-- A word that changes no forbidden field is taken. -/
theorem State.fieldFault_permits (s : State) (r : Reg) (v : Word) (h : s.permits r v) : s.fieldFault r v = none := by
  obtain ⟨h1, h2⟩ := h
  unfold State.fieldFault
  dsimp only
  split
  · rename_i hh
    exact absurd (h1 hh.1) hh.2
  · split
    · rename_i hh
      exact absurd (h2 hh.1) hh.2
    · rfl

/-- A refused write word. -/
theorem State.hostWrite_refused (s : State) (r : Reg) (v : Word) (why : AccessReason) (h : s.listens)
    (ht : tableOf r = none) (hr : readOnly r.address = false) (hf : s.fieldFault r v = some why)
    (hb : s.burstAddr r.address v = r.address) :
    s.hostWrite r.address v = (s.wordDone r.address).refuse true why 0 r.address := by
  rw [State.hostWrite_ready s _ _ h, hb]
  unfold State.writeWord
  have hg : (s.wordBegun r.address).fieldFault r v = some why := by rw [← hf]; rfl
  simp only [State.wordBegun_eq, regAt_address, State.writeRegister, ht, hr, hg, Bool.false_eq_true, if_false]
  rw [State.advanceTxn_write s _ r.address]
  · unfold State.refuse
    dsimp only
    split <;> split <;> first | rfl | simp_all [State.wordBegun, State.wordDone, State.raise, State.bump, State.bumpBy]
  · unfold State.refuse
    dsimp only
    split <;> rfl

end Sys2Proof.Machine
end

