-- ==== Sys2Proof/Laws/Rows.lean ====
section
/-! SUPPORT. The terms of Safety.lean for the steps of a position event, said once: a row performed inside an event, a
fault-capable event raised inside one, and what a close of the open batch leaves. -/

namespace Sys2Proof.Machine

/-- A row performed inside a position event, from what the row answers. -/
theorem State.row_of_next {s t : State} {c : Instr} (h : exec c s = .next t) :
    s.row c = { t with sl := { t.sl with place := s.sl.place, earlier := s.sl.earlier } } := by
  simp [State.row, h]

/-- Raising a fault-capable event inside a position event changes run control alone (R172). -/
theorem State.raiseInEvent_eq (s : State) (e : Event) : s.raiseInEvent e = { s with rc := s.noted e } := by
  unfold State.raiseInEvent State.masked
  split <;> rename_i hm
  · split <;> rename_i hs <;> simp [State.noted, State.raise, State.addCause, causeBit, hm, hs]
  · simp [State.noted, State.raise, hm]

@[simp] theorem State.noted_state (s : State) (e : Event) : (s.noted e).state = s.rc.state := rfl
@[simp] theorem State.noted_flags (s : State) (e : Event) :
    (s.noted e).flags = s.rc.flags ||| 1#32 <<< e.num := rfl

@[simp] theorem State.closed_br (s : State) (c u : Nat) (x : Bool) (m : List Byte) : (s.closed c u x m).br =
    { s.br with pointer := c, uses := u, batchNo := s.br.batchNo + 1#8, openCount := 0 } := rfl
@[simp] theorem State.closed_lg (s : State) (c u : Nat) (x : Bool) (m : List Byte) : (s.closed c u x m).lg = s.lg := rfl
@[simp] theorem State.closed_state (s : State) (c u : Nat) (x : Bool) (m : List Byte) :
    (s.closed c u x m).rc.state = s.rc.state := rfl
@[simp] theorem State.closed_routeQ (s : State) (c u : Nat) (x : Bool) (m : List Byte) : (s.closed c u x m).sl.routeQ =
    if s.sl.routeQ.length < 8 then s.sl.routeQ ++ [m] else s.sl.routeQ := rfl

/-- A message enqueued or lost after a close has chosen its destination (R156): the effect that `closed` states. -/
theorem State.pushRoute_closed (s : State) (c u : Nat) (m : List Byte) :
    (({ (s.bump .batches) with
      br := { s.br with pointer := c, uses := u, batchNo := s.br.batchNo + 1#8, openCount := 0 } }).pushRoute m) =
      s.closed c u false m := by
  unfold State.pushRoute State.closed
  by_cases h : s.sl.routeQ.length < 8
  · simp [h, State.bump, State.bumpBy, Config.routeQueue]
  · simp [h, State.bump, State.bumpBy, State.raise, Config.routeQueue, Event.num]
    rfl

end Sys2Proof.Machine
end

