-- ==== Sys2Proof/Laws/Silence.lean ====
section
/-! SUPPORT. The silence watchdog (R109) through a position event: what a change of AWAITING leaves of its count, said
once, and what steps 4, 7 and 8 do to AWAITING and to it. -/

namespace Sys2Proof.Machine

/-- A change of the watchdog's conditions changes its timer alone, which then runs exactly where all three hold. -/
theorem State.refreshSilence_eq (s : State) : s.refreshSilence = { s with vc := { s.vc with silence :=
    (if s.silenceMs = 0 ∨ s.awaiting = 0 ∨ s.vc.silent = true then none else some (s.vc.silence.getD 0)) } } := by
  unfold State.refreshSilence State.silenceRuns
  by_cases h : s.silenceMs = 0 <;> by_cases h' : s.awaiting = 0 <;> cases h'' : s.vc.silent <;> simp [h, h']

/-- The watchdog's limit is a register. -/
theorem State.silenceMs_of_regs {s t : State} (h : t.regs = s.regs) : t.silenceMs = s.silenceMs := by
  simp [State.silenceMs, State.fieldOf, State.reg, h]

/-- AWAITING is read from the ledger. -/
theorem State.awaiting_of_entries {s t : State} (h : t.lg.entries = s.lg.entries) : t.awaiting = s.awaiting := by
  simp [State.awaiting, h]

@[simp] theorem State.refreshSilence_awaiting (s : State) : s.refreshSilence.awaiting = s.awaiting :=
  State.awaiting_of_entries (by simp)

/-- An entry appended to the ledger counts as Awaiting if it expects a verdict and has none. -/
theorem State.appendEntry_awaiting (s : State) (e : Entry) :
    (s.appendEntry e).awaiting = s.awaiting + if e.awaiting = true then 1 else 0 := by
  by_cases h : e.awaiting = true <;> simp [State.awaiting, State.appendEntry, h]

/-- What the watchdog's timer is after an operation that changes AWAITING and, of the channel, nothing else. -/
theorem State.refreshSilence_vc {s t : State} (hr : t.regs = s.regs) (hv : t.vc = s.vc) :
    t.refreshSilence.vc = { s.vc with silence :=
      (if s.silenceMs = 0 ∨ t.awaiting = 0 ∨ s.vc.silent = true then none else some (s.vc.silence.getD 0)) } := by
  rw [State.refreshSilence_eq, State.silenceMs_of_regs hr, hv]

/-- Step 4 leaves the watchdog running exactly where its conditions hold on the ledger that it leaves. -/
theorem State.stepFour_vc (s : State) : s.stepFour.vc = { s.vc with silence :=
    (if s.silenceMs = 0 ∨ s.stepFour.awaiting = 0 ∨ s.vc.silent = true then none
      else some (s.vc.silence.getD 0)) } := by
  unfold State.stepFour
  rw [State.refreshSilence_vc (s := s) (by simp) (by simp), State.refreshSilence_awaiting]

/-- A held proposal makes no Awaiting entry (R75). -/
theorem State.holdBack_awaiting (s : State) (p : Proposal) : (s.holdBack p).awaiting = s.awaiting := by
  unfold State.holdBack
  dsimp only
  split
  · split
    · rw [State.appendEntry_awaiting, show ((s.bump (.held p.cls)).newLedgerEntry p none).awaiting = false from by
        simp [State.newLedgerEntry, Entry.awaiting]]
      simp [State.awaiting]
    · exact State.awaiting_of_entries (by simp)
  · exact State.awaiting_of_entries (by simp)

/-- An admission makes one Awaiting entry if its proposal expects a verdict, and otherwise none (R74). -/
theorem State.takeIn_awaiting (s : State) (p : Proposal) :
    (s.takeIn p).awaiting = s.awaiting + if p.expects = true then 1 else 0 := by
  have hc : ∀ (x : State) (id : Ident), (x.checkReuse id).lg.entries = x.lg.entries := by
    intro x id
    unfold State.checkReuse
    split <;> simp
  have hl : ∃ e : Entry, e.awaiting = p.expects ∧ (s.takeIn p).lg.entries = s.lg.entries ++ [e] := by
    refine ⟨((s.useIdent.fireMask p.mask).fillMask p.mask).newLedgerEntry p (some s.nextIdent), by
      simp [State.newLedgerEntry, Entry.awaiting], ?_⟩
    unfold State.takeIn
    dsimp only
    split <;> simp [State.appendEntry, hc]
  obtain ⟨e, he, hs⟩ := hl
  simp only [State.awaiting, hs, List.countP_append, List.countP_singleton, he]

/-- Step 7 with a proposal leaves the watchdog running exactly where its conditions hold on the ledger that it leaves.
-/
theorem State.stepSeven_vc {s : State} {p : Proposal} (h : s.proposal = some p) : s.stepSeven.vc =
    { s.vc with silence :=
      (if s.silenceMs = 0 ∨ s.stepSeven.awaiting = 0 ∨ s.vc.silent = true then none
        else some (s.vc.silence.getD 0)) } := by
  unfold State.stepSeven
  simp only [h]
  split <;> rw [State.refreshSilence_vc (s := s) (by simp) (by simp), State.refreshSilence_awaiting]

/-- Step 7 of an admitted proposal makes one Awaiting entry if the proposal expects a verdict. -/
theorem State.stepSeven_awaiting_admitted {s : State} {p : Proposal} (h : s.proposal = some p)
    (hh : s.globalHold = false) : s.stepSeven.awaiting = s.awaiting + if p.expects = true then 1 else 0 := by
  unfold State.stepSeven
  simp only [h, hh]
  rw [if_neg (by simp), State.refreshSilence_awaiting, State.takeIn_awaiting]
  rfl

/-- Step 7 of a held proposal leaves AWAITING as it is. -/
theorem State.stepSeven_awaiting_held {s : State} {p : Proposal} (h : s.proposal = some p) (hh : s.globalHold = true) :
    s.stepSeven.awaiting = s.awaiting := by
  unfold State.stepSeven
  simp only [h, hh, if_true]
  rw [State.refreshSilence_awaiting, State.holdBack_awaiting]
  rfl

/-- Step 8 leaves the ledger's entries, and so AWAITING, as they are. -/
theorem State.stepEight_entries (s : State) (active : List Bool) (global admitted flush : Bool) :
    (s.stepEight active global admitted flush).lg.entries = s.lg.entries := by
  have h : ∀ x : State, x.evalLedgerHigh.lg.entries = x.lg.entries := by
    intro x
    unfold State.evalLedgerHigh
    (repeat' split) <;> simp
  unfold State.stepEight
  dsimp only
  split <;> simp [h]

end Sys2Proof.Machine
end

