-- ==== Sys2Proof/Tests/Slice0.lean ====
section
/-! SUPPORT. Tests: ill-formed commands, worked examples of the spec (each named in the test's docstring, its expected
values taken from there), and for each statement with hypotheses a state and operands that meet them.

The theorems are checked one after another: each by itself would wait for the kernel on a thread of its own. -/

set_option Elab.async false

open Sys2Proof Sys2Proof.Machine

namespace Sys2Proof.Tests

/-! ### Small states -/

/-- The machine after reset and its readiness period. -/
def ready : State := { State.reset with port := { Port.reset with ready := true, readyLeft := 0 } }

/-- The state that an outcome answers; reset where it answers none. -/
def nextOf : Host.Outcome State Fault Refusal → State
  | .next t => t
  | .fault _ => State.reset
  | .refused _ => State.reset

/-- A ready machine in a run state. -/
def inRun (x : RunState) : State := { ready with rc := { RunControl.reset with state := x } }

/-- Registers written one after another. -/
def withRegs (s : State) (l : List (Reg × Word)) : State := l.foldl (fun s x => s.setReg x.1 x.2) s

/-- An item's ledger entry with nothing special about it: captured as (2, 81), expecting a verdict. -/
def item81 : Entry :=
  { ident := some { epoch := 2#4, itemId := 81#24 }, cls := .sensor, item := true, audit := false, expects := true
    captureTravel := 5000#32, cycleLow := 0#8, gateTravel := 5300#32, mask := 3#4, lane := 0#8, verdict := none }

/-- A sensor candidate. -/
def sensorCandidate : Candidate := { cls := .sensor, mask := 3#4, item := true, audit := false }

/-- The levels of idle pins. -/
def lowPins : Pins := { mark := false, busy0 := false, busy1 := false, lane := 0#8 }

/-! ### Ill-formed commands (Sys2Proof/WellFormed.lean) -/

theorem test_registerWrite_needs_a_register : (Instr.registerWrite 0x3FFF#14 0#32).wellFormed = false := by
  decide +kernel
theorem test_unmappedRead_is_no_port : (Instr.unmappedRead Reg.vcRaw.address).wellFormed = false := by decide +kernel
theorem test_unmappedWrite_needs_no_register : (Instr.unmappedWrite Reg.hpId.address 0#32).wellFormed = false := by
  decide +kernel
theorem test_packets_hold_a_record : (Instr.packetAccept 0#8 []).wellFormed = false := by decide
theorem test_packets_hold_at_most_16_records :
    (Instr.packetAccept 0#8
      (List.replicate 17 { epoch := 0#4, itemId := 0#24, code := 1#4, detail := 0#8 })).wellFormed = false := by decide

/-! ### Worked examples of the spec -/

/-- Section 1.7, item 2: WRITE, NotHalted, address 0x0021, index 0. -/
theorem test_refusal_record : refusalRecord true .notHalted 0 0x0021#14 = 0xD0000021#32 := by decide

/-- Section 1.8: the route pointer goes from 255 to 0. -/
theorem test_route_pointer_wraps :
    (nextOf (exec (.tableDataWrite .route 0x10A#32) (withRegs ready [(.brRoutePtr, 255#32)]))).pointer .route = 0 := by
  decide +kernel

/-- Section 2.5, worked example: the count two positions behind the index mark is realigned. -/
theorem test_realignment :
    let t := nextOf (exec (.positionEvent lowPins) { withRegs ready [(.lpCfg, 6#32), (.lpCycleLen, 100#32)] with
      lp := { Line.reset with cycleIndex := 97, cycleNumber := 7#16, indexPending := true, acc := 1 } })
    t.lp.cycleIndex = 0 ∧ t.lp.cycleNumber = 8#16 ∧ t.lp.phaseKind = .mismatch ∧ t.lp.phaseOffset = 0#16 - 2#16 ∧
      t.counter .phaseErrors = 1#32 := by decide +kernel

/-- Section 3.3, worked example: delay 40, W 2, S 3, intake at travel 1000. -/
theorem test_bracket_window :
    (({ withRegs ready [(.csSenseDelay, 40#32), (.csBracketWidth, 2#32), (.csBracketStep, 3#32)] with
      lp := { Line.reset with travel := 1000#32 } }).newEntry true) =
      { due := 1040#32, marked := true, window := some 1034#32, decided := false } := by decide +kernel

/-- Section 3.3, worked example: delay 4, the window's first proposal missed. -/
theorem test_bracket_past_window :
    let s := { withRegs ready [(.csSenseDelay, 4#32), (.csBracketWidth, 2#32), (.csBracketStep, 3#32)] with
      lp := { Line.reset with travel := 1000#32 } }
    (s.placeEntry (s.newEntry true)).cs.bracket = some { next := 1001#32, left := 4, step := 3 } ∧
      (s.placeEntry (s.newEntry true)).counter .bracketSkip = 1#32 := by decide +kernel

/-- R50: taps 32, 22, 2 and 1, by hand from the values 1 and 0x80000000. -/
theorem test_random_advance : lfsr 1#32 = 3#32 ∧ lfsr 0x80000000#32 = 1#32 ∧ lfsr 2#32 = 5#32 := by decide

/-- Section 4.10: three candidates merge. -/
theorem test_three_candidates :
    ({ withRegs ready [(.csClassCfg1, 0x18#32)] with candidates :=
      [{ cls := .sensor, mask := 3#4, item := true, audit := true },
        { cls := .pattern, mask := 4#4, item := false, audit := false },
        { cls := .periodic, mask := 8#4, item := false, audit := false }] }).proposal =
      some { cls := .periodic, mask := 15#4, item := true, audit := true, expects := true } := by decide +kernel

/-- Section 4.10, items 3 to 5: the identity (3, 4711), the overlap of FIRE_B, the model of group C at HIGH. -/
theorem test_admission_4711 :
    let t := ({ withRegs (inRun .running) [(.adModelcCfg, 0x00860064#32)] with
      candidates := [{ cls := .sensor, mask := 15#4, item := true, audit := true }]
      ad := { Admission.reset with
        nextId := 4711#24, epoch := 3#4, fireB := some 2, modelC := { occ := 5, drain := some 9, hold := false } } }).stepSeven
    t.ad.nextId = 4712#24 ∧ t.counter (.fireOverlap .b) = 1#32 ∧ t.counter (.fireOverlap .a) = 0#32 ∧
      t.ad.modelC = { occ := 6, drain := some 9, hold := true } ∧
      t.lg.entries.map Entry.ident = [some { epoch := 3#4, itemId := 4711#24 }] := by decide +kernel

/-- Section 5.11, item 3: a Pass for an item rejected by default is Late with LateConflict. -/
theorem test_late_verdict :
    let t := nextOf (exec (.packetAccept 7#8 [{ epoch := 2#4, itemId := 81#24, code := 1#4, detail := 0#8 }])
      { inRun .running with lg := { Ledger.reset with
        window := [{ ident := { epoch := 2#4, itemId := 81#24 }, outcome := .reject }] } })
    t.counter .lateVerdicts = 1#32 ∧ t.gd.log.map LogRecord.word0 = [0x23019#32] := by decide +kernel

/-- Section 5.12, item 1: under SEQ_KEEP a record out of sequence is matched and marked. -/
theorem test_ordered_mode :
    let e := fun n : BitVec 24 => { item81 with ident := some { epoch := 4#4, itemId := n } }
    let t := nextOf (exec (.packetAccept 7#8 [{ epoch := 4#4, itemId := 11#24, code := 1#4, detail := 0#8 }])
      { withRegs (inRun .running) [(.lgCfg, 3#32)] with lg := { Ledger.reset with entries := [e 10, e 11, e 12] } })
    t.counter .sequenceError = 1#32 ∧
      t.lg.entries.map Entry.verdict =
        [none, some { code := .pass, detail := 0#8, outOfOrder := true }, none] := by decide +kernel

/-- Section 6.11: the check character and the record of the packet. -/
theorem test_packet :
    zeroSumCheck [0x21#8, 0x07#8, 0x01#8, 0x20#8, 0x00#8, 0x05#8, 0x11#8, 0x00#8] = 0xA1#8 ∧
      decodeRecords [0x20#8, 0x00#8, 0x05#8, 0x11#8, 0x00#8] =
        [{ epoch := 2#4, itemId := 81#24, code := 1#4, detail := 0#8 }] := by decide

/-- Section 6.11: the check taken, LAST_SEQ 6 becomes 7 and item (2, 81) has its Pass. -/
theorem test_packet_accepted :
    let t := nextOf (exec .parseEntry { inRun .running with
      lg := { Ledger.reset with entries := [item81] }
      vc := { Channel.reset with
        fifo := [{ data := 0xA1#8, marker := false, error := false, gap := false }], seqValid := true, lastSeq := 6#8
        parser :=
          { phase := .check, seqNo := some 7#8, count := 1, chars := [0x20#8, 0x00#8, 0x05#8, 0x11#8, 0x00#8]
            sum := 0x5F#8, poisoned := false } } })
    t.vc.lastSeq = 7#8 ∧ t.counter .packetsAccepted = 1#32 ∧ t.counter .sequenceGap = 0#32 ∧
      t.lg.entries.map Entry.verdict = [some { code := .pass, detail := 0#8, outOfOrder := false }] := by
  decide +kernel

/-- Section 6.12, items 1 and 2: a new lead truncates the packet and opens the next. -/
theorem test_packet_truncated :
    let t := nextOf (exec .parseEntry { withRegs (inRun .running) [(.vcAddr, 0x21#32)] with
      vc := { Channel.reset with
        fifo := [{ data := 0x21#8, marker := true, error := false, gap := false }]
        parser :=
          { phase := .records, seqNo := some 41#8, count := 2, chars := List.replicate 7 0#8, sum := 0#8
            poisoned := false } } })
    t.counter .packetErrors = 1#32 ∧ t.vc.lastError = 1 ∧ t.vc.parser.phase = .header := by decide +kernel

/-- Section 6.13, item 1: the 193rd entry pauses and stalls the controller. -/
theorem test_pause_at_the_193rd_entry :
    let t := nextOf (exec (.vcCharacter { data := 0#8, marker := false, stop := true } 0)
      { withRegs ready [(.vcCfg, 1#32), (.vcFlowCfg, 7#32), (.vcFlowLevels, 0x40C0#32)] with
        vc := { Channel.reset with
          fifo := List.replicate 192 { data := 0#8, marker := false, error := false, gap := false } } })
    t.vc.fifo.length = 193 ∧ t.vc.flowPaused = true ∧ t.vc.stall = true ∧
      t.vc.tx.map TxChar.char = some .pause := by decide +kernel

/-- Section 7.8, items 4 to 6: item (5, 902), rejected with detail 0x31, retires at travel 7340. -/
theorem test_retirement_of_902 :
    let t := nextOf (exec .gateRetirement
      { withRegs (inRun .running) [(.gdPulsePos, 12#32), (.gdLogMode, 0#32), (.gdNoticeEn, 1#32)] with
        lp := { Line.reset with travel := 7340#32 }
        lg := { Ledger.reset with entries := [{ item81 with
          ident := some { epoch := 5#4, itemId := 902#24 }, gateTravel := 7340#32
          verdict := some { code := .reject, detail := 0x31#8, outOfOrder := false } }] } })
    t.gd.rejLeft = 12 ∧ t.lg.entries = [] ∧
      t.gd.log = [{ word0 := 0x352222#32, word1 := 0x31000386#32, word2 := 0x00001CAC#32 }] ∧
      t.lg.window = [{ ident := { epoch := 5#4, itemId := 902#24 }, outcome := .reject }] := by decide +kernel

/-- Section 7.9, item 3: a Divert cuts a Reject pulse short. -/
theorem test_gate_overlap :
    let t := ({ withRegs ready [(.gdPulsePos, 12#32)] with gd := { Gate.reset with rejLeft := 4 } }).startPulse .divert
    t.gd.rejLeft = 0 ∧ t.gd.divLeft = 12 ∧ t.counter .gateOverlap = 1#32 := by decide +kernel

/-- Five stations present (section 8.11). -/
def fiveStations (x : Station) : List Station :=
  List.replicate 2 { Station.zero with state := .present } ++ [x] ++
    List.replicate 2 { Station.zero with state := .present } ++ List.replicate 10 Station.zero

/-- Section 8.11, item 1: from 5 the search passes over 15 to 1, and TURN becomes 4. -/
theorem test_poll_wraps :
    let t := nextOf (exec .frameSelection { withRegs ready [(.slCfg, 1#32)] with
      sl := { Link.reset with
        lastPolled := 5, turn := 3, pollDue := true
        stations := fiveStations { Station.zero with state := .present } } })
    t.sl.lastPolled = 1 ∧ t.sl.turn = 4 ∧ t.sl.frame.map Frame.header = some 0x91#8 := by decide +kernel

/-- Section 8.11, item 4: the third miss with SL_RETRY 2 loses station 3. -/
theorem test_station_lost :
    let t := nextOf (exec .replyTimeout { withRegs ready [(.slCfg, 1#32)] with
      sl := { Link.reset with
        link := .reply, polled := 3, stations := fiveStations { Station.zero with state := .suspect, misses := 2 } } })
    (t.station 2).state = .absent ∧ (t.station 2).misses = 3 ∧ bit t.rc.flags 6 = true ∧ t.sl.missReason = 1 := by
  decide +kernel

/-- Section 8.12, item 3: a reply from address 9 to a poll of 7. -/
theorem test_collision :
    replyFault 7 0#8 { data := 0xA9#8, marker := true, stop := true } { data := 0#8, marker := false, stop := true }
      { data := 0#8, marker := false, stop := true } { data := 0x57#8, marker := false, stop := true } = some 4 := by
  decide

/-- Section 9.10: with SL_DIV 100 and LEAD and LAG 1, a long frame takes 360 us and a short one 184 us, at 25 periods a
microsecond. -/
theorem test_frame_times :
    ready.frameTime { kind := 6#4, addr := 0#4, payload := List.replicate 6 0#8 } = 360 * 25 ∧
      ready.frameTime { kind := 1#4, addr := 0#4, payload := List.replicate 2 0#8 } = 184 * 25 := by decide +kernel

/-- Section 9.10, item 5: Reference A yields to a Cycle Mark that is still Due. -/
theorem test_reference_yields :
    let t := nextOf (exec (.slotAnchor .refA)
      { withRegs ready [(.lpCycleLen, 400#32), (.csRefaCfg, 0x00080001#32)] with
        lp := { Line.reset with cycleIndex := 8 }
        sl := { Link.reset with
          link := .sending
          slots := { Slots.reset with
            cycleMark := { Slot.idle with state := .due }, refA := { Slot.idle with state := .guarding } } } })
    t.sl.slots.refA = { Slot.idle with state := .armed, again := true } ∧ t.sl.slots.cycleMark.state = .due ∧
      t.counter .yields = 1#32 := by decide +kernel

/-- Section 9.10, item 10: the frame starts at travel 40409 with DELAY 50. -/
theorem test_prepare_fixes_the_capture :
    let t := nextOf (exec .frameSelection { withRegs ready [(.slCfg, 1#32), (.csRefaDelay, 0x00330032#32)] with
      lp := { Line.reset with travel := 40409#32 }
      cs := { Sources.reset with refA := { Reference.idle with state := .requested } }
      sl := { Link.reset with
        earlier := { Startable.none with slots := [.refA] }
        slots := { Slots.reset with refA := { Slot.idle with state := .due, again := true } } } })
    t.cs.refA = { Reference.idle with state := .pending, capture := 40459#32 } ∧ t.sl.slots.refA = Slot.sent ∧
      t.sl.frame.map Frame.payload = some [1#8, 0x33#8] := by decide +kernel

/-- The route table of section 10.8 with the vetoes given. -/
def routes (v0 v1 v2 : Bool) : Table :=
  [(0, 0x30A#32 ||| flagAt v0 15), (1, 0x114#32 ||| flagAt v1 15), (2, 0x21E#32 ||| flagAt v2 15)]

/-- A close of section 10.8: what c, u and the destination become. -/
def closeOf (c u : Nat) (t : Table) : Nat × Nat × Option Byte :=
  let s := ({ withRegs ready [(.brCount, 3#32), (.brFallback, 99#32)] with
    route := t, br := { Routing.reset with pointer := c, uses := u, openCount := 4 } }).closeBatch false 4
  (s.br.pointer, s.br.uses, (s.sl.routeQ.head?.bind fun m => m.head?))

/-- Section 10.8, batches 2, 5, 8, 9 and 10. -/
theorem test_routes :
    closeOf 0 2 (routes false false false) = (1, 0, some 10#8) ∧ closeOf 2 1 (routes false false true) = (0, 1, some 10#8) ∧
      closeOf 1 0 (routes false false true) = (0, 0, some 20#8) ∧ closeOf 0 0 (routes true true true) = (0, 0, some 99#8) ∧
      closeOf 0 0 (routes true false true) = (1, 0, some 20#8) := by decide +kernel

/-- Section 10.9, item 1: the flush of a Stop. -/
theorem test_stop_flushes :
    let t := nextOf (exec (.stop 0#32) { inRun .running with
      br := { Routing.reset with batchNo := 41#8, openCount := 5, openEpoch := 6#4 } })
    t.rc.state = .draining ∧ t.br.batchNo = 42#8 ∧ t.br.openCount = 0 ∧
      t.sl.routeQ.map (List.drop 1) = [[41#8, 5#8, 1#8, 0#8, 6#8]] := by decide +kernel

/-- R168: a cycle length of 15 is refused with FIELD 1, of 16 accepted. -/
theorem test_start_checks_the_cycle_length :
    (nextOf (exec (.start 0#32) (withRegs ready [(.lpCycleLen, 15#32)]))).rc.field = 1 ∧
      (nextOf (exec (.start 0#32) (withRegs ready [(.lpCycleLen, 16#32)]))).rc.state = .running := by decide +kernel

/-- The groups of section 13.2 cover the 116 counters without a gap. -/
theorem test_counter_groups : counterGroups.length = 54 ∧
    (counterGroups.flatMap fun x => (List.range x.2).map (x.1 + ·)) = List.range 116 := by decide +kernel

/-- R90: a start edge, its confirmation half a bit time later, 0x21 least significant bit first, the marker and the stop
bit, at two edges a bit. -/
theorem test_receiver :
    ((([true, false, false] ++ [true, false, false, false, false, true, false, false, true].flatMap (fun b => [b, b]) ++
      [true]).foldl (fun r l => (r.edge l 2 false).1) Receiver.fresh).edge true 2 false).2 =
        some ({ data := 0x21#8, marker := true, stop := true }, false) := by decide

/-- R90, item 2: a line that is high again half a bit time after its start edge makes no character. -/
theorem test_receiver_glitch :
    ([true, false, true].foldl (fun r l => (r.edge l 2 false).1) Receiver.fresh).char = none := by decide

/-- R100 at an edge of the clock: a packet stops on a line silent for longer than the gap limit. -/
theorem test_gap_check_at_an_edge :
    let t := nextOf (step { ready with vc := { Channel.reset with
      idle := ready.gapLimit, parser := { Parser.cleared with phase := .header } } })
    t.vc.parser.phase = .hunting ∧ t.vc.lastError = 2 := by decide +kernel

/-- R134, item 2, at an edge of the clock: the reply window runs out with no header. -/
theorem test_reply_window_runs_out :
    let s := { withRegs ready [(.slCfg, 1#32)] with
      sl := { Link.reset with link := .reply, left := 1, polled := 1 } }
    (nextOf (step s)).sl.link = .spacing ∧ (nextOf (step s)).sl.missReason = 1 := by decide +kernel

/-- R146, lines 3 and 4: a route message that joined at this edge waits for the selection of the next. -/
theorem test_selection_at_the_same_edge :
    let s := { withRegs ready [(.slCfg, 1#32)] with sl := { Link.reset with place := .parse, routeQ := [[1#8]] } }
    let t := nextOf (exec .frameSelection s)
    t.sl.link = .idle ∧ (nextOf (exec .frameSelection t)).sl.link = .sending := by decide +kernel

/-- R2: the first word of a read is taken at the edge at which the turnaround byte ends. -/
theorem test_turnaround_takes_the_first_word :
    let s := { nextOf (exec (.transactionHeader 0x80#8 0x00#8 0x00#8) ready) with
      inputs := [{ pins := lowPins, lines := Lines.quiet, turned := true }] }
    s.sdoLine = some 0#32 ∧ (nextOf (step s)).sdoLine = some 0x57423136#32 := by decide +kernel

/-- A ready machine whose next edge finds SPI_CS_N low. -/
def fallingSelect : State :=
  { ready with inputs := [{ pins := lowPins, lines := { Lines.quiet with csN := false }, turned := false }] }

/-- R2: SPI_SDO drives 0 from the edge at which SPI_CS_N falls, and nothing while it is high. -/
theorem test_sdo_is_zero_in_the_header :
    fallingSelect.sdoLine = none ∧ (nextOf (step fallingSelect)).sdoLine = some 0#32 := by decide +kernel

/-- R176 and R7: two DEVICE_RESET words at RC_ACTION reset the part, which then ignores the line. -/
theorem test_two_resets :
    let b := nextOf (exec (.deviceReset 0#32) (withRegs ready [(.lpCycleLen, 400#32)]))
    let t := nextOf (exec (.deviceReset 0#32) (nextOf (exec (.transactionHeader 0x01#8 0x02#8 0x8A#8) b)))
    Reg.rcAction.address = 0x28A#14 ∧ b.rc.resetArmed = true ∧ t.port.ready = false ∧ t.port.ignoring = true ∧
      t.rc.softCause = true ∧ t.reg .lpCycleLen = State.reset.reg .lpCycleLen := by decide +kernel

/-- R5 and R176: the first word of such a burst moves it on to 0x28B and arms the soft reset; the second one resets the
part, which ignores the rest of the transaction (R7, log 37). -/
theorem test_a_burst_of_two_resets :
    let s := nextOf (exec (.deviceReset 0#32) (nextOf (exec (.transactionHeader 0x01#8 0x02#8 0x8A#8) ready)))
    let t := nextOf (exec (.deviceReset 0#32) s)
    s.port.txn.map Transaction.addr = some 0x28B#14 ∧ s.rc.resetArmed = true ∧ t.rc.softCause = true ∧
      t.port.ignoring = true ∧ t.port.txn = none := by decide +kernel

/-- R32 and R146: the Batch Route of a FLUSH, which comes after the selection of its edge, starts at the next selection,
before a Capture Tag. -/
theorem test_a_flushed_route_starts_first :
    let s := { withRegs ready [(.slCfg, 1#32)] with
      br := { Routing.reset with openCount := 1 }, sl := { Link.reset with tagQ := [[1#8]] } }
    (nextOf (exec .frameSelection (nextOf (exec .flush s)))).sl.frame.map Frame.kind = some 6#4 := by decide +kernel

/-- R32 and R146: a tag of the position event, POLL_TIMER_EXPIRY after the selection of its edge, and the next
selection starts the tag before the Poll. -/
theorem test_a_tag_starts_before_the_poll :
    let s := { withRegs ready [(.slCfg, 1#32)] with
      sl := { Link.reset with
        place := .position, tagQ := [[1#8]], pollTimer := some 0
        stations := List.replicate 15 { Station.zero with state := .unknown } } }
    let t := nextOf (exec .pollTimerExpiry s)
    t.sl.pollDue = true ∧ (nextOf (exec .frameSelection t)).sl.frame.map Frame.kind = some 7#4 := by decide +kernel

/-- R129 and R146: FRAME_END and SPACING_END are of two edges, so what stood startable at the first can start at the
selection of the second. -/
theorem test_spacing_ends_at_a_later_edge :
    let s := { withRegs ready [(.slCfg, 1#32)] with
      sl := { Link.reset with place := .accept, link := .sending, tagQ := [[1#8]] } }
    let t := nextOf (exec .spacingEnd (nextOf (exec .frameEnd s)))
    t.sl.link = .idle ∧ t.sl.earlier.tag = true ∧
      (nextOf (exec .frameSelection t)).sl.frame.map Frame.kind = some 7#4 := by decide +kernel

/-- R122: a pop latches the whole record, and an empty log the EMPTY word. -/
theorem test_pop_latches_the_record :
    let t := nextOf (exec .logPop { ready with
      gd := { Gate.reset with log := [{ word0 := 1#32, word1 := 2#32, word2 := 3#32 }] } })
    (t.gd.latch0 = 1#32 ∧ t.gd.latch1 = 2#32 ∧ t.gd.latch2 = 3#32) ∧
      (nextOf (exec .logPop t)).gd.latch0 = 0x80000000#32 := by decide +kernel

/-- A word at an address spells no command: the table gives its rows no bits. -/
theorem test_no_word_spells_a_command : decodeTableWord 32 1 = none := rfl

/-! ### Witnesses: states and operands that meet the hypotheses of the statements, clause by clause -/

/-- A machine at which a run, a line and a link have something to do: its slots, queues and registers as given. -/
def withSlots (s : State) (x : Slots) : State := { s with sl := { s.sl with slots := x } }

/-- A link that is enabled, ready. -/
def linked : State := withRegs ready [(.slCfg, 1#32)]

/-- A slot in a state. -/
def slotIn (x : SlotState) : Slot := { Slot.idle with state := x }

/-- A route table without vetoes whose entry 0 has SHARE 3. -/
def routed (t : Table) (b : Routing) : State := { withRegs ready [(.brCount, 3#32)] with route := t, br := b }

/-- An entry of the receive FIFO. -/
def entryOf (d : Byte) (marker gap : Bool) : FifoEntry := { data := d, marker := marker, error := false, gap := gap }

/-- A verdict channel whose FIFO holds one entry and whose parser stands in a phase. -/
def parsing (e : FifoEntry) (p : ParserPhase) (n : Option Byte) : State :=
  { ready with vc := { Channel.reset with fifo := [e], parser := { Parser.cleared with phase := p, seqNo := n } } }

/-- A character of a reply. -/
def replyChar (d : Byte) (marker : Bool) : LineChar := { data := d, marker := marker, stop := true }

theorem witness_StepRunsTheFrontCommand :
    ({ State.reset with pending := [.flush, .indexEdge] } : State).pending = .flush :: [.indexEdge] := rfl

theorem witness_EmptyStepsAreClockEdges :
    (let s := { State.reset with clk := { divider := 23, sincePosition := 40 } };
      s.pending = [] ∧ s.inputs = [] ∧ s.lines = Lines.quiet ∧ s.clk.divider < 24 ∧ s.lp.acc = 0 ∧
        s.linkEnabled = false ∧ s.sl.link = .idle ∧ s.vc.fifo = [] ∧ s.vc.tx = none ∧ s.vc.flowPaused = false ∧
        s.vc.stall = false ∧ s.vc.parser.phase = .hunting ∧ s.vc.rx.char = none ∧ s.sl.rx.char = none) ∧
    (let x : Sample := { pins := lowPins, lines := { Lines.quiet with encStep := true }, turned := true };
      let s := { State.reset with clk := { divider := 24, sincePosition := 40 }, inputs := [x] };
      s.pending = [] ∧ s.inputs = x :: [] ∧ s.clk.divider % 25 = 24) := by decide +kernel

theorem witness_ResetsRestoreEveryBlock :
    (ready.listens ∧ ready.rc.resetArmed = false ∧ 0x10#32 &&& 0xF#32 = 0#32) ∧
      (let t : Transaction := { read := false, left := 2, addr := Reg.rcAction.address, word := none };
        let s := { ready with port := { ready.port with txn := some t } };
        s.listens ∧ s.rc.resetArmed = false ∧ s.continues false Reg.rcAction.address = true) ∧
      (let t : Transaction := { read := false, left := 1, addr := 0x28B#14, word := none };
        let s := { ready with
          port := { ready.port with txn := some t }, rc := { ready.rc with resetArmed := true } };
        s.listens ∧ s.rc.resetArmed = true ∧ s.continues false (Reg.rcAction.address + 1#14) = true) ∧
      ({ ready with rc := { ready.rc with resetArmed := true } } : State).rc.resetArmed = true := by decide

theorem witness_ReadinessPeriodBlocksThePort :
    State.reset.port.ready = false ∧ State.reset.port.deaf = false ∧ State.reset.port.ignoring = false ∧
      State.reset.port.txn = none := by decide

theorem witness_RefusalsAreCountedAndRecorded : 4095 < 4096 := by decide

theorem witness_PermittedWordsAreStored :
    (ready.tablesCanonical = true ∧ ready.listens ∧ Reg.lpCycleLen.placesAnchors = true) ∧
      ready.permits .lpCycleLen 4096#32 ∧
      (Reg.lpGenPeriod.plain = true ∧ (inRun .running).permits .lpGenPeriod 0xFFFF#32) ∧
      ready.permits .slDiv 40#32 ∧ (ready.permits .slStationPtr 15#32 ∧ field 15#32 0 4 = 15) ∧
      (let s := withSlots ready { Slots.reset with user := slotIn .due };
        let t := (s.wordDone Reg.slUserAnchor.address).setReg .slUserAnchor 9#32;
        (s.slot .user).state = .due ∧ t.slotAnchor .user ≠ s.slotAnchor .user) := by
  refine ⟨by decide +kernel, ⟨by decide +kernel, by decide +kernel⟩, ⟨by decide +kernel, by decide +kernel,
    by decide +kernel⟩, ⟨by decide +kernel, by decide +kernel⟩,
    ⟨⟨by decide +kernel, by decide +kernel⟩, by decide +kernel⟩, by decide +kernel⟩

theorem witness_ForbiddenWordsAreRefused :
    (let s := { ready with port := { ready.port with installLock := true } };
      s.port.installLock = true ∧ (1#32 ^^^ s.reg .rcCfg) &&& Reg.rcCfg.info.install ≠ 0#32) ∧
    (let s := inRun .running;
      s.port.installLock = false ∧ s.rc.state ≠ .halted ∧
        (0x1000#32 ^^^ s.reg .lpCycleLen) &&& Reg.lpCycleLen.info.setup ≠ 0#32) := by decide +kernel

theorem witness_UnmappedAndReadOnlyWordsAreRefused :
    mapped 0x3FFF#14 = false ∧ readOnly Reg.hpId.address = true ∧ ready.listens ∧ ready.port.txn = none := by
  decide +kernel

theorem witness_RegisterReadsHaveNoSideEffect :
    (ready.listens ∧ ready.port.txn = none ∧ Reg.hpRefused.info.port = false) ∧
    (let e : RingEntry := { due := 0#32, marked := false, window := none, decided := false };
      let s := { ready with
        lp := { Line.reset with cycleIndex := 4095, debt := 65535, sinceIndex := 8191 }
        ad := { Admission.reset with modelD := { occ := 63, drain := some 1, hold := true }, spacing := 65535 }
        cs := { Sources.reset with
          ring := List.replicate 32 e, p1Left := 64, p2Left := 64
          bracket := some { next := 0#32, left := 15, step := 1 } }
        lg := { Ledger.reset with
          entries := List.replicate 512 item81
          window := List.replicate 32 { ident := { epoch := 0#4, itemId := 0#24 }, outcome := .pass } }
        vc := { Channel.reset with
          fifo := List.replicate 256 { data := 0#8, marker := false, error := false, gap := false }, lastError := 7 }
        gd := { Gate.reset with
          log := List.replicate 128 { word0 := 0#32, word1 := 0#32, word2 := 0#32 }, rejLeft := 255, divLeft := 255 }
        sl := { Link.reset with
          lastPolled := 15, turn := 15, missReason := 7, routeQ := List.replicate 8 [], tagQ := List.replicate 64 []
          noticeQ := List.replicate 32 [] }
        br := { Routing.reset with pointer := 255, uses := 15, openCount := 63 }
        rc := { RunControl.reset with
          lastCmd := 3, lastResult := 2, reason := 7, field := 15, faultFirst := 19, faultCauses := 0x7C#32 } };
      s.lp.cycleIndex < 4096 ∧
        (s.cs.ring.length ≤ 32 ∧ s.cs.p1Left ≤ 64 ∧ s.cs.p2Left ≤ 64 ∧ ∀ b ∈ s.cs.bracket, b.left ≤ 15) ∧
        (s.lg.entries.length ≤ 512 ∧ s.lg.window.length ≤ 32) ∧ s.vc.fifo.length ≤ 256 ∧
        (s.gd.log.length ≤ 128 ∧ s.gd.rejLeft ≤ 255 ∧ s.gd.divLeft ≤ 255) ∧
        (s.sl.lastPolled ≤ 15 ∧ s.sl.turn ≤ 15 ∧ s.sl.missReason ≤ 7) ∧
        (s.br.pointer ≤ 255 ∧ s.br.uses ≤ 15 ∧ s.br.openCount ≤ 63) ∧
        (s.lp.debt ≤ 65535 ∧ s.lp.sinceIndex ≤ 8191 ∧ s.ad.modelA.occ ≤ 63 ∧ s.ad.modelD.occ ≤ 63 ∧
          s.ad.spacing ≤ 65535 ∧ s.vc.lastError ≤ 7) ∧
        (s.sl.routeQ.length ≤ 8 ∧ s.sl.tagQ.length ≤ 64 ∧ s.sl.noticeQ.length ≤ 32) ∧
        (s.lg.entries = [] ++ item81 :: List.replicate 511 item81 ∧ item81.expects = true ∧ item81.verdict = none ∧
          item81.ident = some { epoch := 2#4, itemId := 81#24 }) ∧
        (s.rc.lastCmd ≤ 3 ∧ s.rc.lastResult ≤ 2 ∧ s.rc.reason ≤ 7 ∧ s.rc.field ≤ 15) ∧
        s.rc.faultFirst ≤ 19 ∧ s.rc.faultCauses &&& ~~~0x7C#32 = 0#32) ∧
    ready.lg.entries = [] ∧ (2 ≤ 6 ∧ 6 ≤ 6) := by decide +kernel

theorem witness_ControlWordsLockAndClear : ready.listens := by decide

theorem witness_TheInstallLockStays :
    let s := { ready with port := { ready.port with installLock := true } }
    s.port.installLock = true ∧ exec .indexEdge s = .next (s.arrive .index) := ⟨rfl, rfl⟩

/-- A ready machine with an open transaction. -/
def inTransaction (t : Transaction) : State := { ready with port := { ready.port with txn := some t } }

theorem witness_HeadersOpenTransactions :
    (({ ready with port := { ready.port with ignoring := true } } : State).port.ignoring = true ∧ ready.port.txn = none ∧
      ready.port.ignoring = false) ∧
    (let h := { ready with port := { ready.port with heading := true } };
      h.port.ignoring = false ∧ h.port.txn = none ∧ h.port.heading = true ∧ ready.port.heading = false) ∧
    (let t : Transaction := { read := true, left := 0, addr := 0#14, word := none };
      (inTransaction t).port.txn = some t ∧ t.left = 0) ∧
    (let t : Transaction := { read := true, left := 128, addr := 0x3FFF#14, word := none };
      (inTransaction t).port.txn = some t ∧ t.read = true ∧ t.word = none ∧ 0 < t.left) ∧
    (let t : Transaction := { read := false, left := 1, addr := 0#14, word := none };
      (inTransaction t).port.txn = some t ∧ t.read = false) := by decide +kernel

theorem witness_BurstsAdvanceTheAddress :
    (let t : Transaction := { read := false, left := 1, addr := 0x3FFF#14, word := none };
      (inTransaction t).port.txn = some t ∧ t.read = false ∧ 0 < t.left ∧ (inTransaction t).port.ignoring = false ∧
        (inTransaction t).rc.resetArmed = false) ∧
    (let t : Transaction := { read := false, left := 2, addr := Reg.rcAction.address, word := none };
      (inTransaction t).port.txn = some t ∧ t.read = false ∧ 0 < t.left ∧ (inTransaction t).port.ignoring = false ∧
        (inTransaction t).rc.resetArmed = false ∧ (inTransaction t).port.ready = true ∧ bit 0x10#32 4 = true ∧
        isPort Reg.rcAction.address = false) ∧
    (let w : WordStart := { value := 5#32, ready := true, element := true };
      let r : LogRecord := { word0 := 5#32, word1 := 2#32, word2 := 3#32 };
      let t : Transaction := { read := true, left := 2, addr := Reg.gdLogPop0.address, word := some w };
      let s := { inTransaction t with gd := { Gate.reset with log := [r] } };
      s.port.txn = some t ∧ t.read = true ∧ 1 < t.left ∧ s.port.ready = true ∧ t.word = some w ∧ w.ready = true ∧
        w.element = true ∧ s.gd.log = r :: []) ∧
    (let t : Transaction := { read := true, left := 1, addr := 0x3FFF#14, word := none };
      t.left = 1 ∧ (inTransaction t).port.txn = some t) := by decide +kernel

theorem witness_TableWritesStoreAndAdvance :
    (ready.tablesCanonical = true ∧ ready.listens ∧ ready.patternEnabled = false ∧
      ready.port.installLock = false ∧ ready.sl.stations.length = 15 ∧ bit ready.port.refused 31 = false) ∧
    (let s := withRegs ready [(.csPatternEnable, 1#32)]; s.tablesCanonical = true ∧ s.patternEnabled = true) ∧
    (let s := { ready with port := { ready.port with installLock := true } };
      s.listens ∧ s.port.installLock = true ∧ (s.station (s.pointer .station)).word &&& 7#32 ≠ 1#32 &&& 7#32 ∧
        (s.station (s.pointer .station)).word &&& 7#32 = 8#32 &&& 7#32) ∧
    (let s := { ready with sl := { Link.reset with
        stations := { Station.zero with state := .absent, misses := 3 } :: List.replicate 14 Station.zero } };
      (s.station (s.pointer .station)).state ≠ .disabled ∧ bit 0#32 0 = false ∧ bit 1#32 0 = true) := by
  decide +kernel

theorem witness_TableReadsReturnAndAdvance : ready.listens ∧ ready.port.txn = none := by decide

theorem witness_PortReadsTakeTheHead :
    (let r : LogRecord := { word0 := 1#32, word1 := 2#32, word2 := 3#32 };
      ({ ready with gd := { Gate.reset with log := [r] } } : State).gd.log = r :: []) ∧ ready.gd.log = [] ∧
    ((parsing (entryOf 7#8 true false) .hunting none).vc.fifo = entryOf 7#8 true false :: [] ∧ ready.vc.fifo = []) ∧
    (let p := fun n => { withRegs ready [(.vcFlowCfg, 7#32), (.vcFlowLevels, 0x40C0#32)] with
        vc := { Channel.reset with
          fifo := entryOf 7#8 true false :: List.replicate n (entryOf 0#8 false false)
          flowPaused := true, stall := true } };
      (p 64).listens ∧ (p 64).port.txn = none ∧ (p 64).swFlow = true ∧ (p 64).hwFlow = true ∧
        (p 64).vc.flowPaused = true ∧ (p 64).vc.stall = true ∧ (p 64).vc.tx = none ∧
        (List.replicate 64 (entryOf 0#8 false false)).length ≤ (p 64).lowerLevel ∧ 64 ≤ (p 64).upperLevel ∧
        ((p 193).upperLevel < 193 ∧ (p 193).lowerLevel < 193)) := by decide +kernel

theorem witness_RunCommandsAreRefused :
    (inRun .running).rc.state ≠ .halted ∧ (inRun .draining).rc.state ≠ .running ∧ ready.rc.state = .halted ∧
      (inRun .running).rc.state ≠ .faulted ∧
      (let s := { inRun .faulted with lg := { Ledger.reset with entries := [item81] } };
        s.rc.state = .faulted ∧ s.lg.entries ≠ []) ∧
      (ready.listens ∧ 0#32 &&& 14#32 = 0#32 ∧ 0#32 &&& 13#32 = 0#32 ∧ 0#32 &&& 11#32 = 0#32 ∧
        0#32 &&& 7#32 = 0#32 ∧ 8#32 &&& 14#32 ≠ 0#32 ∧ 0#32 &&& 15#32 = 0#32) := by decide

theorem witness_StartValidatesThenRebases :
    (let s := withRegs ready [(.lpCycleLen, 15#32)];
      s.listens ∧ s.rc.state = .halted ∧ s.startChecks.findIdx? id = some 0) ∧
    (withRegs ready [(.lgHigh, 512#32)]).startChecks.findIdx? id = some 9 ∧
    ready.startChecks.findIdx? id = none ∧ ready.rc.state = .halted := by decide +kernel

theorem witness_StopFlushesAndDrains :
    (let s := inRun .running; s.listens ∧ s.rc.state = .running ∧ s.br.openCount = 0) ∧
    (let s := { inRun .running with
        br := { Routing.reset with openCount := 1 }, sl := { Link.reset with routeQ := List.replicate 8 [] } };
      s.rc.state = .running ∧ s.br.openCount ≠ 0 ∧ 0#32 &&& 13#32 = 0#32) := by decide

theorem witness_AbortClearsTheLine :
    let s := { inRun .faulted with
      lg := { Ledger.reset with entries := [item81] }, sl := { Link.reset with slots :=
        { Slots.reset with user := slotIn .sending, refA := slotIn .due } } }
    s.tablesCanonical = true ∧ s.listens ∧ s.rc.state ≠ .halted ∧ 0#32 &&& 11#32 = 0#32 ∧
      s.br.openCount = 0 := by decide +kernel

theorem witness_RecoverReturnsToHalted :
    (let s := inRun .faulted;
      s.listens ∧ s.rc.state = .faulted ∧ 0#32 &&& 7#32 = 0#32 ∧ s.lg.entries = []) ∧
    ({ inRun .faulted with lg := { Ledger.reset with entries := [item81] } } : State).lg.entries ≠ [] := by decide

theorem witness_CountersCountAndWrap :
    let s := { State.reset with counters := [(0x54, 0xFFFFFFFF#32)] }
    (s.tablesCanonical = true ∧ s.counter .polls = 0xFFFFFFFF#32) ∧ (ready.listens ∧ ready.port.txn = none ∧ 115 < 116 ∧
      0x473#14 = 0x400#14 + BitVec.ofNat 14 115 ∧ 0x573#14 = 0x500#14 + BitVec.ofNat 14 115) := by decide +kernel

theorem witness_SnapshotCopiesEveryCounter :
    ready.listens ∧ 0#32 &&& 0x1E#32 = 0#32 ∧ 2#32 &&& 0x1E#32 = 2#32 := by decide

theorem witness_ShadowsChangeOnlyAtSnapshot :
    exec .indexEdge State.reset = .next (State.reset.arrive .index) ∧ (actionWord (.snapshot 0#32)).any (bit · 0) = true ∧
      (actionWord (.deviceReset 0#32)).any (bit · 4) = true ∧ actionWord .flush = none ∧
      (actionWord (.clearCounters 0#32)).any (bit · 0) = false :=
  ⟨rfl, by decide, by decide, rfl, by decide⟩

theorem witness_CountersAreClearedAsAsked :
    ready.listens ∧ 0#32 &&& 0x1D#32 = 0#32 ∧ counterGroups[0]? = some (0, 1) ∧ 0 < 1 ∧
      counterGroups[53]? = some (0x72, 2) ∧ 1 < 2 := by decide

theorem witness_ClearActionsEmptyTheirQueues :
    let s := fun x => { withRegs ready [(.vcFlowCfg, 1#32)] with vc := { Channel.reset with flowPaused := true, tx := x } }
    (s none).tablesCanonical = true ∧ (s none).listens ∧ 0#32 &&& 0x1B#32 = 0#32 ∧ 0#32 &&& 0x17#32 = 0#32 ∧
      (s none).swFlow = true ∧ (s none).vc.flowPaused = true ∧ (s none).vc.tx = none ∧
      (parsing (entryOf 0#8 false false) .records none).vc.parser.phase ≠ .hunting ∧
      (s (some { char := .pause, data := 0#8, bitTime := 16, left := 1 })).vc.tx ≠ none ∧ ready.swFlow = false := by
  decide +kernel

theorem witness_EventsDriveTheInterrupt :
    let s := { withRegs ready [(.rcEventEnable, 0x80002#32)] with rc := { RunControl.reset with flags := 0x80000#32 } }
    s.tablesCanonical = true ∧ s.listens ∧ s.port.installLock = false ∧ bit s.rc.flags 0 = false ∧
      s.topCause = 19 ∧ (1 ≤ 1 ∧ 19 ≤ 19) := by decide +kernel

theorem witness_RequestsAreSetAndCancelled : ready.listens := by decide

theorem witness_UserCommandsAreRequested :
    let s := fun x => withSlots ready { Slots.reset with user := slotIn x }
    (s .idle).listens ∧ ((s .idle).slot .user).state = .idle ∧ ((s .armed).slot .user).state = .armed ∧
      ((s .due).slot .user).state = .due ∧
      (((s .sending).slot .user).state = .sending ∧ ((s .sending).slot .user).rerequest = false) ∧
      (let r := withSlots ready { Slots.reset with user := { Slot.idle with state := .sending, rerequest := true } };
        (r.slot .user).state = .sending ∧ (r.slot .user).rerequest = true) := by decide

theorem witness_ReferenceSlotsAreCancelled :
    let s := fun x => withSlots ready { Slots.reset with refC := slotIn x }
    (s .idle).listens ∧ ((s .armed).slot (refSlot .c)).state = .armed ∧
      ((s .guarding).slot (refSlot .c)).state = .guarding ∧ ((s .due).slot (refSlot .c)).state = .due := by decide

theorem witness_FlushClosesTheOpenBatch :
    ready.listens ∧ ready.br.openCount = 0 ∧
    (let s := routed (routes false false false) { Routing.reset with openCount := 1, uses := 1 };
      s.br.openCount ≠ 0 ∧ s.routeVeto s.br.pointer = false ∧ s.br.uses + 1 < s.routeShare s.br.pointer) ∧
    (let s := routed (routes false true false) { Routing.reset with openCount := 1, uses := 2 };
      s.routeVeto s.br.pointer = false ∧ s.routeShare s.br.pointer ≤ s.br.uses + 1 ∧ 1 < s.routeCount ∧
        (∀ j < 1, s.routeVeto ((s.br.pointer + 1 + j) % s.routeCount) = true) ∧
        s.routeVeto ((s.br.pointer + 1 + 1) % s.routeCount) = false) ∧
    (let s := routed (routes true true false) { Routing.reset with openCount := 1 };
      s.routeVeto s.br.pointer = true ∧ 1 < s.routeCount ∧
        (∀ j < 1, s.routeVeto ((s.br.pointer + 1 + j) % s.routeCount) = true) ∧
        s.routeVeto ((s.br.pointer + 1 + 1) % s.routeCount) = false ∧
        1 < s.routeShare ((s.br.pointer + 1 + 1) % s.routeCount)) ∧
    (let s := routed (routes true true true) { Routing.reset with openCount := 1 };
      s.routeVeto s.br.pointer = true ∧
        ∀ j < s.routeCount, s.routeVeto ((s.br.pointer + 1 + j) % s.routeCount) = true) ∧
    (let s := routed [(0, 0x8200#32), (1, 0x100#32), (2, 0x8100#32)] { Routing.reset with openCount := 1 };
      s.routeVeto s.br.pointer = true ∧ s.routeVeto ((s.br.pointer + 1 + 0) % s.routeCount) = false ∧
        s.routeShare 1 ≤ 1 ∧ 2 < s.routeCount ∧
        (∀ i < 2, s.routeVeto ((1 + 1 + i) % s.routeCount) = true) ∧
        s.routeVeto ((1 + 1 + 2) % s.routeCount) = false) := by decide +kernel

/-- R154 and R155: a vetoed entry gives way to entry 1, whose share of a single batch is used up at once, so that the
pointer moves on, past the vetoed entry 2 and 0, to entry 1 again; the message names entry 1. -/
theorem test_a_share_of_one_is_used_up_at_once :
    let s := routed [(0, 0x8200#32), (1, 0x107#32), (2, 0x8100#32)] { Routing.reset with openCount := 5 }
    let t := s.closeBatch false 5
    t.br.pointer = 1 ∧ t.br.uses = 0 ∧ t.sl.routeQ = [[7#8, 0#8, 5#8, 0#8, 1#8, 0#8]] := by decide +kernel

theorem witness_LineSettingsTakeEffect :
    ready.tablesCanonical = true ∧ ready.listens ∧ ready.port.installLock = false := by decide +kernel

theorem witness_ChannelSettingsTakeEffect :
    ready.tablesCanonical = true ∧ ready.listens ∧ ready.rc.state = .halted := by decide +kernel

theorem witness_RecognisedInputsAreSettled :
    let debt := fun n a => { ready with lp := { Line.reset with debt := n, acc := a, genTimer := some 5 } }
    (withRegs ready [(.lpCfg, 1#32)]).sourceInternal = true ∧ (debt 65533 0).sourceInternal = false ∧
      (debt 65533 0).lp.debt < 65534 ∧ (debt 65534 0).lp.debt = 65534 ∧ (debt 65535 0).lp.debt = 65535 ∧
      1 < (debt 2 0).lp.debt ∧ (debt 1 0).lp.debt = 1 ∧ ((debt 0 3).lp.debt = 0 ∧ (debt 0 3).lp.acc < 4) ∧
      4 ≤ (debt 0 4).lp.acc ∧ (debt 0 0).lp.genTimer = some 5 ∧ ready.lp.genTimer = none ∧ ready.rc.state = .halted ∧
      (let s := withRegs (inRun .running) [(.csCfg, 1#32)]; s.senseIntake = true ∧ s.rc.state = .running) := by
  decide +kernel

theorem witness_FaultsAreEntered :
    let s := fun x n => { withRegs (inRun x) [(.rcFaultMask, 0x7C#32)] with
      br := { Routing.reset with openCount := n }, sl := { Link.reset with routeQ := List.replicate 8 [] } }
    ready.flagOf .rcFaultMask Event.lineAnomaly.num = false ∧
      (s .faulted 0).flagOf .rcFaultMask Event.stationLost.num = true ∧ (s .faulted 0).rc.state = .faulted ∧
      ((s .running 0).rc.state = .running ∧ (s .running 0).br.openCount = 0) ∧
      ((s .draining 1).rc.state = .draining ∧ (s .draining 1).br.openCount ≠ 0) := by decide +kernel

theorem witness_TimersExpire :
    let s := { ready with
      lp := { Line.reset with stallTimer := some 0 }, sl := { Link.reset with pollTimer := some 0 }
      ad := { Admission.reset with modelD := { occ := 1, drain := some 0, hold := true } }
      gd := { Gate.reset with rejLeft := 1 }
      vc := { Channel.reset with
        silence := some 0, tx := some { char := .pause, data := 0#8, bitTime := 16, left := 0 }
        waiting := some .resume } }
    (s.lp.stallTimer = some 0 ∧ s.vc.silence = some 0 ∧ s.sl.pollTimer = some 0 ∧ s.vc.waiting = some .resume ∧
      s.vc.tx = some { char := .pause, data := 0#8, bitTime := 16, left := 0 } ∧ s.gd.rejLeft = 1 ∧ s.gd.divLeft ≠ 1 ∧
      (s.model .d).drain = some 0 ∧ (s.model .a).drain = none) ∧
    ({ s with gd := { Gate.reset with divLeft := 1 } } : State).gd.divLeft = 1 ∧
    ready.lp.stallTimer = none ∧ ready.vc.silence = none ∧ ready.sl.pollTimer = none ∧ ready.vc.tx = none ∧
      ready.vc.waiting = none ∧ ready.gd.rejLeft ≠ 1 := by decide +kernel

theorem witness_CycleStartsAndMissingIndices :
    (let s := { withRegs ready [(.lpCycleLen, 16#32), (.csRefEnable, 1#32)] with
        lp := { Line.reset with cycleIndex := 15 } };
      s.tablesCanonical = true ∧ s.cycleLen ≤ s.lp.cycleIndex + 1 ∧
        (s.refEnabled .a && (s.lp.cycleNumber + 1#16).toNat % s.periodOf (refCfg .a) == 0 || s.refRequest .a) = true ∧
        (s.refEnabled .b && (s.lp.cycleNumber + 1#16).toNat % s.periodOf (refCfg .b) == 0 || s.refRequest .b) = false ∧
        (s.ref .a).state = .idle ∧ s.sq.sr.state = .idle ∧ s.sq.fr.state = .idle ∧
        (s.slot (refSlot .a)).state = .idle) ∧
    (let s := { withRegs ready [(.lpCycleLen, 16#32), (.csRefEnable, 1#32)] with
        lp := { Line.reset with cycleIndex := 15 }
        cs := { Sources.reset with refA := { Reference.idle with state := .pending } } };
      (s.refEnabled .a && (s.lp.cycleNumber + 1#16).toNat % s.periodOf (refCfg .a) == 0 || s.refRequest .a) = true ∧
        (s.ref .a).state ≠ .idle) ∧
    (let s := { withRegs ready [(.lpCycleLen, 16#32)] with lp := { Line.reset with cycleIndex := 14 } };
      s.lp.cycleIndex + 1 < s.cycleLen ∧ s.indexUse = false) ∧
    (let s := { withRegs ready [(.lpCycleLen, 4096#32), (.lpCfg, 2#32), (.lpIndexTol, 4095#32)] with
        lp := { Line.reset with sinceIndex := 8190 } };
      s.sourceInternal = false ∧ s.indexUse = true ∧ s.lp.indexPending = false ∧
        s.lp.sinceIndex + 1 = s.cycleLen + s.indexTol ∧ s.rc.deferred = []) ∧
    (let s := fun i => { withRegs ready [(.lpCycleLen, 17#32), (.lpCfg, 6#32), (.lpIndexPos, 17#32)] with
        lp := { Line.reset with cycleIndex := i, indexPending := true } };
      (s 8).sourceInternal = false ∧ (s 8).indexUse = true ∧ (s 8).lp.indexPending = true ∧
        (s 8).lp.cycleIndex ≠ (s 8).expectedIndex ∧ (s 0).lp.cycleIndex = (s 0).expectedIndex ∧ 0 < (s 8).cycleLen ∧
        (s 8).realigns = true ∧ (s 8).expectedIndex = 0 ∧ ready.realigns = false ∧
        (withRegs ready [(.lpCycleLen, 17#32), (.lpIndexPos, 18#32)]).expectedIndex ≠ 0) ∧
    (withRegs ready [(.lpCfg, 1#32)]).sourceInternal = true ∧
    ((withSlots ready { Slots.reset with refA := slotIn .sending }).slot (refSlot .a)).state = .sending ∧
    ((withSlots ready { Slots.reset with refA := slotIn .due }).slot (refSlot .a)).state = .due := by decide +kernel

/-- R25 and R27: with P = 17 a count 9 past the expected value 0 gives d = 9 > 8, so the offset is -8, and Realign makes
a cycle start; one of 8 stays 8. -/
theorem test_a_mismatch_is_recorded_with_its_sign :
    let s := fun i => (({ withRegs ready [(.lpCycleLen, 17#32), (.lpCfg, 6#32), (.lpIndexPos, 17#32)] with
      lp := { Line.reset with cycleIndex := i, indexPending := true } } : State).stepTwo false)
    (s 9).lp.phaseOffset = 0xFFF8#16 ∧ (s 8).lp.phaseOffset = 8#16 ∧ (s 9).lp.phaseKind = .mismatch ∧
      (s 9).lp.cycleIndex = 0 ∧ (s 9).lp.cycleNumber = 1#16 ∧ (s 9).counter .phaseErrors = 1#32 ∧
      (s 9).rc.flags = 8#32 := by decide +kernel

theorem witness_DueSourcesPropose :
    let e : RingEntry := { due := 0xFFFFFFFF#32, marked := false, window := none, decided := false }
    let f : RingEntry := { due := 1#32, marked := false, window := none, decided := false }
    let s := { ready with cs := { Sources.reset with
      ring := [f, e], bracket := some { next := 0#32, left := 1, step := 3 }
      refB := { Reference.idle with state := .pending, capture := 0#32 } } }
    (s.cs.ring = [f] ++ e :: [] ∧ (∀ x ∈ [f], reached s.lp.travel x.due = false) ∧ reached s.lp.travel e.due = true) ∧
      (∀ x ∈ ready.cs.ring, reached ready.lp.travel x.due = false) ∧ ready.cs.bracket = none ∧
      s.cs.bracket = some { next := 0#32, left := 1, step := 3 } ∧ reached s.lp.travel 0#32 = true ∧
      reached s.lp.travel 1#32 = false ∧ ((s.ref .b).state = .pending ∧ reached s.lp.travel (s.ref .b).capture = true) ∧
      ((s.ref .a).due = false ∧ (s.ref .a).state ≠ .pending) ∧ ((s.refMark .b).ref .b).due = true := by decide +kernel

theorem witness_RunsAndBurstsStart :
    let e : RingEntry := { due := 6#32, marked := true, window := some 0#32, decided := false }
    let s := { withRegs ready [(.csBracketWidth, 2#32), (.csPerEnable, 1#32)] with
      cs := { Sources.reset with ring := [e] } }
    let b := { s with cs := { s.cs with bracket := some { next := 9#32, left := 1, step := 1 }, p1Left := 1 } }
    (s.cs.ring = [] ++ e :: [] ∧ e.window = some 0#32 ∧ e.decided = false ∧ reached s.lp.travel 0#32 = true ∧
      s.cs.bracket = none ∧ b.cs.bracket ≠ none) ∧
    (∀ x ∈ ready.cs.ring, opensWindow ready.lp.travel x = false) ∧
    ((s.lp.cycleIndex == s.anchorOf (perCfg .p1) &&
        (s.perEnabled .p1 && s.lp.cycleNumber.toNat % s.periodOf (perCfg .p1) == 0 || s.perRequest .p1)) = true ∧
      s.burstLeft .p1 = 0 ∧ s.sq.sr.state = .idle ∧ s.sq.fr.state = .idle ∧ b.burstLeft .p1 ≠ 0) ∧
    (s.lp.cycleIndex == s.anchorOf (perCfg .p2) &&
        (s.perEnabled .p2 && s.lp.cycleNumber.toNat % s.periodOf (perCfg .p2) == 0 || s.perRequest .p2)) = false := by
  decide +kernel

theorem witness_PositionEventsAdvanceTheLine :
    (let s := { withRegs ready [(.lpCfg, 6#32)] with lp := { Line.reset with acc := 1, indexPending := true } };
      s.lp.acc ≠ 0 ∧ s.sourceInternal = false ∧ s.indexUse = true ∧ s.lp.indexPending = true ∧ s.realigns = true) ∧
      ready.lp.acc = 0 ∧ ready.indexUse = false ∧
    (let e : RingEntry := { due := 1000#32, marked := false, window := none, decided := false };
      let s := fun n => { withRegs (inRun .running)
          [(.csCfg, 1#32), (.csSenseDelay, 4#32), (.csBracketWidth, 2#32), (.csBracketStep, 3#32)] with
        lp := { Line.reset with travel := 1000#32 }, pins := { lowPins with mark := true }
        cs := { Sources.reset with sensePending := true, ring := List.replicate n e } };
      (s 31).cs.sensePending = true ∧ (s 31).senseIntake = true ∧ (s 31).rc.state = .running ∧
        (s 31).cs.ring.length < 32 ∧ 32 ≤ (s 32).cs.ring.length ∧ ready.senseIntake = false ∧
        (s 31).cs.ring = (s 31).cs.ring ++ [] ∧ (∀ y ∈ (s 31).cs.ring, later y.due 1004#32 = false) ∧
        1004#32 = (s 31).lp.travel + BitVec.ofNat 32 (s 31).senseDelay ∧
        998#32 = 1004#32 - BitVec.ofNat 32 ((s 31).bracketWidth * (s 31).bracketStep) ∧
        later (s 31).lp.travel 998#32 = true ∧
        1 = (List.range (2 * (s 31).bracketWidth + 1)).countP fun k =>
          later (s 31).lp.travel (998#32 + BitVec.ofNat 32 (k * (s 31).bracketStep))) ∧
    (ready.patternEnabled = false ∧ ready.randomEnabled = false ∧ ready.cs.captureNow = false ∧
      (withRegs ready [(.csPatternEnable, 1#32)]).patternEnabled = true) ∧
    (let s := { withRegs ready [(.csRandomEnable, 1#32)] with
        cs := { Sources.reset with sample := 1#32, audit := 0x80000000#32, captureNow := true } };
      s.randomEnabled = true ∧ s.cs.captureNow = true ∧
        (∀ n < 32, 0 < n → bit 3#32 n = bit s.cs.sample (n - 1) ∧ bit 1#32 n = bit s.cs.audit (n - 1)) ∧
        bit 3#32 0 = (bit s.cs.sample 31 ^^ bit s.cs.sample 21 ^^ bit s.cs.sample 1 ^^ bit s.cs.sample 0) ∧
        bit 1#32 0 = (bit s.cs.audit 31 ^^ bit s.cs.audit 21 ^^ bit s.cs.audit 1 ^^ bit s.cs.audit 0)) := by
  decide +kernel

theorem witness_ProposalsAndHoldsAreEvaluated :
    (({ ready with candidates := [sensorCandidate] } : State).proposal ≠ none ∧ ready.candidates = []) ∧
    (let h := { inRun .faulted with ad := { Admission.reset with quotaCount := 0xFFFFFFFF#32 } };
      h.tablesCanonical = true ∧ (List.replicate 19 true).length = 19 ∧ h.rc.deferred = [] ∧ h.rc.state ≠ .draining ∧
        h.br.openCount = 0 ∧ 0xFFFFFFFF#32 = (if true = true ∧ h.ad.quotaCount ≠ 0xFFFFFFFF#32 then h.ad.quotaCount + 1#32
          else h.ad.quotaCount) ∧ (18 < 19 ∧ 19 ≤ 30 ∧ 30 < 31)) ∧
    (let d := inRun .draining;
      d.rc.deferred = [] ∧ d.rc.state = .draining ∧ d.br.openCount = 0 ∧ d.lg.entries = [] ∧ d.cs.ring = [] ∧
        d.cs.sensePending = false ∧ d.sl.tagQ = [] ∧ d.sl.routeQ = []) ∧
    (({ inRun .draining with lg := { Ledger.reset with entries := [item81] } } : State).lg.entries ≠ []) ∧
    (let f := fun n => { ready with
        br := { Routing.reset with openCount := 1 }, sl := { Link.reset with routeQ := List.replicate n [] }
        rc := { RunControl.reset with state := .running, deferred := [.phaseError, .blindItem] } };
      (f 7).rc.deferred = .phaseError :: [.blindItem] ∧ (f 7).br.openCount ≠ 0 ∧ (f 8).br.openCount ≠ 0) := by
  decide +kernel

theorem witness_AdmissionsAreHandedOn :
    let s := { withRegs (inRun .running) [(.brBatch, 1#32)] with
      candidates := [sensorCandidate]
      ad := { Admission.reset with
        modelA := { occ := 62, drain := some 1, hold := false }, modelB := { occ := 63, drain := some 1, hold := true } } }
    (s.proposal = some { cls := .sensor, mask := 3#4, item := true, audit := false, expects := true } ∧
      s.globalHold = false ∧ inMask 3#4 .a = true ∧ inMask 3#4 .c = false ∧ (s.model .a).occ < 63 ∧ 63 ≤ (s.model .b).occ ∧
      s.br.openCount + 1 = s.batchSize) ∧ ready.br.openCount + 1 ≠ ready.batchSize := by
  decide +kernel

/-- R109: the admission of an item that waits for a verdict starts the watchdog from 0, and with VC_SILENCE_MS 0 it does
not run. -/
theorem test_an_admission_starts_the_watchdog :
    let s := fun ms => ({ withRegs (inRun .running) [(.vcSilenceMs, ms)] with
      candidates := [sensorCandidate] } : State).stepSeven.vc.silence
    s 5#32 = some 0 ∧ s 0#32 = none := by decide +kernel

/-- R69 and R152: the K-th admission closes the batch with count K, without the flush bit, and a model that reaches HIGH
holds. -/
theorem test_the_kth_admission_closes_the_batch :
    let s := ({ withRegs (inRun .running) [(.brBatch, 2#32), (.adModelaCfg, 0x00430000#32)] with
      candidates := [sensorCandidate], br := { Routing.reset with openCount := 1 }
      ad := { Admission.reset with modelA := { occ := 2, drain := some 1, hold := false }, epoch := 5#4 } } :
      State).stepSeven
    s.br.openCount = 0 ∧ s.br.batchNo = 1#8 ∧ s.sl.routeQ.map (·.drop 1) = [[0#8, 2#8, 0#8, 0#8, 5#8]] ∧
      s.ad.modelA.occ = 3 ∧ s.ad.modelA.hold = true := by decide +kernel

theorem witness_HeldProposalsKeepTheirItems :
    let s := fun c n => { ready with
      candidates := [c], lg := { Ledger.reset with entries := List.replicate n item81 } }
    ((s sensorCandidate 511).proposal =
        some { cls := .sensor, mask := 3#4, item := true, audit := false, expects := true } ∧
      (s sensorCandidate 511).globalHold = true ∧ (s sensorCandidate 511).lg.entries.length < 512) ∧
    512 ≤ (s sensorCandidate 512).lg.entries.length ∧
    (s { sensorCandidate with cls := .host, item := false } 0).proposal =
      some { cls := .host, mask := 3#4, item := false, audit := false, expects := false } := by decide +kernel

theorem witness_RetirementsAreDispatched :
    let s := { withRegs (inRun .running) [(.gdNoticeEn, 1#32)] with
      lp := { Line.reset with travel := 5300#32 }
      lg := { Ledger.reset with
        entries := [{ item81 with gateTravel := 5301#32 }, item81]
        window := List.replicate 32 { ident := { epoch := 0#4, itemId := 0#24 }, outcome := .pass } }
      sl := { Link.reset with noticeQ := List.replicate 31 [] } }
    (s.lg.entries = [{ item81 with gateTravel := 5301#32 }] ++ item81 :: [] ∧
      (∀ x ∈ [{ item81 with gateTravel := 5301#32 }], reached s.lp.travel x.gateTravel = false) ∧
      reached s.lp.travel item81.gateTravel = true ∧ (.reject, .default) = s.decideOutcome item81 ∧
      item81.ident = some { epoch := 2#4, itemId := 81#24 } ∧ item81.expects = true ∧ s.noticesEnabled = true ∧
      s.sl.noticeQ.length < 32) ∧
    (∀ x ∈ ready.lg.entries, reached ready.lp.travel x.gateTravel = false) ∧
    s.decideOutcome { item81 with verdict := some { code := .divert, detail := 0#8, outOfOrder := false } } =
      (.divert, .verdict) ∧ s.decideOutcome { item81 with item := false } = (.none, .aux) ∧ s.tablesCanonical = true := by
  decide +kernel

theorem witness_OutcomesAreDecided :
    item81.item = true ∧ ({ item81 with item := false } : Entry).item = false ∧
      (∀ n < 4, (withRegs ready [(.gdOverride, BitVec.ofNat 32 n), (.gdUncapturedPolicy, BitVec.ofNat 32 n),
        (.gdDefaultPolicy, BitVec.ofNat 32 n)]).fieldOf .gdOverride 0 2 = n ∧
        (withRegs ready [(.gdDefaultPolicy, BitVec.ofNat 32 n)]).fieldOf .gdDefaultPolicy 0 2 = n) ∧
      ({ item81 with ident := none } : Entry).ident = none ∧ item81.ident = some { epoch := 2#4, itemId := 81#24 } ∧
      item81.verdict = none := by decide +kernel

theorem witness_RecordsAreClassified :
    let id : Ident := { epoch := 2#4, itemId := 81#24 }
    let w : WindowRecord := { ident := id, outcome := .reject }
    let s := fun l => { ready with lg := { Ledger.reset with entries := l, window := [w] } }
    let o := { withRegs ready [(.lgCfg, 1#32)] with lg := { Ledger.reset with entries := [{ item81 with ident := none }] } }
    ((s [item81]).tablesCanonical = true ∧ (s [item81]).ordered = false ∧
      (s [item81]).lg.entries = [] ++ item81 :: [] ∧ item81.ident = some id ∧ item81.expects = true ∧
      item81.verdict = none) ∧
    ((∀ x ∈ (s []).lg.entries, x.ident ≠ some id) ∧ (s []).lg.window.find? (fun x => x.ident == id) = some w ∧
      ready.lg.window.find? (fun x => x.ident == id) = none) ∧
    ((!o.ordered || (o.lg.entries.find? fun x => x.expects && x.verdict.isNone).map Entry.ident == some (some id)) =
      false ∧ o.seqKeep = false ∧ (withRegs ready [(.lgCfg, 2#32)]).seqKeep = true) ∧
    (3 < (15#4 : BitVec 4).toNat ∧ (List.replicate 17 0).length = 17) ∧
    (let r : VerdictRecord := { epoch := 2#4, itemId := 81#24, code := 1#4, detail := 0#8 };
      1 ≤ (List.replicate 1 r).length ∧ (List.replicate 15 r).length < 16) := by decide +kernel

theorem witness_CharactersAreReceived :
    let f := fun n => List.replicate n (entryOf 0#8 false false)
    let s := fun n x => { withRegs ready [(.vcCfg, 2#32)] with vc := { Channel.reset with fifo := f n, flowPaused := x } }
    let p := fun x r => { withRegs ready [(.vcCfg, 2#32), (.vcFlowCfg, 3#32), (.vcFlowLevels, 0#32)] with
      vc := { Channel.reset with fifo := f 255, flowPaused := x, resend := r } }
    (let x : Reception :=
        { bitTime := 2, gap := true, left := 1, confirmed := true, bits := List.replicate 9 false };
      let r : Receiver := { last := some true, char := some x };
      Receiver.fresh.char = none ∧ r.char = some x ∧ x.left ≤ 1 ∧ x.confirmed = true ∧
        x.bits = [false, false, false, false, false, false, false, false, false] ∧
        (Reception.begun 16 false).left = 8 ∧ (Reception.begun 16 false).confirmed = false) ∧
    ((s 255 false).vc.rx.char = none ∧ ¬ (s 255 false).gapLimit < (s 255 false).vc.idle + 0) ∧
    ((s 255 false).suspended = true ∧ (s 255 false).swFlow = false ∧ (s 255 false).hwFlow = false ∧
      (s 255 false).vc.fifo.length < 256 ∧ 256 ≤ (s 256 false).vc.fifo.length) ∧
    (ready.suspended = false ∧ ready.vc.fifo.length < 256 ∧ ready.vc.flowPaused = false) ∧
    ((p false 0).suspended = true ∧ (p false 0).swFlow = true ∧ (p false 0).hwFlow = true ∧ (p false 0).vc.stall = false ∧
      (p false 0).vc.tx = none ∧ (p false 0).upperLevel < (p false 0).vc.fifo.length + 1 ∧
      (p true 0).lowerLevel < (p true 0).vc.fifo.length + 1 ∧ (p true 0).resendK ≤ (p true 0).vc.resend + 1) ∧
    (let q := { withRegs ready [(.vcCfg, 2#32), (.vcFlowCfg, 7#32), (.vcFlowLevels, 0#32)] with
        vc := { Channel.reset with flowPaused := true, resend := 2 } };
      q.suspended = true ∧ q.lowerLevel < q.vc.fifo.length + 1 ∧ q.vc.resend + 1 < q.resendK) := by decide +kernel

theorem witness_EntriesAreParsed :
    let s := fun e p n => parsing e p n
    (ready.suspended = false ∧ ready.vc.fifo = [] ∧ ready.vc.parser.phase = .hunting ∧
      ready.vc.rx.char = none ∧
      ({ ready with vc := { Channel.reset with parser := { Parser.cleared with phase := .check } } } : State).vc.parser.phase
        ≠ .hunting) ∧
    (let x := s (entryOf 255#8 true false) .hunting none;
      x.suspended = false ∧ x.swFlow = false ∧ x.hwFlow = false ∧ x.port.txn = none ∧
        x.vc.fifo = entryOf 255#8 true false :: []) ∧
    ((entryOf 0x33#8 true false).data ≠ ready.vcAddr ∧ (entryOf 0x33#8 true false).data ≠ 255#8) ∧
    ((entryOf 16#8 false false).gap = false ∧ (entryOf 16#8 false false).marker = false ∧
      1 ≤ (entryOf 16#8 false false).data.toNat ∧ (entryOf 16#8 false false).data.toNat ≤ 16 ∧
      16 < (entryOf 17#8 false false).data.toNat ∧
      (s (entryOf 16#8 false false) .header (some 7#8)).vc.parser.seqNo = some 7#8) ∧
    ((entryOf 0#8 false true).gap = true ∧ (s (entryOf 0#8 false false) .records none).vc.parser.phase = .records) ∧
    (1 ≤ (decodeRecords [0x20#8, 0x00#8, 0x05#8, 0x11#8, 0x00#8]).length ∧
      (decodeRecords (List.replicate 80 0#8)).length ≤ 16 ∧ (List.replicate 4 (0#8 : Byte)).length < 5 ∧ (0x5F#8 : Byte) + 0xA1#8 = 0#8) := by decide +kernel

/-- A machine whose last row had a place. -/
def atPlace (p : Place) (s : State) : State := { s with sl := { s.sl with place := p } }

/-- A state at a place is one that a row of that place left after a position event. -/
theorem atPlace_arrives {p : Place} (h : p.follows .position = true) {s : State} (hs : s.sl.place = p) :
    s = (atPlace .position s).arrive p := by
  subst hs
  rw [State.arrive_follows (s := atPlace .position s) h]
  rfl

/-- A linked machine at its selection. -/
def selecting : State := atPlace .selection linked

theorem witness_AnchoredFramesStart :
    let s := fun i => { selecting with
      cs := { Sources.reset with refA := { Reference.idle with state := .requested } }
      sl := { selecting.sl with
        earlier := { Startable.none with slots := [i] }, slots := Slots.reset.put i (slotIn .due) } }
    (∀ i, s i = (atPlace .position (s i)).arrive .selection) ∧ (s .user).sl.link = .idle ∧
      (s .user).linkEnabled = true ∧ (inRun .draining).rc.state = .draining ∧
      ((s .user).slot .user).state = .due ∧ ((s .user).slot .user).waits = false ∧
      .user ∈ (s .user).sl.earlier.slots ∧ (∀ j ∈ higherSlots .user, ((s .user).slot j).state ≠ .due) ∧
      ((s .cycleMark).slot .cycleMark).state = .due ∧ ((s .fullReset).slot .fullReset).state = .due ∧
      ((s .stationReset).slot .stationReset).state = .due ∧
      (((s .refA).slot (refSlot .a)).state = .due ∧ ((s .refA).ref .a).state = .requested ∧
        ((s .refA).ref .a).cancelled = false ∧ (s .refA).sq.sr.state = .idle ∧ (s .refA).sq.fr.state = .idle) ∧
      ({ selecting with rc := { RunControl.reset with countRestart := true } } : State).rc.countRestart = true :=
  ⟨fun _ => atPlace_arrives rfl rfl, by decide +kernel⟩

theorem witness_FreeFramesStartInOrder :
    (∀ s, s.sl.place = .selection → s = (atPlace .position s).arrive .selection) ∧
    ((atPlace .selection ready).linkEnabled = false ∧ selecting.linkEnabled = true ∧ selecting.sl.link = .idle) ∧
    (∀ i, (selecting.slot i).state ≠ .due) ∧ (∀ i, (selecting.slot i).state ≠ .guarding) ∧
    (∃ i, ((withSlots selecting { Slots.reset with user := slotIn .guarding }).slot i).state = .guarding) ∧
    (let s := withSlots selecting { Slots.reset with user := { slotIn .due with waits := true } };
      (s.slot .user).state = .due ∧ (s.slot .user).waits = true ∧ s.startableNow.slots = [] ∧
        (∀ i ∈ s.sl.earlier.slots, (s.slot i).state ≠ .due)) ∧
    (let e := ({ selecting with sl := { selecting.sl with earlier :=
        { slots := [], route := true, tag := true, notice := true } } } : State).sl.earlier;
      e.route = true ∧ e.tag = true ∧ e.notice = true) ∧
    (selecting.sl.earlier.route = false ∧ selecting.sl.earlier.tag = false ∧ selecting.sl.earlier.notice = false) ∧
    (let s := { selecting with sl := { selecting.sl with routeQ := [[1#8]], tagQ := [[2#8]], noticeQ := [[3#8]] } };
      s.sl.routeQ = [1#8] :: [] ∧ s.sl.tagQ = [2#8] :: [] ∧ s.sl.noticeQ = [3#8] :: []) ∧
    (selecting.sl.routeQ = [] ∧ selecting.sl.tagQ = [] ∧ selecting.sl.noticeQ = [] ∧ selecting.sl.pollDue = false ∧
      (∀ b < 16, selecting.sl.lastPolled < b → selecting.pollable selecting.sl.turn b = false) ∧
      (∀ b < selecting.sl.lastPolled + 1, 1 ≤ b → selecting.pollable ((selecting.sl.turn + 1) % 16) b = false)) ∧
    (let s := { selecting with sl := { selecting.sl with
        pollDue := true, lastPolled := 15, turn := 15
        stations := { Station.zero with state := .absent } :: List.replicate 14 Station.zero } };
      s.sl.pollDue = true ∧ 1 ≤ 1 ∧ 1 ≤ s.sl.lastPolled ∧ 0 = (s.sl.turn + 1) % 16 ∧ s.pollable 0 1 = true ∧
        (∀ b < 16, s.sl.lastPolled < b → s.pollable s.sl.turn b = false) ∧
        (∀ b < 1, 1 ≤ b → s.pollable 0 b = false)) ∧
    (let s := { selecting with sl := { selecting.sl with
        pollDue := true, lastPolled := 14, turn := 3
        stations := List.replicate 14 Station.zero ++ [{ Station.zero with state := .unknown }] } };
      s.sl.lastPolled < 15 ∧ s.pollable s.sl.turn 15 = true ∧
        (∀ b < 15, s.sl.lastPolled < b → s.pollable s.sl.turn b = false)) := by
  refine ⟨fun _ h => atPlace_arrives rfl h, by decide +kernel,
    fun i => by cases i <;> decide +kernel, fun i => by cases i <;> decide +kernel,
    ⟨.user, by decide +kernel⟩, by decide +kernel, by decide +kernel, by decide +kernel, by decide +kernel,
    by decide +kernel, by decide +kernel, by decide +kernel⟩

theorem witness_FramesAndSpacingEnd :
    (let s := { linked with sl := { Link.reset with
        link := .sending, frame := some { kind := 9#4, addr := 1#4, payload := [] }
        slots := { Slots.reset with user := slotIn .sending } } };
      s.sl.link = .sending ∧ s.sl.frame.map Frame.kind = some 9#4 ∧ (s.slot .user).state = .sending ∧
        (s.slot .refA).state ≠ .sending ∧ s.sl.link ≠ .spacing) ∧
    linked.sl.frame.map Frame.kind ≠ some 9#4 ∧
    ({ linked with sl := { Link.reset with link := .spacing } } : State).sl.link = .spacing ∧
    linked.sl.link ≠ .sending := by decide +kernel

theorem witness_PollMissesAreCharged :
    let h := replyChar 0xA1#8 true
    let z := replyChar 0#8 false
    let s := fun (r : List LineChar) x m d => { linked with sl := { Link.reset with
      place := .linkEnd, link := .reply, polled := 1, reply := r, discard := d
      stations := { Station.zero with state := x, misses := m } :: List.replicate 14 Station.zero } }
    (∀ (p : Place) (s : State), p.follows .position = true → s.sl.place = p → s = (atPlace .position s).arrive p) ∧
      Place.linkEnd.follows .position = true ∧ (s [] .present 0 false).sl.place = .linkEnd ∧
      (atPlace .linkEnd linked).sl.link ≠ .reply ∧ (s [] .present 0 false).sl.rx.char = none ∧
      (s [] .present 0 false).sl.left = 0 ∧
      ((s [] .present 0 false).sl.reply = [] ∧ (s [h] .present 0 false).sl.reply ≠ []) ∧
      replyFault 1 0#8 h z z z = some 6 ∧ (s [] .present 0 true).sl.discard = true ∧
      (((s [] .present 0 false).station 0).missed (s [] .present 0 false).retry).state ≠ .absent ∧
      (((s [] .suspect 2 false).station 0).missed (s [] .suspect 2 false).retry).state = .absent ∧
      (((s [] .unknown 2 false).station 0).missed (s [] .unknown 2 false).retry).state = .absent ∧
      ((s [] .absent 15 false).station 0).state = .absent :=
  ⟨fun _ _ h hs => atPlace_arrives h hs, by decide +kernel⟩

theorem witness_StatusRepliesAreJudged :
    let h := replyChar 0xA1#8 true
    let a := replyChar 0x40#8 false
    let b := replyChar 0#8 false
    let k := replyChar 0x1F#8 false
    let s := fun r => { linked with sl := { Link.reset with place := .linkEnd, link := .reply, polled := 1, reply := r } }
    (∀ (p : Place) (s : State), p.follows .position = true → s.sl.place = p → s = (atPlace .position s).arrive p) ∧
    (Place.linkChar.follows .position = true ∧ (s [h, a]).sl.place = .linkEnd) ∧
    ((s [h, a]).sl.link = .reply ∧ (s [h, a]).sl.reply.length < 3 ∧
      (s [h, a, b]).sl.reply = [h, a, b] ∧ (s [h, a, b]).sl.discard = false ∧
      replyFault (s [h, a, b]).sl.polled (s [h, a, b]).sl.pollSent h a b k = none) ∧
    (atPlace .linkChar linked).sl.link = .idle ∧
    (atPlace .linkChar { linked with sl := { Link.reset with link := .sending } }).sl.link = .sending :=
  ⟨fun _ _ h hs => atPlace_arrives h hs, by decide +kernel⟩

theorem witness_SlotsFollowTheCycleIndex :
    let s := fun i x y => { withSlots (withRegs linked [(.slGuard, 4#32), (.slUserAnchor, 4#32)])
        ((Slots.reset.put .refC y).put i x) with lp := { Line.reset with cycleIndex := 4 } }
    let o := fun i x y => { s i x y with lp := Line.reset }
    ((s .user (slotIn .guarding) Slot.idle).tablesCanonical = true ∧
      (s .user (slotIn .guarding) Slot.idle).lp.cycleIndex = (s .user (slotIn .guarding) Slot.idle).slotAnchor .user ∧
      (s .user (slotIn .guarding) Slot.idle).lp.cycleIndex ≠ (s .user (slotIn .guarding) Slot.idle).slotOpening .user ∧
      (∀ k ∈ higherSlots .user, ((s .user (slotIn .guarding) Slot.idle).slot k).state ≠ .guarding ∧
        ((s .user (slotIn .guarding) Slot.idle).slot k).state ≠ .due ∧
        ((s .user (slotIn .guarding) Slot.idle).slot k).state ≠ .sending)) ∧
    ((o .user (slotIn .armed) Slot.idle).lp.cycleIndex = (o .user (slotIn .armed) Slot.idle).slotOpening .user ∧
      (o .user (slotIn .armed) Slot.idle).lp.cycleIndex ≠ (o .user (slotIn .armed) Slot.idle).slotAnchor .user ∧
      ((o .user (slotIn .armed) Slot.idle).slot .user).state = .armed) ∧
    ((higherSlots .user).any fun k =>
      ((s .user (slotIn .guarding) (slotIn .due)).slot k).state == .guarding ||
        ((s .user (slotIn .guarding) (slotIn .due)).slot k).state == .due ||
        ((s .user (slotIn .guarding) (slotIn .due)).slot k).state == .sending) = true ∧
    (((s .user { Slot.idle with state := .armed, again := true } Slot.idle).slot .user).again = true ∧
      ((s .user { Slot.idle with state := .sending, openingPassed := true } Slot.idle).slot .user).openingPassed = true) ∧
    (let c := { withSlots (withRegs linked [(.slMarkAnchor, 12#32), (.slGuard, 8#32)])
        { Slots.reset with cycleMark := slotIn .sending } with lp := { Line.reset with cycleIndex := 4 } };
      c.lp.cycleIndex = c.slotOpening .cycleMark ∧ (c.slot .cycleMark).state = .sending ∧ c.linkEnabled = true) := by
  decide +kernel

theorem witness_SequencesStart :
    let s := { ready with
      sq := { Sequences.reset with demandSr := true, demandFr := true }
      cs := { Sources.reset with
        refA := { Reference.idle with state := .pending }, refB := { Reference.idle with state := .requested }
        refC := { Reference.idle with state := .requested } }
      sl := { Link.reset with slots := { Slots.reset with refB := slotIn .guarding, refC := slotIn .due } } }
    (s.tablesCanonical = true ∧ s.sq.demandFr = true ∧ s.sq.demandSr = true ∧ s.sq.fr.state = .idle ∧
      s.sq.sr.state = .idle ∧ s.lp.cycleIndex = s.seqStart .full ∧ s.lp.cycleIndex = s.seqStart .station ∧
      s.rc.state = .halted) ∧
    ((s.ref .a).state = .pending ∧ (s.ref .b).state = .requested ∧ (s.slot (refSlot .b)).state = .guarding ∧
      (s.ref .c).state = .requested ∧ (s.slot (refSlot .c)).state = .due) ∧
    ready.sq.demandFr = false ∧ ready.sq.demandSr = false ∧ ready.fieldOf .sqSrPeriod 0 16 = 0 ∧
    (let p := { withRegs ready [(.sqSrPeriod, 7#32)] with lp := { Line.reset with cycleNumber := 14#16 } };
      p.fieldOf .sqSrPeriod 0 16 ≠ 0 ∧ p.lp.cycleIndex = p.seqStart .station ∧
        p.lp.cycleNumber.toNat % p.fieldOf .sqSrPeriod 0 16 = 0) ∧
    ({ ready with sq := { Sequences.reset with sr := { state := .quiescing, count := 0 } } } : State).sq.sr.state ≠ .idle :=
  by decide +kernel

theorem witness_SequencesAndDrainsEnd :
    let s := fun x n => { inRun .draining with sq := { Sequences.reset with sr := { state := x, count := n } } }
    (((s .quiescing 64).seq .station).state = .quiescing ∧
      (s .quiescing 64).seqQuiesce .station ≤ ((s .quiescing 64).seq .station).count ∧
      ((s .quiescing 64).slot (seqSlot .station)).state = .idle) ∧
    ((withSlots (s .quiescing 64) { Slots.reset with stationReset := slotIn .sending }).slot (seqSlot .station)).state =
      .sending ∧
    ((withSlots (s .quiescing 64) { Slots.reset with stationReset := slotIn .due }).slot (seqSlot .station)).state =
      .due ∧
    ((s .quiescing 63).seq .station).count < (s .quiescing 63).seqQuiesce .station + (s .quiescing 63).seqExtra .station ∧
    ((s .recovering 32).seqRecover .station ≤ ((s .recovering 32).seq .station).count ∧
      ((s .recovering 31).seq .station).count < (s .recovering 31).seqRecover .station) ∧
    (let d := inRun .draining;
      d.rc.state = .draining ∧ d.lg.entries = [] ∧ d.cs.ring = [] ∧ d.cs.sensePending = false ∧ d.sl.tagQ = [] ∧
        d.sl.routeQ = []) ∧ ready.rc.state ≠ .draining ∧
    (let t := { s .recovering 131071 with
        sq := { Sequences.reset with sr := { state := .recovering, count := 131071 } } };
      t.seq .station = { (s .recovering 131071).seq .station with
        count := min 131071 (((s .recovering 131071).seq .station).count + 1) }) := by decide +kernel

theorem witness_TravelAndIdentityAreKept :
    exec .readinessEnd State.reset = .next ready ∧
    (let s := fun n => { ready with lp := { Line.reset with acc := 1 }, clk := { divider := 0, sincePosition := n } };
      (s 39).pending = [] ∧ (true = (decide ((s 39).lp.acc ≠ 0) && decide (39 ≤ (s 39).clk.sincePosition))) ∧
        (false = (decide ((s 38).lp.acc ≠ 0) && decide (39 ≤ (s 38).clk.sincePosition))) ∧
        step (s 39) = .next (s 39).tick) :=
  ⟨rfl, rfl, by decide, by decide, rfl⟩

theorem witness_StepsKeepTheCapacities :
    let s := { State.reset with pending := [.readinessEnd] }
    s.tablesCanonical = true ∧ s.withinCapacity ∧ step s = .next ready :=
  ⟨by decide +kernel, by refine ⟨?_, ?_, ?_, ?_, ?_, ?_, ?_, ?_, ?_, ?_, ?_, ?_⟩ <;> decide, rfl⟩

theorem witness_StepsKeepTheExclusions :
    let s := { State.reset with pending := [.readinessEnd] }
    s.gatesExclusive ∧ s.uncapturedReady ∧ s.dueAlone ∧ s.receiverHeld ∧ step s = .next ready := by
  refine ⟨Or.inl rfl, ?_, ⟨?_, ?_, ?_⟩, fun _ => rfl, rfl⟩
  · intro e he; cases he
  · intro i hi; cases i <;> cases hi
  · intro i _; cases i <;> exact ⟨rfl, rfl⟩
  · intro i hi; cases i <;> cases hi

end Sys2Proof.Tests
end

section
/-! SUPPORT. Holding at step 7 (section 4.6, R57, R68, R75): what `holdBack` does in each of its three cases, what
step 7 does to a held proposal, and that every proposal outside Running is held. -/

namespace Sys2Proof.Machine

/-- The last hold source of section 4.3, always enabled: outside Running the global hold is active (R57). -/
theorem State.globalHold_of_not_running {s : State} (h : s.rc.state ≠ .running) : s.globalHold = true := by
  have notRunning_mem : (s.rc.state != .running, true) ∈ s.activeHolds.zip s.holdEnables :=
    List.mem_of_getElem? (i := 18) rfl
  exact List.any_eq_true.mpr ⟨_, notRunning_mem, by simpa using h⟩

section
variable {s : State} {p : Proposal}

/-- A held proposal that is no item is counted, and nothing else (R68). -/
theorem State.holdBack_of_no_item (hi : p.item = false) : s.holdBack p = s.bump (.held p.cls) := by
  simp [State.holdBack, hi]

/-- The Uncaptured entry of an item: it has no identity and no group, and expects no verdict (R75). -/
theorem State.newLedgerEntry_uncaptured (hi : p.item = true) : s.newLedgerEntry p none =
    { ident := none, cls := p.cls, item := true, audit := p.audit, expects := false, captureTravel := s.lp.travel
      cycleLow := s.lp.cycleNumber.extractLsb' 0 8, gateTravel := s.lp.travel + BitVec.ofNat 32 s.gateDistance
      mask := 0#4, lane := s.pins.lane, verdict := none } := by
  simp [State.newLedgerEntry, hi]

/-- A held item leaves an Uncaptured entry where the ledger has room (R68, R75). -/
theorem State.holdBack_of_room (hi : p.item = true) (hr : s.lg.entries.length < 512) :
    s.holdBack p = (s.bump (.held p.cls)).appendEntry (s.newLedgerEntry p none) := by
  have room : (s.bump (.held p.cls)).lg.entries.length < Config.ledger := by simpa [Config.ledger] using hr
  unfold State.holdBack
  rw [if_pos hi, if_pos room]
  rfl

/-- A held item that finds the ledger full is a blind item: it is counted and raised, and leaves no entry (R68). -/
theorem State.holdBack_of_full (hi : p.item = true) (hf : 512 ≤ s.lg.entries.length) :
    s.holdBack p = { (s.bump (.held p.cls)).bump .gateBlind with rc := s.noted .blindItem } := by
  have full : ¬ (s.bump (.held p.cls)).lg.entries.length < Config.ledger := by simpa [Config.ledger] using hf
  unfold State.holdBack
  rw [if_pos hi, if_neg full, State.raiseInEvent_eq]
  rfl

/-- Step 7 of a held proposal: the candidates are used up, the proposal is held back, and the silence watchdog runs where
its three conditions hold on the ledger as it was (R57, R75, R109). -/
theorem State.stepSeven_of_held (hp : s.proposal = some p) (hh : s.globalHold = true) :
    s.stepSeven = { ({ s with candidates := [] } : State).holdBack p with
      vc := { s.vc with silence :=
        if s.silenceMs = 0 ∨ s.awaiting = 0 ∨ s.vc.silent = true then none else some (s.vc.silence.getD 0) } } := by
  have seven : s.stepSeven = (({ s with candidates := [] } : State).holdBack p).refreshSilence := by
    simp [State.stepSeven, hp, hh]
  have timer := State.stepSeven_vc hp
  rw [State.stepSeven_awaiting_held hp hh] at timer
  rw [← timer, seven]
  rfl

end

/-- Settles O43: step 7 performs `holdBack`, whose three cases are those of the statement. -/
theorem heldProposalsKeepTheirItems : Obligations.HeldProposalsKeepTheirItems := by
  intro s t p
  refine ⟨State.globalHold_of_not_running, fun hp hh ht => ?_⟩
  rw [ht, State.stepSeven_of_held hp hh]
  refine ⟨fun noItem => ?_, fun item room => ?_, fun item full => ?_⟩
  · rw [State.holdBack_of_no_item noItem]
    rfl
  · rw [State.holdBack_of_room (s := { s with candidates := [] }) item room, State.newLedgerEntry_uncaptured item]
    rfl
  · rw [State.holdBack_of_full (s := { s with candidates := [] }) item full]
    rfl

end Sys2Proof.Machine
end

section
/-! SUPPORT. Start and Recover (chapter 12, R167, R168, R171): what a word to RC_COMMAND does, said once; the command
that a word with START or RECOVER alone performs; Start's checks, as a list and as the model's chain of tests; and what
Start in Halted and Recover in Faulted do in each of their cases. -/

namespace Sys2Proof.Machine

/-- A command word takes effect where it is written, and beside it the open transaction moves on (R5, R167). -/
theorem State.hostWrite_command {s : State} (v : Word) (h : s.listens) : s.hostWrite Reg.rcCommand.address v =
    { (s.wordBegun Reg.rcCommand.address).command v with port := (s.wordDone Reg.rcCommand.address).port } := by
  have here : s.burstAddr Reg.rcCommand.address v = Reg.rcCommand.address :=
    State.burstAddr_eq _ _ _ (.inl (by decide))
  have performs : (s.wordBegun Reg.rcCommand.address).applyWord .rcCommand v s.rc.resetArmed =
      (s.wordBegun Reg.rcCommand.address).command v := rfl
  have port_kept : ((s.wordBegun Reg.rcCommand.address).command v).port = (s.wordBegun Reg.rcCommand.address).port := by
    simp
  rw [State.hostWrite_eq s .rcCommand v h rfl (by decide) (State.fieldFault_free s _ v rfl rfl) here
    (by rw [performs, port_kept]), performs, port_kept]
  rfl

/-- A word has none of the bits of a mask that it does not meet. -/
theorem bit_eq_false_of_and_eq_zero {o m : Word} {i : Nat} (h : o &&& m = 0#32) (hm : bit m i = true) :
    bit o i = false := by
  have both : (bit o i && bit m i) = false := by
    simpa [bit] using congrArg (bit · i) h
  simpa [hm] using both

theorem bit_or (v w : Word) (i : Nat) : bit (v ||| w) i = (bit v i || bit w i) := BitVec.getLsbD_or

/-- A word with START as its only command bit (R167). -/
theorem State.command_start (s : State) {o : Word} (h : o &&& 14#32 = 0#32) : s.command (o ||| 1#32) = s.start := by
  have h1 : bit o 1 = false := bit_eq_false_of_and_eq_zero h rfl
  have h2 : bit o 2 = false := bit_eq_false_of_and_eq_zero h rfl
  have h3 : bit o 3 = false := bit_eq_false_of_and_eq_zero h rfl
  simp [State.command, bit_or, h1, h2, h3, show bit 1#32 0 = true from rfl, show bit 1#32 1 = false from rfl,
    show bit 1#32 2 = false from rfl, show bit 1#32 3 = false from rfl]

/-- A word with RECOVER as its only command bit (R167). -/
theorem State.command_recover (s : State) {o : Word} (h : o &&& 7#32 = 0#32) :
    s.command (o ||| 8#32) = s.recover := by
  have h0 : bit o 0 = false := bit_eq_false_of_and_eq_zero h rfl
  have h1 : bit o 1 = false := bit_eq_false_of_and_eq_zero h rfl
  have h2 : bit o 2 = false := bit_eq_false_of_and_eq_zero h rfl
  simp [State.command, bit_or, h0, h1, h2, show bit 8#32 0 = false from rfl, show bit 8#32 1 = false from rfl,
    show bit 8#32 2 = false from rfl, show bit 8#32 3 = true from rfl]

/-- The START row at a port that listens. -/
theorem exec_start {s : State} {o : Word} (h : s.listens) (ho : o &&& 14#32 = 0#32) : exec (.start o) s = .next
    { (s.wordBegun Reg.rcCommand.address).start with port := (s.wordDone Reg.rcCommand.address).port } := by
  rw [← State.command_start _ ho, ← State.hostWrite_command _ h]
  rfl

/-- The RECOVER row at a port that listens. -/
theorem exec_recover {s : State} {o : Word} (h : s.listens) (ho : o &&& 7#32 = 0#32) : exec (.recover o) s = .next
    { (s.wordBegun Reg.rcCommand.address).recover with port := (s.wordDone Reg.rcCommand.address).port } := by
  rw [← State.command_recover _ ho, ← State.hostWrite_command _ h]
  rfl

/-- The position of the first failing check, counted from `n`, by the first check of the list. -/
theorem map_findIdx?_id_cons (b : Bool) (l : List Bool) (n : Nat) : ((b :: l).findIdx? id).map (· + n) =
    if b = true then some n else (l.findIdx? id).map (· + (n + 1)) := by
  cases b with
  | true => simp [List.findIdx?_cons]
  | false => simp [List.findIdx?_cons, Function.comp_def, Nat.add_assoc, Nat.add_comm 1 n]

/-- FIELD of a failing Start is the number of its first failing check, counted from 1 (R168). -/
theorem State.startFault_eq (s : State) : s.startFault = (s.startChecks.findIdx? id).map (· + 1) := by
  simp only [State.startChecks, map_findIdx?_id_cons, List.findIdx?_nil, Option.map_none, Bool.or_eq_true,
    Bool.not_eq_true', decide_eq_true_eq, decide_eq_false_iff_not, not_lt]
  rfl

/-- A named command refused (R167). -/
theorem State.refuseCommand_nameCommand (s : State) (cmd : Nat) (why : CommandRefusal) :
    (s.nameCommand cmd).refuseCommand why = s.commandRefused cmd why.reason why.field := rfl

section
variable {s : State}

/-- Start in Halted with a failing check (R168). -/
theorem State.start_of_startFault {f : Nat} (hs : s.rc.state = .halted) (hf : s.startFault = some f) :
    s.start = s.commandRefused 0 2 f := by
  have named : (s.nameCommand 0).startFault = some f := hf
  have halted : (s.nameCommand 0).rc.state = .halted := hs
  simp only [State.start, halted, named]
  exact State.refuseCommand_nameCommand s 0 (.badConfig f)

/-- Start in Halted with no failing check (R168). -/
theorem State.start_of_valid (hs : s.rc.state = .halted) (hf : s.startFault = none) :
    s.start = (s.nameCommand 0).acceptCommand.startRun := by
  have named : (s.nameCommand 0).startFault = none := hf
  have halted : (s.nameCommand 0).rc.state = .halted := hs
  simp only [State.start, halted, named]

/-- Recover in Faulted with an empty ledger (R171). -/
theorem State.recover_of_empty (hs : s.rc.state = .faulted) (hl : s.lg.entries = []) :
    s.recover = (s.nameCommand 3).acceptCommand.setRun .halted := by
  have faulted : (s.nameCommand 3).rc.state = .faulted := hs
  simp [State.recover, faulted, hl]

/-- Recover in Faulted with entries in the ledger (R171). -/
theorem State.recover_of_entries (hs : s.rc.state = .faulted) (hl : s.lg.entries ≠ []) :
    s.recover = s.commandRefused 3 3 0 := by
  have faulted : (s.nameCommand 3).rc.state = .faulted := hs
  simp [State.recover, faulted, hl, State.refuseCommand_nameCommand, CommandRefusal.reason, CommandRefusal.field]

end

/-- Settles O18: the model's chain of tests finds the first failing check of the list, and an accepted Start is
`startRun`, whose definition is the rebasing stated. -/
theorem startValidatesThenRebases : Obligations.StartValidatesThenRebases := by
  rintro s d o listens halted only_start rfl
  rw [exec_start listens only_start]
  refine ⟨fun k failing => ?_, fun passing => ?_⟩
  · have fault : s.startFault = some (k + 1) := by simp [State.startFault_eq, failing]
    rw [State.start_of_startFault (s := s.wordBegun _) halted fault]
    rfl
  · have valid : s.startFault = none := by simp [State.startFault_eq, passing]
    rw [State.start_of_valid (s := s.wordBegun _) halted valid]
    rfl

/-- Settles O21: Recover's two cases in Faulted, by whether the ledger is empty. -/
theorem recoverReturnsToHalted : Obligations.RecoverReturnsToHalted := by
  rintro s d o listens faulted only_recover rfl
  rw [exec_recover listens only_recover]
  refine ⟨fun empty => ?_, fun entries => ⟨_, rfl, ?_⟩⟩
  · rw [State.recover_of_empty (s := s.wordBegun _) faulted empty]
    rfl
  · rw [State.recover_of_entries (s := s.wordBegun _) faulted entries]
    exact ⟨faulted, rfl, rfl⟩

end Sys2Proof.Machine
end

section
/-! The proofs from here on are elaborated one after another: side by side they need more threads, and with
them more memory, than the check allows. -/

set_option Elab.async false

section
/-! SUPPORT. What every step keeps (section 1.5 and the capacities; R75, R116, R125, R139, R141, R142), as one relation
between two states, so that the operations are gone through once for both invariants. This part: the relation, and the
operations that write the memories, the queues, the ledger, the log, the receivers and the slots. -/

namespace Sys2Proof.Machine

/-- The memories are canonical and every list is within its capacity. -/
def State.bounded (s : State) : Prop := s.tablesCanonical = true ∧ s.withinCapacity

/-- The gate lines, the Uncaptured entries, the Due slot and the link's receiver are as the rules have them. -/
def State.exclusive (s : State) : Prop := s.gatesExclusive ∧ s.uncapturedReady ∧ s.dueAlone ∧ s.receiverHeld

/-- Whatever of the two invariants holds in one state holds in the other too. -/
def State.keeps (s t : State) : Prop := (s.bounded → t.bounded) ∧ (s.exclusive → t.exclusive)

@[simp, refl] theorem State.keeps_refl (s : State) : s.keeps s := ⟨id, id⟩

theorem State.keeps_trans {s t u : State} (h : s.keeps t) (h' : t.keeps u) : s.keeps u :=
  ⟨h'.1 ∘ h.1, h'.2 ∘ h.2⟩

theorem State.keeps_ite {s t u : State} {p : Prop} [Decidable p] :
    s.keeps (if p then t else u) ↔ (p → s.keeps t) ∧ (¬ p → s.keeps u) := by
  split <;> simp_all

/-! ### What the invariants speak of -/

/-- The memories that the canonical form is about. -/
def State.memories (s : State) : List Table := [s.regs, s.pattern, s.route, s.counters, s.shadows]

/-- The lists and counts of the capacities and the exclusions. -/
structure Held where
  acc : Nat
  ring : List RingEntry
  entries : List Entry
  window : List WindowRecord
  fifo : List FifoEntry
  vcRx : Receiver
  log : List LogRecord
  rejLeft : Nat
  divLeft : Nat
  routeQ : List (List Byte)
  tagQ : List (List Byte)
  noticeQ : List (List Byte)
  stations : List Station
  linkRx : Receiver
  link : LinkState
  slots : Slots

/-- What a state holds of them. -/
def State.held (s : State) : Held :=
  { acc := s.lp.acc, ring := s.cs.ring, entries := s.lg.entries, window := s.lg.window, fifo := s.vc.fifo,
    vcRx := s.vc.rx, log := s.gd.log, rejLeft := s.gd.rejLeft, divLeft := s.gd.divLeft, routeQ := s.sl.routeQ,
    tagQ := s.sl.tagQ, noticeQ := s.sl.noticeQ, stations := s.sl.stations, linkRx := s.sl.rx, link := s.sl.link,
    slots := s.sl.slots }

/-- One slot of the seven. -/
def Slots.at (x : Slots) (i : SlotId) : Slot :=
  match i with
  | .cycleMark => x.cycleMark
  | .fullReset => x.fullReset
  | .stationReset => x.stationReset
  | .refA => x.refA
  | .refB => x.refB
  | .refC => x.refC
  | .user => x.user

theorem State.slot_eq_at (s : State) (i : SlotId) : s.slot i = s.sl.slots.at i := by cases i <;> rfl

/-- `withinCapacity` as a property of what is held. -/
structure Held.Within (x : Held) : Prop where
  acc : x.acc ≤ 4
  ring : x.ring.length ≤ 32
  entries : x.entries.length ≤ 512
  window : x.window.length ≤ 32
  fifo : x.fifo.length ≤ 256
  log : x.log.length ≤ 128
  routeQ : x.routeQ.length ≤ 8
  tagQ : x.tagQ.length ≤ 64
  noticeQ : x.noticeQ.length ≤ 32
  stations : x.stations.length = 15
  vcRx : ∀ c ∈ x.vcRx.char, c.bits.length ≤ 9
  linkRx : ∀ c ∈ x.linkRx.char, c.bits.length ≤ 9

/-- `dueAlone` as a property of the seven slots. -/
structure Slots.Alone (x : Slots) : Prop where
  due : ∀ i, (x.at i).state = .due → ∀ j ∈ higherSlots i, (x.at j).state ≠ .due ∧ (x.at j).state ≠ .sending
  marks : ∀ i, i ≠ .cycleMark → (x.at i).openingPassed = false ∧ (x.at i).anchorPassed = false
  waits : ∀ i, (x.at i).waits = true → (x.at i).state = .due

/-- The exclusions as properties of what is held. -/
structure Held.Exclusive (x : Held) : Prop where
  gates : x.rejLeft = 0 ∨ x.divLeft = 0
  uncaptured : ∀ e ∈ x.entries, e.ident = none → e.expects = false
  slots : x.slots.Alone
  receiver : x.link = .sending → x.linkRx = Receiver.fresh

theorem State.withinCapacity_iff (s : State) : s.withinCapacity ↔ s.held.Within := by
  refine ⟨fun ⟨h1, h2, h3, h4, h5, h6, h7, h8, h9, h10, h11, h12⟩ =>
    ⟨h1, h2, h3, h4, h5, h6, h7, h8, h9, h10, h11, h12⟩,
    fun ⟨h1, h2, h3, h4, h5, h6, h7, h8, h9, h10, h11, h12⟩ => ⟨h1, h2, h3, h4, h5, h6, h7, h8, h9, h10, h11, h12⟩⟩

theorem State.dueAlone_iff (s : State) : s.dueAlone ↔ s.sl.slots.Alone := by
  simp only [State.dueAlone, State.slot_eq_at]
  exact ⟨fun ⟨h1, h2, h3⟩ => ⟨h1, h2, h3⟩, fun ⟨h1, h2, h3⟩ => ⟨h1, h2, h3⟩⟩

theorem State.exclusive_iff (s : State) : s.exclusive ↔ s.held.Exclusive := by
  simp only [State.exclusive, State.dueAlone_iff]
  exact ⟨fun ⟨h1, h2, h3, h4⟩ => ⟨h1, h2, h3, h4⟩, fun ⟨h1, h2, h3, h4⟩ => ⟨h1, h2, h3, h4⟩⟩

/-! ### Ways to keep them -/

/-- An operation that writes nothing the invariants speak of. -/
theorem State.keeps_of_same {s t u : State} (h : s.keeps t) (hm : u.memories = t.memories) (hh : u.held = t.held) :
    s.keeps u := by
  simp only [State.memories, List.cons.injEq, and_true] at hm
  refine State.keeps_trans h ⟨?_, ?_⟩
  · simp only [State.bounded, State.tablesCanonical, State.withinCapacity_iff, hm, hh]
    exact id
  · simp only [State.exclusive_iff, hh]
    exact id

/-- An operation that writes the memories alone, and keeps their form. -/
theorem State.keeps_of_tables {s t u : State} (h : s.keeps t)
    (hm : t.tablesCanonical = true → u.tablesCanonical = true) (hh : u.held = t.held) : s.keeps u := by
  refine State.keeps_trans h ⟨?_, ?_⟩
  · simp only [State.bounded, State.withinCapacity_iff, hh]
    exact And.imp_left hm
  · simp only [State.exclusive_iff, hh]
    exact id

/-- An operation that leaves the memories, and keeps what is held within capacity and exclusive. -/
theorem State.keeps_of_held {s t u : State} (h : s.keeps t) (hm : u.memories = t.memories)
    (hw : t.held.Within → u.held.Within) (he : t.held.Exclusive → u.held.Exclusive) : s.keeps u := by
  simp only [State.memories, List.cons.injEq, and_true] at hm
  refine State.keeps_trans h ⟨?_, ?_⟩
  · simp only [State.bounded, State.tablesCanonical, State.withinCapacity_iff, hm]
    exact And.imp_right hw
  · simp only [State.exclusive_iff]
    exact he

section
variable {s t : State}

/-! ### Memories -/

theorem State.tablesCanonical_iff (s : State) : s.tablesCanonical = true ↔ tableWf regReset s.regs = true ∧
    tableWf zeroDefault s.pattern = true ∧ tableWf zeroDefault s.route = true ∧
    tableWf zeroDefault s.counters = true ∧ tableWf zeroDefault s.shadows = true := by
  simp [State.tablesCanonical, and_assoc]

@[simp] theorem State.keeps_bumpBy (h : s.keeps t) (c : Ctr) (n : Nat) : s.keeps (t.bumpBy c n) := by
  refine State.keeps_of_tables h ?_ rfl
  simp only [State.tablesCanonical_iff]
  exact fun ⟨h1, h2, h3, h4, h5⟩ => ⟨h1, h2, h3, State.bumpBy_counters_wf _ _ _ h4, h5⟩

@[simp] theorem State.keeps_bump (h : s.keeps t) (c : Ctr) : s.keeps (t.bump c) := State.keeps_bumpBy h c 1

@[simp] theorem State.keeps_setReg (h : s.keeps t) (r : Reg) (v : Word) : s.keeps (t.setReg r v) := by
  refine State.keeps_of_tables h ?_ rfl
  simp only [State.tablesCanonical_iff]
  exact fun ⟨h1, h2, h3, h4, h5⟩ => ⟨State.setReg_regs_wf _ _ _ h1, h2, h3, h4, h5⟩

@[simp] theorem State.keeps_snapshot (h : s.keeps t) : s.keeps t.snapshot := by
  refine State.keeps_of_tables h ?_ rfl
  simp only [State.tablesCanonical_iff]
  exact fun ⟨h1, h2, h3, h4, _⟩ => ⟨h1, h2, h3, h4, h4⟩

@[simp] theorem State.keeps_clearCounters (h : s.keeps t) : s.keeps t.clearCounters := by
  refine State.keeps_of_tables h ?_ rfl
  simp only [State.tablesCanonical_iff]
  exact fun ⟨h1, h2, h3, _, h5⟩ => ⟨h1, h2, h3, rfl, h5⟩

@[simp] theorem State.keeps_clearGroups (h : s.keeps t) (n : Nat) (m : Word) : s.keeps (t.clearGroups n m) := by
  refine State.keeps_of_tables h ?_ rfl
  simp only [State.tablesCanonical_iff]
  exact fun ⟨h1, h2, h3, h4, h5⟩ => ⟨h1, h2, h3, tableWf_filter _ _ _ _ h4, h5⟩

theorem State.keeps_writePattern (h : s.keeps t) (i : Nat) (v : Word) :
    s.keeps { t with pattern := writeTable 0#32 t.pattern i v } := by
  refine State.keeps_of_tables h ?_ rfl
  simp only [State.tablesCanonical_iff]
  exact fun ⟨h1, h2, h3, h4, h5⟩ => ⟨h1, tableWf_writeTable zeroDefault _ i v h2, h3, h4, h5⟩

theorem State.keeps_writeRoute (h : s.keeps t) (i : Nat) (v : Word) :
    s.keeps { t with route := writeTable 0#32 t.route i v } := by
  refine State.keeps_of_tables h ?_ rfl
  simp only [State.tablesCanonical_iff]
  exact fun ⟨h1, h2, h3, h4, h5⟩ => ⟨h1, h2, tableWf_writeTable zeroDefault _ i v h3, h4, h5⟩

/-! ### Operations that write neither -/

@[simp] theorem State.keeps_raise (h : s.keeps t) (e : Event) : s.keeps (t.raise e) := State.keeps_of_same h rfl rfl

@[simp] theorem State.keeps_setRef (h : s.keeps t) (g : RefGen) (x : Reference) : s.keeps (t.setRef g x) := by
  cases g <;> exact State.keeps_of_same h rfl rfl

@[simp] theorem State.keeps_setRefRequest (h : s.keeps t) (g : RefGen) (b : Bool) : s.keeps (t.setRefRequest g b) := by
  cases g <;> exact State.keeps_of_same h rfl rfl

@[simp] theorem State.keeps_setBurstLeft (h : s.keeps t) (g : PerGen) (n : Nat) : s.keeps (t.setBurstLeft g n) := by
  cases g <;> exact State.keeps_of_same h rfl rfl

@[simp] theorem State.keeps_setPerRequest (h : s.keeps t) (g : PerGen) (b : Bool) :
    s.keeps (t.setPerRequest g b) := by
  cases g <;> exact State.keeps_of_same h rfl rfl

@[simp] theorem State.keeps_setModel (h : s.keeps t) (g : Group) (x : Model) : s.keeps (t.setModel g x) := by
  cases g <;> exact State.keeps_of_same h rfl rfl

@[simp] theorem State.keeps_setFire (h : s.keeps t) (g : Group) (x : Option Nat) : s.keeps (t.setFire g x) := by
  cases g <;> exact State.keeps_of_same h rfl rfl

@[simp] theorem State.keeps_setSeq (h : s.keeps t) (i : SeqId) (x : Sequence) : s.keeps (t.setSeq i x) := by
  cases i <;> exact State.keeps_of_same h rfl rfl

@[simp] theorem State.keeps_setSeqDemand (h : s.keeps t) (i : SeqId) (b : Bool) : s.keeps (t.setSeqDemand i b) := by
  cases i <;> exact State.keeps_of_same h rfl rfl

@[simp] theorem State.keeps_refreshSilence (h : s.keeps t) : s.keeps t.refreshSilence := State.keeps_of_same h rfl rfl

/-! ### Queues, log, ledger, ring, stations, gate lines -/

@[simp] theorem State.keeps_setStation (h : s.keeps t) (i : Nat) (x : Station) : s.keeps (t.setStation i x) :=
  State.keeps_of_held h rfl (fun w => { w with stations := by simpa [State.held] using w.stations }) fun e => { e with }

theorem length_append_le {α : Type} {l : List α} {n : Nat} (x : α) (h : l.length < n) : (l ++ [x]).length ≤ n := by
  simpa using h

@[simp] theorem State.keeps_pushRoute (h : s.keeps t) (m : List Byte) : s.keeps (t.pushRoute m) := by
  unfold State.pushRoute
  split
  · next room =>
      exact State.keeps_of_held h rfl (fun w => { w with routeQ := length_append_le m room }) fun e => { e with }
  · simp [h]

@[simp] theorem State.keeps_pushTag (h : s.keeps t) (m : List Byte) : s.keeps (t.pushTag m) := by
  unfold State.pushTag
  split
  · next room =>
      exact State.keeps_of_held h rfl (fun w => { w with tagQ := length_append_le m room }) fun e => { e with }
  · simp [h]

@[simp] theorem State.keeps_pushNotice (h : s.keeps t) (m : List Byte) : s.keeps (t.pushNotice m) := by
  unfold State.pushNotice
  split
  · next room =>
      exact State.keeps_of_held h rfl (fun w => { w with noticeQ := length_append_le m room }) fun e => { e with }
  · simp [h]

@[simp] theorem State.keeps_evalAlert (h : s.keeps t) : s.keeps t.evalAlert := by
  unfold State.evalAlert
  split
  · split
    · exact State.keeps_of_same h rfl rfl
    · exact h
  · split
    · exact State.keeps_raise (State.keeps_of_same h rfl rfl) .logAlert
    · exact h

@[simp] theorem State.keeps_appendLog (h : s.keeps t) (r : LogRecord) : s.keeps (t.appendLog r) := by
  unfold State.appendLog
  split
  · next room =>
      exact State.keeps_evalAlert
        (State.keeps_of_held h rfl (fun w => { w with log := length_append_le r room }) fun e => { e with })
  · simp [h]

@[simp] theorem State.keeps_clearLog (h : s.keeps t) : s.keeps t.clearLog :=
  State.keeps_of_held h rfl (fun w => { w with log := by simp [State.held, State.clearLog] }) fun e => { e with }

@[simp] theorem State.keeps_popLog (h : s.keeps t) (b : Bool) : s.keeps (t.popLog b) := by
  unfold State.popLog
  split
  · next hl =>
      refine State.keeps_evalAlert (State.keeps_of_held h rfl (fun w => { w with log := ?_ }) fun e => { e with })
      have fits := w.log
      simp only [State.held, hl, List.length_cons] at fits ⊢
      omega
  · exact State.keeps_of_same h rfl rfl

@[simp] theorem State.keeps_startPulse (h : s.keeps t) (o : Disposition) : s.keeps (t.startPulse o) := by
  unfold State.startPulse
  cases o with
  | none => exact h
  | pass => exact h
  | reject =>
    refine State.keeps_trans (t := if t.gd.divLeft = 0 then t else t.bump .gateOverlap)
      (by simp [State.keeps_ite, h]) ?_
    exact State.keeps_of_held (State.keeps_refl _) rfl (fun w => { w with }) fun e => { e with gates := .inr rfl }
  | divert =>
    refine State.keeps_trans (t := if t.gd.rejLeft = 0 then t else t.bump .gateOverlap)
      (by simp [State.keeps_ite, h]) ?_
    exact State.keeps_of_held (State.keeps_refl _) rfl (fun w => { w with }) fun e => { e with gates := .inl rfl }

@[simp] theorem State.keeps_countPulses (h : s.keeps t) : s.keeps t.countPulses := by
  refine State.keeps_of_held h rfl (fun w => { w with }) fun e => { e with gates := ?_ }
  have := e.gates
  simp only [State.held, State.countPulses] at this ⊢
  omega

@[simp] theorem State.keeps_endPulse (h : s.keeps t) (line : GateLine) : s.keeps (t.endPulse line) := by
  unfold State.endPulse
  cases line with
  | reject =>
    refine State.keeps_ite.mpr ⟨fun _ => ?_, fun _ => h⟩
    exact State.keeps_of_held h rfl (fun w => { w with }) fun e => { e with gates := .inl rfl }
  | divert =>
    refine State.keeps_ite.mpr ⟨fun _ => ?_, fun _ => h⟩
    exact State.keeps_of_held h rfl (fun w => { w with }) fun e => { e with gates := .inr rfl }

/-! ### Ledger and ring -/

theorem length_pushWindow_le {w : List WindowRecord} (r : WindowRecord) (h : w.length ≤ 32) :
    (pushWindow w r).length ≤ 32 := by
  have place_made : ∀ v : List WindowRecord, v.length ≤ 32 →
      (if v.length < Config.window then v else v.drop 1).length < 32 := by
    intro v hv
    split
    · assumption
    · rw [List.length_drop]
      omega
  exact length_append_le r (place_made _ ((List.length_filter_le _ _).trans h))

theorem mem_of_takeFirst {α : Type} {p : α → Bool} {l rest : List α} {x : α} (h : takeFirst p l = some (x, rest)) :
    rest.length ≤ l.length ∧ ∀ y ∈ rest, y ∈ l := by
  induction l generalizing rest with
  | nil => simp [takeFirst] at h
  | cons a l ih =>
    simp only [takeFirst] at h
    split at h
    · simp only [Option.some.injEq, Prod.mk.injEq] at h
      obtain ⟨-, rfl⟩ := h
      exact ⟨by simp, fun y hy => List.mem_cons_of_mem _ hy⟩
    · simp only [Option.map_eq_some_iff, Prod.mk.injEq, Prod.exists] at h
      obtain ⟨y, rest', taken, rfl, rfl⟩ := h
      obtain ⟨shorter, among⟩ := ih taken
      refine ⟨by simpa using shorter, fun z hz => ?_⟩
      rcases List.mem_cons.mp hz with rfl | hz
      · simp
      · exact List.mem_cons_of_mem _ (among z hz)

theorem length_updateFirst {α : Type} (p : α → Bool) (f : α → α) (l : List α) :
    (updateFirst p f l).length = l.length := by
  induction l with
  | nil => rfl
  | cons a l ih =>
    simp only [updateFirst]
    split <;> simp [ih]

theorem mem_updateFirst {α : Type} {p : α → Bool} {f : α → α} {l : List α} {y : α} (h : y ∈ updateFirst p f l) :
    y ∈ l ∨ ∃ x ∈ l, y = f x := by
  induction l with
  | nil => simp [updateFirst] at h
  | cons a l ih =>
    simp only [updateFirst] at h
    split at h
    · rcases List.mem_cons.mp h with rfl | h
      · exact .inr ⟨a, by simp, rfl⟩
      · exact .inl (by simp [h])
    · rcases List.mem_cons.mp h with rfl | h
      · exact .inl (by simp)
      · rcases ih h with h | ⟨x, hx, rfl⟩
        · exact .inl (by simp [h])
        · exact .inr ⟨x, by simp [hx], rfl⟩

theorem length_insertRing (e : RingEntry) (l : List RingEntry) : (insertRing e l).length = l.length + 1 := by
  induction l with
  | nil => rfl
  | cons a l ih =>
    simp only [insertRing]
    split <;> simp [ih]

/-- Every Uncaptured entry that `newLedgerEntry` makes expects no verdict (R75). -/
theorem State.newLedgerEntry_expects (s : State) (p : Proposal) (id : Option Ident) :
    (s.newLedgerEntry p id).ident = none → (s.newLedgerEntry p id).expects = false := by
  cases id <;> simp [State.newLedgerEntry]

theorem State.keeps_appendEntry (h : s.keeps t) (e : Entry) (room : t.lg.entries.length < 512)
    (quiet : e.ident = none → e.expects = false) : s.keeps (t.appendEntry e) := by
  refine State.keeps_of_held h rfl (fun w => { w with entries := length_append_le e room }) fun x =>
    { x with uncaptured := fun y hy => ?_ }
  rcases List.mem_append.mp hy with old | new
  · exact x.uncaptured y old
  · rw [List.mem_singleton.mp new]
    exact quiet

@[simp] theorem State.keeps_abandonAll_end (h : s.keeps t) :
    s.keeps { t with lg := { t.lg with entries := [], high := false } } :=
  State.keeps_of_held h rfl (fun w => { w with entries := by simp [State.held] }) fun e =>
    { e with uncaptured := by simp [State.held] }

theorem State.keeps_clearWindow (h : s.keeps t) : s.keeps { t with lg := { t.lg with window := [] } } :=
  State.keeps_of_held h rfl (fun w => { w with window := by simp [State.held] }) fun e => { e with }

@[simp] theorem State.keeps_checkReuse (h : s.keeps t) (id : Ident) : s.keeps (t.checkReuse id) := by
  unfold State.checkReuse
  refine State.keeps_ite.mpr ⟨fun _ => State.keeps_bump ?_ .idReuse, fun _ => h⟩
  exact State.keeps_of_held h rfl
    (fun w => { w with window := (List.length_filter_le _ _).trans w.window }) fun e => { e with }

@[simp] theorem State.keeps_storeVerdict (h : s.keeps t) (id : Ident) (v : Verdict) :
    s.keeps (t.storeVerdict id v) := by
  unfold State.storeVerdict
  refine State.keeps_bump ?_ .matched
  refine State.keeps_of_held h rfl (fun w => { w with entries := ?_ }) fun x => { x with uncaptured := fun y hy => ?_ }
  · exact (length_updateFirst _ _ _).trans_le w.entries
  · rcases mem_updateFirst hy with old | ⟨e, old, rfl⟩
    · exact x.uncaptured y old
    · exact x.uncaptured e old

@[simp] theorem State.keeps_rebase (h : s.keeps t) : s.keeps t.rebase := by
  refine State.keeps_of_held h rfl (fun w => { w with
    ring := (List.length_map _).trans_le w.ring
    entries := (List.length_map _).trans_le w.entries }) fun x => { x with uncaptured := fun y hy => ?_ }
  obtain ⟨e, old, rfl⟩ := List.mem_map.mp hy
  exact x.uncaptured e old

/-- An operation on the ring that does not make it longer. -/
theorem State.keeps_ring (h : s.keeps t) {l : List RingEntry} {c : Sources} (hc : c.ring = l)
    (hl : t.cs.ring.length ≤ 32 → l.length ≤ 32) : s.keeps { t with cs := c } :=
  State.keeps_of_held h rfl (fun w => { w with ring := by simpa [State.held, hc] using hl w.ring }) fun e => { e with }

/-! ### The accumulator and the receivers -/

theorem State.keeps_acc (h : s.keeps t) {x : Line} (hx : t.lp.acc ≤ 4 → x.acc ≤ 4) : s.keeps { t with lp := x } :=
  State.keeps_of_held h rfl (fun w => { w with acc := hx w.acc }) fun e => { e with }

/-- A change of the channel that leaves its receiver, its FIFO not growing. -/
theorem State.keeps_channel (h : s.keeps t) {x : Channel} (hf : t.vc.fifo.length ≤ 256 → x.fifo.length ≤ 256)
    (hr : (∀ c ∈ t.vc.rx.char, c.bits.length ≤ 9) → ∀ c ∈ x.rx.char, c.bits.length ≤ 9) :
    s.keeps { t with vc := x } :=
  State.keeps_of_held h rfl (fun w => { w with fifo := hf w.fifo, vcRx := hr w.vcRx }) fun e => { e with }

/-- A receiver at an edge holds at most nine bits of the character under way (R90). -/
theorem Receiver.edge_bits (r : Receiver) (level : Bool) (n : Nat) (gap : Bool)
    (h : ∀ c ∈ r.char, c.bits.length ≤ 9) : ∀ c ∈ (r.edge level n gap).1.char, c.bits.length ≤ 9 := by
  unfold Receiver.edge
  cases hr : r.char with
  | none =>
    simp only
    split <;> simp [Reception.begun]
  | some c =>
    have bits := h c (by simp [hr])
    simp only [Reception.sample]
    split
    · simpa using bits
    · split
      · split
        · next room => simpa using room
        · simp
      · split <;> simp [bits]

theorem Receiver.rested_bits (level : Bool) : ∀ c ∈ (Receiver.rested level).char, c.bits.length ≤ 9 := by
  simp [Receiver.rested]

/-! ### The slots -/

theorem Slots.at_put_self (x : Slots) (i : SlotId) (y : Slot) : (x.put i y).at i = y := by cases i <;> rfl

theorem Slots.at_put_other {i j : SlotId} (x : Slots) (y : Slot) (h : j ≠ i) : (x.put i y).at j = x.at j := by
  cases i <;> cases j <;> first | rfl | exact absurd rfl h

/-- A slot replaced keeps the slots exclusive, when it does not become Due, nor Sending below a Due slot, its marks are
those of the Cycle Mark alone and it waits only where it is Due. -/
theorem Slots.Alone.put {x : Slots} (h : x.Alone) {i : SlotId} {y : Slot}
    (due : y.state = .due → (x.at i).state = .due ∨ i = .cycleMark ∧ (x.at i).state = .sending)
    (sending : y.state = .sending → (x.at i).state = .sending)
    (marks : i ≠ .cycleMark → y.openingPassed = false ∧ y.anchorPassed = false)
    (waits : y.waits = true → y.state = .due) : (x.put i y).Alone where
  due j hj k hk := by
    have apart : k ≠ j := fun e => not_mem_higherSlots j (e ▸ hk)
    rcases eq_or_ne j i with rfl | hji
    · rw [Slots.at_put_self] at hj
      rw [Slots.at_put_other x y apart]
      rcases due hj with hd | ⟨rfl, -⟩
      · exact h.due j hd k hk
      · simp [higherSlots, allSlots] at hk
    · rw [Slots.at_put_other x y hji] at hj
      obtain ⟨notDue, notSending⟩ := h.due j hj k hk
      rcases eq_or_ne k i with rfl | hki
      · rw [Slots.at_put_self]
        refine ⟨fun hd => ?_, fun hs => notSending (sending hs)⟩
        rcases due hd with hd | ⟨-, hs⟩
        · exact notDue hd
        · exact notSending hs
      · rw [Slots.at_put_other x y hki]
        exact ⟨notDue, notSending⟩
  marks j hj := by
    rcases eq_or_ne j i with rfl | hji
    · rw [Slots.at_put_self]
      exact marks hj
    · rw [Slots.at_put_other x y hji]
      exact h.marks j hj
  waits j hj := by
    rcases eq_or_ne j i with rfl | hji
    · rw [Slots.at_put_self] at hj ⊢
      exact waits hj
    · rw [Slots.at_put_other x y hji] at hj ⊢
      exact h.waits j hj

/-- A slot that is not Due waits for nothing. -/
theorem Slots.Alone.waits_eq_false {x : Slots} (h : x.Alone) {i : SlotId} (hn : (x.at i).state ≠ .due) :
    (x.at i).waits = false := by
  by_contra hw
  exact hn (h.waits i (by simpa using hw))

/-- Slots replaced, as long as they stay exclusive. -/
theorem State.keeps_slots (h : s.keeps t) {x : Slots} (hx : t.sl.slots.Alone → x.Alone) :
    s.keeps { t with sl := { t.sl with slots := x } } :=
  State.keeps_of_held h rfl (fun w => { w with }) fun e => { e with slots := hx e.slots }

theorem State.keeps_setSlot (h : s.keeps t) {i : SlotId} {y : Slot}
    (due : (i ≠ .cycleMark → (t.slot i).anchorPassed = false) → y.state = .due →
      (t.slot i).state = .due ∨ i = .cycleMark ∧ (t.slot i).state = .sending)
    (sending : y.state = .sending → (t.slot i).state = .sending)
    (marks : i ≠ .cycleMark → (t.slot i).openingPassed = false → (t.slot i).anchorPassed = false →
      y.openingPassed = false ∧ y.anchorPassed = false)
    (waits : ((t.slot i).state ≠ .due → (t.slot i).waits = false) → y.waits = true → y.state = .due) :
    s.keeps (t.setSlot i y) := by
  simp only [State.slot_eq_at] at due sending marks waits
  exact State.keeps_slots h fun x =>
    x.put (due fun hi => (x.marks i hi).2) sending (fun hi => marks hi (x.marks i hi).1 (x.marks i hi).2)
    (waits x.waits_eq_false)

end
end Sys2Proof.Machine
end

section
/-! SUPPORT. What every step keeps, through every operation: the blocks, in the order of the model's files. -/

namespace Sys2Proof.Machine

section
variable {s t : State}

/-! ### Blocks of which the invariants speak not at all, or in one field -/

theorem State.keeps_port (h : s.keeps t) (x : Port) : s.keeps { t with port := x } := State.keeps_of_same h rfl rfl
theorem State.keeps_clk (h : s.keeps t) (x : Clock) : s.keeps { t with clk := x } := State.keeps_of_same h rfl rfl
theorem State.keeps_ad (h : s.keeps t) (x : Admission) : s.keeps { t with ad := x } := State.keeps_of_same h rfl rfl
theorem State.keeps_br (h : s.keeps t) (x : Routing) : s.keeps { t with br := x } := State.keeps_of_same h rfl rfl
theorem State.keeps_sq (h : s.keeps t) (x : Sequences) : s.keeps { t with sq := x } := State.keeps_of_same h rfl rfl
theorem State.keeps_rc (h : s.keeps t) (x : RunControl) : s.keeps { t with rc := x } := State.keeps_of_same h rfl rfl
theorem State.keeps_candidates (h : s.keeps t) (x : List Candidate) : s.keeps { t with candidates := x } :=
  State.keeps_of_same h rfl rfl
theorem State.keeps_freeCount (h : s.keeps t) (x : Nat) : s.keeps { t with freeCount := x } :=
  State.keeps_of_same h rfl rfl

theorem State.keeps_lp (h : s.keeps t) {x : Line} (hx : x.acc = t.lp.acc) : s.keeps { t with lp := x } :=
  State.keeps_acc h fun w => hx.trans_le w

theorem State.keeps_cs (h : s.keeps t) {x : Sources} (hx : x.ring = t.cs.ring) : s.keeps { t with cs := x } :=
  State.keeps_ring h hx id

theorem State.keeps_vc (h : s.keeps t) {x : Channel} (hf : x.fifo = t.vc.fifo) (hr : x.rx = t.vc.rx) :
    s.keeps { t with vc := x } :=
  State.keeps_channel h (fun w => hf ▸ w) fun w => hr ▸ w

/-- A change of the link that leaves its queues, stations and slots, and its receiver held while it sends. -/
theorem State.keeps_sl (h : s.keeps t) {x : Link}
    (hq : x.routeQ = t.sl.routeQ ∧ x.tagQ = t.sl.tagQ ∧ x.noticeQ = t.sl.noticeQ)
    (hs : x.stations = t.sl.stations ∧ x.slots = t.sl.slots)
    (hb : (∀ c ∈ t.sl.rx.char, c.bits.length ≤ 9) → ∀ c ∈ x.rx.char, c.bits.length ≤ 9)
    (hr : (t.sl.link = .sending → t.sl.rx = Receiver.fresh) → x.link = .sending → x.rx = Receiver.fresh) :
    s.keeps { t with sl := x } := by
  obtain ⟨hq1, hq2, hq3⟩ := hq
  obtain ⟨hs1, hs2⟩ := hs
  refine State.keeps_of_held h rfl (fun w => ?_) fun e => ?_
  · exact { w with
      routeQ := (congrArg List.length hq1).trans_le w.routeQ
      tagQ := (congrArg List.length hq2).trans_le w.tagQ
      noticeQ := (congrArg List.length hq3).trans_le w.noticeQ
      stations := (congrArg List.length hs1).trans w.stations
      linkRx := hb w.linkRx }
  · exact { e with slots := (congrArg Slots.Alone hs2).mpr e.slots, receiver := hr e.receiver }

theorem State.keeps_either {u : State} (p : Prop) [Decidable p] (ht : s.keeps t) (hu : s.keeps u) :
    s.keeps (if p then t else u) :=
  State.keeps_ite.mpr ⟨fun _ => ht, fun _ => hu⟩

theorem State.keeps_foldl {α : Type} {f : State → α → State}
    (hf : ∀ {u : State} (_ : s.keeps u) (a : α), s.keeps (f u a))
    (h : s.keeps t) (l : List α) : s.keeps (l.foldl f t) := by
  induction l generalizing t with
  | nil => exact h
  | cons a l ih => exact ih (hf h a)

theorem State.keeps_iterate {f : State → State} (hf : ∀ {u : State}, s.keeps u → s.keeps (f u)) (h : s.keeps t)
    (n : Nat) : s.keeps (iterate f n t) := by
  induction n generalizing t with
  | zero => exact h
  | succ n ih => exact ih (hf h)

@[simp] theorem State.keeps_useRoute (h : s.keeps t) : s.keeps t.useRoute := by
  unfold State.useRoute
  split <;> simp [State.keeps_ite, h, ↓State.keeps_br]

@[simp] theorem State.keeps_closeBatch (h : s.keeps t) (flush : Bool) (count : Nat) :
    s.keeps (t.closeBatch flush count) := by
  unfold State.closeBatch
  dsimp only
  split
  · split
    · exact keeps_pushRoute (keeps_raise (keeps_bump (keeps_bump (keeps_br h _) _) _) _) _
    · exact keeps_pushRoute (keeps_useRoute (keeps_br (keeps_bump (keeps_br h _) _) _)) _
  · exact keeps_pushRoute (keeps_useRoute (keeps_bump (keeps_br h _) _)) _

@[simp] theorem State.keeps_flushRoute (h : s.keeps t) : s.keeps t.flushRoute := by
  simp [State.flushRoute, State.keeps_ite, h]

@[simp] theorem State.keeps_countIntoBatch (h : s.keeps t) (epoch : BitVec 4) : s.keeps (t.countIntoBatch epoch) := by
  simp [State.countIntoBatch, State.keeps_ite, h, ↓State.keeps_br]

@[simp] theorem State.keeps_resetRouting (h : s.keeps t) : s.keeps t.resetRouting := by
  unfold State.resetRouting
  exact State.keeps_of_same h rfl rfl

@[simp] theorem State.keeps_enterFault (h : s.keeps t) (first : Event) (all : List Event) :
    s.keeps (t.enterFault first all) := by
  unfold State.enterFault
  exact keeps_flushRoute (keeps_raise (keeps_rc h _) _)

@[simp] theorem State.keeps_addCause (h : s.keeps t) (e : Event) : s.keeps (t.addCause e) := by
  unfold State.addCause
  exact State.keeps_of_same h rfl rfl

@[simp] theorem State.keeps_raiseFault (h : s.keeps t) (e : Event) : s.keeps (t.raiseFault e) := by
  unfold State.raiseFault
  refine keeps_ite.mpr ⟨fun _ => ?_, fun _ => keeps_raise h e⟩
  split <;> simp [h]

@[simp] theorem State.keeps_raiseInEvent (h : s.keeps t) (e : Event) : s.keeps (t.raiseInEvent e) := by
  unfold State.raiseInEvent
  dsimp only
  (repeat' split) <;> simp [h, ↓State.keeps_rc]

@[simp] theorem State.keeps_settleFaults (h : s.keeps t) : s.keeps t.settleFaults := by
  unfold State.settleFaults
  split <;> simp [h, ↓State.keeps_rc]

@[simp] theorem State.keeps_drainedTest (h : s.keeps t) : s.keeps t.drainedTest := by
  simp [State.drainedTest, State.keeps_ite, h, ↓State.keeps_rc]

@[simp] theorem State.keeps_requestSlot (h : s.keeps t) (i : SlotId) : s.keeps (t.requestSlot i) := by
  unfold State.requestSlot
  split
  · next hs => exact keeps_setSlot h (by simp) (by simp) (by simp_all) (by simp_all)
  · simp [h]
  · simp [h]
  · simp [h]
  · next hs => exact keeps_setSlot h (by simp_all) (by simp_all) (by simp_all) (by simp_all)

@[simp] theorem State.keeps_idleSlot (h : s.keeps t) (i : SlotId) : s.keeps (t.idleSlot i) :=
  keeps_setSlot h (by simp) (by simp) (by simp_all) (by simp)

@[simp] theorem State.keeps_dropRerequest (h : s.keeps t) (i : SlotId) : s.keeps (t.dropRerequest i) :=
  keeps_setSlot h (by simp_all) (by simp) (by simp) (by grind)

@[simp] theorem State.keeps_forceWithdraw (h : s.keeps t) (i : SlotId) : s.keeps (t.forceWithdraw i) := by
  unfold State.forceWithdraw
  split <;> simp [h]

@[simp] theorem State.keeps_openingArrives (h : s.keeps t) (i : SlotId) : s.keeps (t.openingArrives i) := by
  unfold State.openingArrives
  split
  · next hs => exact keeps_setSlot h (by simp) (by simp) (by simp_all) (by simp_all)
  · next hs =>
      exact keeps_ite.mpr ⟨fun _ => keeps_setSlot h (by simp) (by simp) (by simp_all) (by simp_all), fun _ => h⟩
  · next hs =>
      exact keeps_ite.mpr ⟨fun _ => keeps_setSlot h (by simp_all) (by simp_all) (by simp_all) (by simp_all), fun _ => h⟩
  · exact h
  · exact h

@[simp] theorem State.keeps_yieldSlot (h : s.keeps t) (i : SlotId) : s.keeps (t.yieldSlot i) :=
  keeps_bump (keeps_setSlot h (by simp) (by simp) (by simp_all) (by simp)) _

@[simp] theorem State.keeps_lateStartCheck (h : s.keeps t) : s.keeps t.lateStartCheck := by
  unfold State.lateStartCheck
  split <;> simp [h]

@[simp] theorem State.keeps_yieldIfDue (h : s.keeps t) (i : SlotId) : s.keeps (t.yieldIfDue i) := by
  simp [State.yieldIfDue, State.keeps_ite, h]

@[simp] theorem State.setSlot_rx (u : State) (i : SlotId) (x : Slot) : (u.setSlot i x).sl.rx = u.sl.rx := rfl

theorem State.setSlot_setSlot (u : State) (i : SlotId) (x y : Slot) : (u.setSlot i x).setSlot i y = u.setSlot i y := by
  simp [State.setSlot]

/-- Slots of a list that are Due yield, one after another: of the link nothing but the slots changes. -/
theorem State.yieldAll_sl (l : List SlotId) (u : State) :
    (l.foldl State.yieldIfDue u).sl = { u.sl with slots := (l.foldl State.yieldIfDue u).sl.slots } := by
  induction l generalizing u with
  | nil => rfl
  | cons j l ih =>
    have one : (u.yieldIfDue j).sl = { u.sl with slots := (u.yieldIfDue j).sl.slots } := by
      unfold State.yieldIfDue
      split <;> rfl
    rw [List.foldl_cons, ih, one]

/-- A slot after it has yielded, if it was Due (R142, item 5). -/
def Slot.yielded (x : Slot) : Slot :=
  if x.state = .due then { x with state := .armed, again := true, waits := false } else x

theorem Slot.yielded_state_ne (x : Slot) : x.yielded.state ≠ .due := by
  unfold Slot.yielded
  split <;> simp_all

@[simp] theorem Slot.yielded_yielded (x : Slot) : x.yielded.yielded = x.yielded := by
  rw [Slot.yielded, if_neg x.yielded_state_ne]

@[simp] theorem Slot.yielded_marks (x : Slot) :
    x.yielded.openingPassed = x.openingPassed ∧ x.yielded.anchorPassed = x.anchorPassed := by
  unfold Slot.yielded
  split <;> simp

/-- Every slot of the list has yielded if it was Due, and every other slot is as it was (R142). -/
theorem State.yieldAll_slot (l : List SlotId) (u : State) (i : SlotId) :
    (l.foldl State.yieldIfDue u).slot i = if i ∈ l then (u.slot i).yielded else u.slot i := by
  induction l generalizing u with
  | nil => simp
  | cons j l ih =>
    have yielded : (u.yieldIfDue j).slot i = if i = j then (u.slot i).yielded else u.slot i := by
      unfold State.yieldIfDue Slot.yielded
      rcases eq_or_ne i j with rfl | hij
      · rw [if_pos rfl]
        split
        · exact State.slot_setSlot_self u i _
        · rfl
      · rw [if_neg hij]
        split
        · exact State.slot_setSlot_other u j i _ hij
        · rfl
    rw [List.foldl_cons, ih, yielded]
    by_cases hij : i = j <;> simp [hij]

/-- The slots after one has become Due with none of higher priority in its way, those of lower priority yielding. -/
theorem Slots.Alone.becomeDue {x y : Slots} (h : x.Alone) {i : SlotId}
    (free : ∀ j ∈ higherSlots i, (x.at j).state ≠ .due ∧ (x.at j).state ≠ .sending)
    (self : y.at i = { x.at i with state := .due })
    (lower : ∀ j ∈ lowerSlots i, y.at j = (x.at j).yielded)
    (higher : ∀ j ∈ higherSlots i, y.at j = x.at j) : y.Alone where
  due j hj k hk := by
    rcases eq_or_ne j i with rfl | hji
    · rw [higher k hk]
      exact free k hk
    · rcases mem_higher_or_lower i j hji with hh | hl
      · rw [higher j hh] at hj
        exact absurd hj (free j hh).1
      · rw [lower j hl] at hj
        exact absurd hj (Slot.yielded_state_ne _)
  marks j hj := by
    rcases eq_or_ne j i with rfl | hji
    · rw [self]
      exact h.marks j hj
    · rcases mem_higher_or_lower i j hji with hh | hl
      · rw [higher j hh]
        exact h.marks j hj
      · simpa [lower j hl] using h.marks j hj
  waits j hj := by
    rcases eq_or_ne j i with rfl | hji
    · rw [self]
    · rcases mem_higher_or_lower i j hji with hh | hl
      · rw [higher j hh] at hj ⊢
        exact h.waits j hj
      · rw [lower j hl] at hj
        unfold Slot.yielded at hj
        split at hj
        · simp at hj
        · next hd => exact absurd (h.waits j hj) hd

theorem not_mem_lowerSlots {i j : SlotId} (h : j ∈ higherSlots i) : j ∉ lowerSlots i := by
  revert h
  cases i <;> cases j <;> decide

theorem State.blocks_eq_false {u : State} {j : SlotId} (h : ¬ u.blocks j = true) :
    (u.slot j).state ≠ .due ∧ (u.slot j).state ≠ .sending := by
  unfold State.blocks at h
  split at h <;> simp_all

@[simp] theorem State.keeps_becomeDue (h : s.keeps t) (i : SlotId) : s.keeps (t.becomeDue i) := by
  have others : ∀ j y, j ≠ i → (t.setSlot i y).slot j = t.slot j := fun j y hj => slot_setSlot_other t i j y hj
  unfold State.becomeDue
  dsimp only
  split
  · have twice : (t.setSlot i { t.slot i with state := .due }).yieldSlot i =
        (t.setSlot i { t.slot i with state := .armed, again := true, waits := false }).bump .yields := by
      simp [State.yieldSlot, State.setSlot_setSlot]
    rw [twice]
    exact keeps_bump (keeps_setSlot h (by simp) (by simp) (by simp_all) (by simp)) _
  · next free =>
      simp only [List.any_eq_true, not_exists, not_and] at free
      refine keeps_trans h ⟨fun b => ?_, fun e => ?_⟩
      · have due : (t.setSlot i { t.slot i with state := .due }).bounded := b
        exact (keeps_foldl (fun hu j => keeps_yieldIfDue hu j) (keeps_lateStartCheck (keeps_refl _)) _).1 due
      · rw [exclusive_iff] at e ⊢
        have sl := yieldAll_sl (lowerSlots i) (t.setSlot i { t.slot i with state := .due }).lateStartCheck
        have link := congrArg Link.link sl
        have rx := congrArg Link.rx sl
        have slot := yieldAll_slot (lowerSlots i) (t.setSlot i { t.slot i with state := .due }).lateStartCheck
        have checked : ∀ j, ((t.setSlot i { t.slot i with state := .due }).lateStartCheck).slot j =
            (t.setSlot i { t.slot i with state := .due }).slot j := fun j => by simp [slot_eq_at]
        simp only [checked] at slot
        refine { gates := by simpa [held] using e.gates
                 uncaptured := by simpa [held] using e.uncaptured
                 slots := ?_
                 receiver := ?_ }
        · refine e.slots.becomeDue (i := i) (fun j hj => ?_) ?_ (fun j hj => ?_) fun j hj => ?_
          all_goals simp only [held, ← slot_eq_at, slot]
          · rw [← others j _ fun e => not_mem_higherSlots i (e ▸ hj)]
            exact blocks_eq_false (free j hj)
          · rw [if_neg fun hl => not_mem_higherSlots i ((mem_lowerSlots_iff i i).mp hl), slot_setSlot_self]
          · have apart : j ≠ i := fun e => not_mem_higherSlots i ((mem_lowerSlots_iff i i).mp (e ▸ hj))
            simp [others j _ apart, hj]
          · have apart : j ≠ i := fun e => not_mem_higherSlots i (e ▸ hj)
            rw [others j _ apart, if_neg (not_mem_lowerSlots hj)]
        · simpa [held, link, rx] using e.receiver

@[simp] theorem State.keeps_anchorArrives (h : s.keeps t) (i : SlotId) : s.keeps (t.anchorArrives i) := by
  unfold State.anchorArrives
  split
  · next hs => exact keeps_bump (keeps_setSlot h (by simp_all) (by simp_all) (by simp_all) (by simp)) _
  · simp [keeps_ite, h]
  · exact keeps_becomeDue h i
  · next hs =>
      refine keeps_ite.mpr ⟨fun hp =>
        keeps_bump (keeps_setSlot h (by simp_all) (by simp) ?_ (by simp_all)) _, fun _ => h⟩
      simp_all
  · exact h

@[simp] theorem State.keeps_passSlot (h : s.keeps t) (i : SlotId) : s.keeps (t.passSlot i) := by
  simp [State.passSlot, State.keeps_ite, h]

@[simp] theorem State.keeps_slotPass (h : s.keeps t) : s.keeps t.slotPass := keeps_foldl keeps_passSlot h _

@[simp] theorem State.keeps_endSlotFrame (h : s.keeps t) (i : SlotId) : s.keeps (t.endSlotFrame i) := by
  unfold State.endSlotFrame
  refine keeps_ite.mpr ⟨fun sending => keeps_setSlot h (fun mark due => .inr ⟨?_, sending⟩) ?_ (by simp) (by simp),
    fun _ => h⟩
  · by_contra hi
    simp only [mark hi] at due
    revert due
    cases (t.slot i).rerequest <;> cases (t.slot i).openingPassed <;> simp
  · cases (t.slot i).rerequest <;> cases (t.slot i).openingPassed <;> cases (t.slot i).anchorPassed <;> simp

@[simp] theorem State.keeps_holdDue (h : s.keeps t) (before : State) (i : SlotId) : s.keeps (t.holdDue before i) := by
  unfold State.holdDue
  exact keeps_ite.mpr ⟨fun hd => keeps_setSlot h (by simp_all) (by simp_all) (by simp_all) (by simp_all), fun _ => h⟩

@[simp] theorem State.keeps_moveAnchors (h : s.keeps t) (before : State) : s.keeps (t.moveAnchors before) :=
  keeps_foldl (fun hu i => keeps_holdDue hu before i) h _

@[simp] theorem State.keeps_withdrawUser (h : s.keeps t) (b : Bool) :
    s.keeps { t with sl := { t.sl with userRequest := b } } := State.keeps_of_same h rfl rfl

@[simp] theorem State.keeps_cancelUser (h : s.keeps t) : s.keeps t.cancelUser := by
  unfold State.cancelUser
  split
  · exact h
  · exact keeps_idleSlot (keeps_withdrawUser h _) _
  · exact keeps_idleSlot (keeps_withdrawUser h _) _
  · exact h
  · exact keeps_ite.mpr ⟨fun _ => keeps_dropRerequest (keeps_withdrawUser h _) _, fun _ => h⟩

@[simp] theorem State.keeps_requestUser (h : s.keeps t) : s.keeps t.requestUser := by
  have asked := keeps_withdrawUser h true
  unfold State.requestUser
  dsimp only
  split
  · exact keeps_ite.mpr ⟨fun _ => asked, fun _ => keeps_requestSlot asked _⟩
  all_goals exact keeps_requestSlot asked _

@[simp] theorem State.keeps_cancelReference (h : s.keeps t) (g : RefGen) : s.keeps (t.cancelReference g) := by
  have cancelled := keeps_bump (keeps_setRef (keeps_idleSlot h (refSlot g)) g Reference.idle) .refCancelled
  unfold State.cancelReference
  split <;> assumption

@[simp] theorem State.keeps_offerPosition (h : s.keeps t) : s.keeps t.offerPosition := by
  unfold State.offerPosition
  refine keeps_ite.mpr ⟨fun room => keeps_acc h fun _ => ?_, fun _ => by simp [h]⟩
  simp only [Config.accumulator] at room ⊢
  omega

@[simp] theorem State.keeps_reverseStep (h : s.keeps t) : s.keeps t.reverseStep := by
  simp [State.reverseStep, State.keeps_ite, h, ↓State.keeps_lp]

@[simp] theorem State.keeps_forwardStep (h : s.keeps t) : s.keeps t.forwardStep := by
  simp [State.forwardStep, State.keeps_ite, h, ↓State.keeps_lp]

@[simp] theorem State.keeps_takeStep (h : s.keeps t) (forward : Bool) : s.keeps (t.takeStep forward) := by
  simp [State.takeStep, State.keeps_ite, h]

@[simp] theorem State.keeps_takeIndexEdge (h : s.keeps t) : s.keeps t.takeIndexEdge := by
  simp [State.takeIndexEdge, State.keeps_ite, h, ↓State.keeps_lp]

@[simp] theorem State.keeps_genTick (h : s.keeps t) : s.keeps t.genTick := by
  unfold State.genTick
  split <;> simp [State.keeps_ite, h, ↓State.keeps_lp]

@[simp] theorem State.keeps_countCycle (h : s.keeps t) : s.keeps t.countCycle := by
  simp [State.countCycle, h, ↓State.keeps_lp]

@[simp] theorem State.keeps_advanceIndex (h : s.keeps t) : s.keeps t.advanceIndex := by
  simp [State.advanceIndex, State.keeps_ite, h, ↓State.keeps_lp]

@[simp] theorem State.keeps_restartStall (h : s.keeps t) : s.keeps t.restartStall := by
  unfold State.restartStall
  exact State.keeps_of_same h rfl rfl

@[simp] theorem State.keeps_stepOne (h : s.keeps t) : s.keeps t.stepOne := by
  have moved : s.keeps { t with lp := { t.lp with travel := t.lp.travel + 1#32 } } := keeps_lp h rfl
  exact keeps_advanceIndex (keeps_restartStall (keeps_bump moved .positionEvents))

@[simp] theorem State.keeps_phaseError (h : s.keeps t) (kind : PhaseKind) (offset : BitVec 16) :
    s.keeps (t.phaseError kind offset) := by
  have recorded : s.keeps { t with lp := { t.lp with phaseKind := kind, phaseOffset := offset } } := keeps_lp h rfl
  exact keeps_raiseInEvent (keeps_bump recorded .phaseErrors) .phaseError

@[simp] theorem State.keeps_realign (h : s.keeps t) : s.keeps t.realign := by
  simp [State.realign, State.keeps_ite, h, ↓State.keeps_lp]

@[simp] theorem State.keeps_checkIndex (h : s.keeps t) : s.keeps t.checkIndex := by
  simp [State.checkIndex, State.keeps_ite, h, ↓State.keeps_lp]

@[simp] theorem State.keeps_incSince (h : s.keeps t) : s.keeps t.incSince := by
  unfold State.incSince
  exact keeps_ite.mpr ⟨fun _ => keeps_lp h rfl, fun _ => keeps_of_same h rfl rfl⟩

@[simp] theorem State.keeps_declareMissing (h : s.keeps t) : s.keeps t.declareMissing := by
  simp [State.declareMissing, h, ↓State.keeps_lp]

@[simp] theorem State.keeps_countSince (h : s.keeps t) : s.keeps t.countSince := by
  simp [State.countSince, State.keeps_ite, h]

@[simp] theorem State.keeps_stepTwo (h : s.keeps t) (start : Bool) : s.keeps (t.stepTwo start) := by
  simp [State.stepTwo, State.keeps_ite, h, ↓State.keeps_lp]

@[simp] theorem State.keeps_propose (h : s.keeps t) (c : CaptureClass) : s.keeps (t.propose c) := by
  unfold State.propose
  exact State.keeps_of_same h rfl rfl

@[simp] theorem State.keeps_auditSensor (h : s.keeps t) : s.keeps t.auditSensor := by
  unfold State.auditSensor
  exact State.keeps_of_same h rfl rfl

@[simp] theorem State.keeps_takeSense (h : s.keeps t) : s.keeps t.takeSense := by
  simp [State.takeSense, State.keeps_ite, h, ↓State.keeps_cs]

@[simp] theorem State.keeps_bracketAtIntake (h : s.keeps t) (window : Travel) : s.keeps (t.bracketAtIntake window) := by
  unfold State.bracketAtIntake
  split <;> simp [h, ↓State.keeps_cs]

theorem State.keeps_placeEntry (h : s.keeps t) (e : RingEntry) (room : t.cs.ring.length < 32) :
    s.keeps (t.placeEntry e) := by
  have placed : ∀ e, s.keeps { t with cs := { t.cs with ring := insertRing e t.cs.ring } } := fun e =>
    keeps_ring h rfl fun _ => by rw [length_insertRing]; omega
  unfold State.placeEntry
  split
  · exact placed e
  · exact keeps_ite.mpr ⟨fun _ => keeps_bracketAtIntake (placed _) _, fun _ => placed e⟩

@[simp] theorem State.keeps_intake (h : s.keeps t) : s.keeps t.intake := by
  have taken : s.keeps { t with cs := { t.cs with sensePending := false } } := keeps_cs h rfl
  unfold State.intake
  dsimp only
  refine keeps_ite.mpr ⟨fun _ => keeps_ite.mpr ⟨fun room => keeps_placeEntry taken _ room, fun _ => ?_⟩, fun _ => ?_⟩
  · exact keeps_raiseInEvent (keeps_bump taken _) _
  · exact keeps_bump taken _

@[simp] theorem State.keeps_stepThree (h : s.keeps t) : s.keeps t.stepThree := by
  simp [State.stepThree, State.keeps_ite, h, ↓State.keeps_cs]

@[simp] theorem State.keeps_ringProposal (h : s.keeps t) : s.keeps t.ringProposal := by
  unfold State.ringProposal
  split
  · exact h
  · next e rest taken =>
      have left := keeps_ring (c := { t.cs with ring := rest }) h rfl fun w => (mem_of_takeFirst taken).1.trans w
      exact keeps_ite.mpr ⟨fun _ => keeps_propose left _, fun _ => keeps_bump (keeps_propose left _) _⟩

@[simp] theorem State.keeps_bracketPropose (h : s.keeps t) : s.keeps t.bracketPropose := by
  unfold State.bracketPropose
  split <;> simp [State.keeps_ite, h, ↓State.keeps_cs]

@[simp] theorem State.keeps_bracketStartOne (h : s.keeps t) : s.keeps t.bracketStartOne := by
  unfold State.bracketStartOne
  split
  · exact h
  · dsimp only
    split
    · exact keeps_bracketPropose (keeps_ring h rfl fun w => (length_updateFirst _ _ _).trans_le w)
    · exact keeps_bump (keeps_ring h rfl fun w => (length_updateFirst _ _ _).trans_le w) _

@[simp] theorem State.keeps_bracketStarts (h : s.keeps t) : s.keeps t.bracketStarts :=
  keeps_iterate keeps_bracketStartOne h _

@[simp] theorem State.keeps_perTest (h : s.keeps t) (g : PerGen) : s.keeps (t.perTest g) := by
  simp [State.perTest, State.keeps_ite, h]

@[simp] theorem State.keeps_perPropose (h : s.keeps t) (g : PerGen) : s.keeps (t.perPropose g) := by
  simp [State.perPropose, State.keeps_ite, h]

@[simp] theorem State.keeps_refTest (h : s.keeps t) (g : RefGen) : s.keeps (t.refTest g) := by
  unfold State.refTest
  refine keeps_ite.mpr ⟨fun _ => keeps_ite.mpr ⟨fun _ => ?_, fun _ => keeps_bump h _⟩, fun _ => h⟩
  exact keeps_setRefRequest (keeps_setRef (keeps_requestSlot h _) _ _) _ _

@[simp] theorem State.keeps_refMark (h : s.keeps t) (g : RefGen) : s.keeps (t.refMark g) := by
  simp [State.refMark, State.keeps_ite, h]

@[simp] theorem State.keeps_refPropose (h : s.keeps t) (g : RefGen) : s.keeps (t.refPropose g) := by
  simp [State.refPropose, State.keeps_ite, h]

@[simp] theorem State.keeps_refStep (h : s.keeps t) (start : Bool) (g : RefGen) : s.keeps (t.refStep start g) := by
  have drawn := keeps_freeCount h (t.freeCount + 1)
  unfold State.refStep
  simp [keeps_ite, h, drawn]

@[simp] theorem State.keeps_refCancel (h : s.keeps t) (g : RefGen) : s.keeps (t.refCancel g) := by
  simp [State.refCancel, h]

@[simp] theorem State.keeps_refWithdraw (h : s.keeps t) (g : RefGen) : s.keeps (t.refWithdraw g) := by
  unfold State.refWithdraw
  split <;> simp [h]

@[simp] theorem State.keeps_refOnSequence (h : s.keeps t) (g : RefGen) : s.keeps (t.refOnSequence g) := by
  unfold State.refOnSequence
  split <;> simp [h]

@[simp] theorem State.keeps_refOnAbort (h : s.keeps t) (g : RefGen) : s.keeps (t.refOnAbort g) := by
  unfold State.refOnAbort
  split <;> simp [h]

@[simp] theorem State.keeps_patternStep (h : s.keeps t) : s.keeps t.patternStep := by
  simp [State.patternStep, State.keeps_ite, h]

@[simp] theorem State.keeps_randomStep (h : s.keeps t) : s.keeps t.randomStep := by
  have advanced : s.keeps { t with cs := { t.cs with sample := lfsr t.cs.sample, audit := lfsr t.cs.audit } } :=
    keeps_cs h rfl
  unfold State.randomStep
  dsimp only
  (repeat' split) <;> simp [h, advanced]

@[simp] theorem State.keeps_hostStep (h : s.keeps t) : s.keeps t.hostStep := by
  simp [State.hostStep, State.keeps_ite, h, ↓State.keeps_cs]

@[simp] theorem State.keeps_stepSix (h : s.keeps t) (start : Bool) : s.keeps (t.stepSix start) := by
  have sensed := keeps_bracketStarts (keeps_bracketPropose (keeps_ringProposal h))
  have burst := keeps_perPropose (keeps_perTest (keeps_perPropose (keeps_perTest sensed .p1) .p1) .p2) .p2
  have refs := keeps_refStep (keeps_refStep (keeps_refStep burst start .a) start .b) start .c
  exact keeps_hostStep (keeps_randomStep (keeps_patternStep refs))

/-- A retirement's record in the retired window (R80). -/
theorem State.keeps_pushWindow (h : s.keeps t) (r : WindowRecord) :
    s.keeps { t with lg := { t.lg with window := pushWindow t.lg.window r } } :=
  keeps_of_held h rfl (fun w => { w with window := length_pushWindow_le r w.window }) fun e => { e with }

@[simp] theorem State.keeps_dispatch (h : s.keeps t) (e : Entry) : s.keeps (t.dispatch e) := by
  have pulsed : ∀ o, s.keeps ((t.startPulse o).bump (.dispositions o)) := fun o => keeps_bump (keeps_startPulse h o) _
  have counted :
    ∀ o src, s.keeps (if src = Source.default then ((t.startPulse o).bump (.dispositions o)).bump .defaulted
      else (t.startPulse o).bump (.dispositions o)) := fun o src =>
    keeps_ite.mpr ⟨fun _ => keeps_bump (pulsed o) _, fun _ => pulsed o⟩
  unfold State.dispatch
  dsimp only
  split
  · exact keeps_ite.mpr ⟨fun _ => keeps_appendLog (counted _ _) _, fun _ => counted _ _⟩
  · refine keeps_ite.mpr ⟨fun _ => keeps_pushWindow ?_ _, fun _ => ?_⟩
    all_goals
      refine keeps_ite.mpr ⟨fun _ => keeps_pushNotice ?_ _, fun _ => ?_⟩
      all_goals exact keeps_ite.mpr ⟨fun _ => keeps_appendLog (counted _ _) _, fun _ => counted _ _⟩

@[simp] theorem State.dispatch_entries (u : State) (e : Entry) : (u.dispatch e).lg.entries = u.lg.entries := by
  unfold State.dispatch
  dsimp only
  (repeat' split) <;> simp

@[simp] theorem State.keeps_retireOne (h : s.keeps t) : s.keeps t.retireOne := by
  unfold State.retireOne
  split
  · exact h
  · next e rest taken =>
      have left : rest.length ≤ (t.dispatch e).lg.entries.length ∧ ∀ y ∈ rest, y ∈ (t.dispatch e).lg.entries := by
        simpa using mem_of_takeFirst taken
      exact keeps_of_held (keeps_dispatch h e) rfl (fun w => { w with entries := left.1.trans w.entries }) fun x =>
        { x with uncaptured := fun y hy => x.uncaptured y (left.2 y hy) }

@[simp] theorem State.keeps_stepFour (h : s.keeps t) : s.keeps t.stepFour :=
  keeps_refreshSilence (keeps_iterate keeps_retireOne (keeps_countPulses h) _)

@[simp] theorem State.keeps_abandon (h : s.keeps t) (e : Entry) : s.keeps (t.abandon e) := by
  simp [State.abandon, h]

@[simp] theorem State.keeps_abandonAll (h : s.keeps t) : s.keeps t.abandonAll := by
  unfold State.abandonAll
  exact keeps_refreshSilence (keeps_abandonAll_end (keeps_foldl (fun hu e => keeps_abandon hu e) h _))

@[simp] theorem State.keeps_fillModel (h : s.keeps t) (g : Group) : s.keeps (t.fillModel g) := by
  simp [State.fillModel, State.keeps_ite, h]

@[simp] theorem State.keeps_drainModel (h : s.keeps t) (g : Group) : s.keeps (t.drainModel g) := by
  simp [State.drainModel, h]

@[simp] theorem State.keeps_clearModel (h : s.keeps t) (g : Group) : s.keeps (t.clearModel g) := by
  simp [State.clearModel, h]

@[simp] theorem State.keeps_clearModels (h : s.keeps t) (mask : BitVec 4) : s.keeps (t.clearModels mask) :=
  keeps_foldl (fun hu g => keeps_ite.mpr ⟨fun _ => keeps_clearModel hu g, fun _ => hu⟩) h _

@[simp] theorem State.keeps_pulseFire (h : s.keeps t) (g : Group) : s.keeps (t.pulseFire g) := by
  simp [State.pulseFire, State.keeps_ite, h]

@[simp] theorem State.keeps_useIdent (h : s.keeps t) : s.keeps t.useIdent := by
  unfold State.useIdent
  exact State.keeps_of_same h rfl rfl

@[simp] theorem State.keeps_fireMask (h : s.keeps t) (mask : BitVec 4) : s.keeps (t.fireMask mask) :=
  keeps_foldl (fun hu g => keeps_ite.mpr ⟨fun _ => keeps_pulseFire hu g, fun _ => hu⟩) h _

@[simp] theorem State.keeps_fillMask (h : s.keeps t) (mask : BitVec 4) : s.keeps (t.fillMask mask) :=
  keeps_foldl (fun hu g => keeps_ite.mpr ⟨fun _ => keeps_fillModel hu g, fun _ => hu⟩) h _

@[simp] theorem State.checkReuse_entries (u : State) (id : Ident) : (u.checkReuse id).lg.entries = u.lg.entries := by
  unfold State.checkReuse
  split <;> simp

theorem State.keeps_takeIn (h : s.keeps t) (p : Proposal) (room : t.lg.entries.length < 512) :
    s.keeps (t.takeIn p) := by
  have entered : s.keeps ((((t.useIdent.fireMask p.mask).fillMask p.mask).checkReuse t.nextIdent).appendEntry
      (((t.useIdent.fireMask p.mask).fillMask p.mask).newLedgerEntry p (some t.nextIdent))) := by
    refine keeps_appendEntry (keeps_checkReuse (keeps_fillMask (keeps_fireMask ?_ _) _) _) _ ?_
      (by simp [newLedgerEntry])
    · exact keeps_ad h _
    · simpa using room
  have counted := fun m k => keeps_bump (keeps_countIntoBatch (keeps_pushTag entered m) t.nextIdent.epoch) k
  unfold State.takeIn
  exact keeps_ite.mpr ⟨fun _ => keeps_bump (counted _ _) _, fun _ => counted _ _⟩

@[simp] theorem State.keeps_holdBack (h : s.keeps t) (p : Proposal) : s.keeps (t.holdBack p) := by
  unfold State.holdBack
  refine keeps_ite.mpr ⟨fun _ => keeps_ite.mpr ⟨fun room => ?_, fun _ => ?_⟩, fun _ => keeps_bump h _⟩
  · exact keeps_appendEntry (keeps_bump h _) _ room (newLedgerEntry_expects _ _ _)
  · exact keeps_raiseInEvent (keeps_bump (keeps_bump h _) _) _

/-- The Ledger full hold (section 4.3): with no global hold the ledger has room. -/
theorem State.room_of_not_held {u : State} (h : u.globalHold = false) : u.lg.entries.length < 512 := by
  by_contra full
  have held : u.globalHold = true := by
    refine List.any_eq_true.mpr ⟨(decide (Config.ledger ≤ u.lg.entries.length), true), ?_, ?_⟩
    · exact List.mem_of_getElem? (i := 16) rfl
    · simp [Config.ledger, Nat.le_of_not_lt full]
  simp [h] at held

@[simp] theorem State.keeps_stepSeven (h : s.keeps t) : s.keeps t.stepSeven := by
  have merged := keeps_candidates h []
  unfold State.stepSeven
  dsimp only
  split
  · exact merged
  · refine keeps_refreshSilence (keeps_ite.mpr ⟨fun _ => keeps_holdBack merged _, fun open_ => ?_⟩)
    exact keeps_takeIn merged _ (room_of_not_held (u := t) (by simpa using open_))

@[simp] theorem State.keeps_countQuota (h : s.keeps t) : s.keeps t.countQuota := by
  simp [State.countQuota, State.keeps_ite, h, ↓State.keeps_ad]

@[simp] theorem State.keeps_countAdmission (h : s.keeps t) (admitted : Bool) : s.keeps (t.countAdmission admitted) := by
  simp [State.countAdmission, State.keeps_ite, h, ↓State.keeps_ad]

@[simp] theorem State.keeps_evalLedgerHigh (h : s.keeps t) : s.keeps t.evalLedgerHigh := by
  have flag : ∀ b, s.keeps { t with lg := { t.lg with high := b } } := fun b => keeps_of_same h rfl rfl
  unfold State.evalLedgerHigh
  exact keeps_ite.mpr ⟨fun _ => keeps_ite.mpr ⟨fun _ => h, fun _ => keeps_raise (flag true) _⟩, fun _ => flag false⟩

@[simp] theorem State.keeps_writeHolds (h : s.keeps t) (active : List Bool) (global : Bool) :
    s.keeps (t.writeHolds active global) := by
  have counted : ∀ u : State, s.keeps u → s.keeps (active.zipIdx.foldl
      (fun s (x : Bool × Nat) => if x.1 then s.bump (.holdPosition x.2) else s) u) := fun u hu =>
    keeps_foldl (fun hu x => keeps_ite.mpr ⟨fun _ => keeps_bump hu _, fun _ => hu⟩) hu _
  unfold State.writeHolds
  exact keeps_ite.mpr ⟨fun _ => keeps_bump (counted _ (keeps_ad h _)) _, fun _ => counted _ (keeps_ad h _)⟩

@[simp] theorem State.keeps_stepEight (h : s.keeps t) (active : List Bool) (global admitted flush : Bool) :
    s.keeps (t.stepEight active global admitted flush) := by
  have held := keeps_writeHolds (keeps_evalLedgerHigh (keeps_countAdmission h admitted)) active global
  unfold State.stepEight
  exact keeps_drainedTest (keeps_settleFaults (keeps_ite.mpr ⟨fun _ => keeps_flushRoute held, fun _ => held⟩))

@[simp] theorem State.keeps_enterSeq (h : s.keeps t) (i : SeqId) (x : SeqState) : s.keeps (t.enterSeq i x) := by
  simp [State.enterSeq, h]

@[simp] theorem State.keeps_enterSignalling (h : s.keeps t) (i : SeqId) : s.keeps (t.enterSignalling i) := by
  simp [State.enterSignalling, h]

@[simp] theorem State.keeps_judgeQuiesce (h : s.keeps t) (i : SeqId) : s.keeps (t.judgeQuiesce i) := by
  simp [State.judgeQuiesce, State.keeps_ite, h]

@[simp] theorem State.keeps_judgeRecover (h : s.keeps t) (i : SeqId) : s.keeps (t.judgeRecover i) := by
  simp [State.judgeRecover, State.keeps_ite, h]

@[simp] theorem State.keeps_countSeq (h : s.keeps t) (i : SeqId) : s.keeps (t.countSeq i) := by
  simp [State.countSeq, h]

@[simp] theorem State.keeps_seqWork (h : s.keeps t) (i : SeqId) : s.keeps (t.seqWork i) := by
  unfold State.seqWork
  dsimp only
  (repeat' split) <;> simp [h]

@[simp] theorem State.keeps_periodicResync (h : s.keeps t) : s.keeps t.periodicResync := by
  simp [State.periodicResync, State.keeps_ite, h]

@[simp] theorem State.keeps_preempt (h : s.keeps t) : s.keeps t.preempt := by
  unfold State.preempt
  exact keeps_ite.mpr ⟨fun _ => h, fun _ => keeps_forceWithdraw (keeps_bump (keeps_enterSeq h _ _) _) _⟩

@[simp] theorem State.keeps_refsOnSequence (h : s.keeps t) : s.keeps t.refsOnSequence :=
  keeps_foldl (fun hu g => keeps_refOnSequence hu g) h _

@[simp] theorem State.keeps_startFull (h : s.keeps t) : s.keeps t.startFull :=
  keeps_refsOnSequence (keeps_bump (keeps_enterSeq (keeps_preempt (keeps_setSeqDemand h _ _)) _ _) _)

@[simp] theorem State.keeps_startStation (h : s.keeps t) : s.keeps t.startStation :=
  keeps_refsOnSequence (keeps_bump (keeps_enterSeq (keeps_setSeqDemand h _ _) _ _) _)

@[simp] theorem State.keeps_seqStarts (h : s.keeps t) : s.keeps t.seqStarts := by
  simp [State.seqStarts, State.keeps_ite, h]

@[simp] theorem State.keeps_stepFive (h : s.keeps t) : s.keeps t.stepFive := by
  unfold State.stepFive
  exact keeps_foldl (fun hu g => keeps_refMark hu g)
    (keeps_seqStarts (keeps_periodicResync (keeps_seqWork (keeps_seqWork (keeps_slotPass h) _) _))) _

@[simp] theorem State.keeps_stepsFromThree (h : s.keeps t) (start : Bool) : s.keeps (t.stepsFromThree start) :=
  keeps_stepEight (keeps_stepSeven (keeps_stepSix (keeps_stepFive (keeps_stepFour (keeps_stepThree h))) start)) _ _ _ _

@[simp] theorem State.keeps_positionEvent (h : s.keeps t) : s.keeps t.positionEvent := by
  have taken : s.keeps { t with
      lp := { t.lp with acc := t.lp.acc - 1 }
      clk := { t.clk with sincePosition := 0 } } :=
    keeps_clk (keeps_acc (x := { t.lp with acc := t.lp.acc - 1 }) h fun w => (Nat.sub_le _ _).trans w) _
  unfold State.positionEvent
  exact keeps_stepsFromThree (keeps_stepTwo (keeps_stepOne taken) _) _

@[simp] theorem State.keeps_abortSeq (h : s.keeps t) (i : SeqId) : s.keeps (t.abortSeq i) := by
  simp [State.abortSeq, State.keeps_ite, h]

@[simp] theorem State.keeps_duplicate (h : s.keeps t) (stored code : Disposition) :
    s.keeps (t.duplicate stored code) := by
  simp [State.duplicate, State.keeps_ite, h]

@[simp] theorem State.keeps_lateVerdict (h : s.keeps t) (id : Ident) (applied code : Disposition) (detail : Byte)
    (ooo : Bool) : s.keeps (t.lateVerdict id applied code detail ooo) :=
  keeps_appendLog (keeps_raise (keeps_bump h _) _) _

@[simp] theorem State.keeps_classify (h : s.keeps t) (id : Ident) (code : Disposition) (detail : Byte) (ooo : Bool) :
    s.keeps (t.classify id code detail ooo) := by
  unfold State.classify
  split
  · refine keeps_ite.mpr ⟨fun _ => ?_, fun _ => keeps_raise (keeps_bump h _) _⟩
    split <;> simp [h]
  · split <;> simp [h]

@[simp] theorem State.keeps_matchRecord (h : s.keeps t) (id : Ident) (code : Disposition) (detail : Byte) :
    s.keeps (t.matchRecord id code detail) := by
  have counted := keeps_raise (keeps_bump h .sequenceError) .verdictAnomaly
  unfold State.matchRecord
  simp [keeps_ite, h, counted]

@[simp] theorem State.keeps_applyRecord (h : s.keeps t) (r : VerdictRecord) : s.keeps (t.applyRecord r) := by
  unfold State.applyRecord
  split <;> simp [h]

@[simp] theorem State.keeps_setLastError (h : s.keeps t) (code : Nat) : s.keeps (t.setLastError code) := by
  unfold State.setLastError
  exact State.keeps_of_same h rfl rfl

@[simp] theorem State.keeps_checkSequence (h : s.keeps t) (seqNo : Byte) : s.keeps (t.checkSequence seqNo) := by
  have noted := keeps_setLastError (keeps_raise (keeps_bump h .sequenceGap) .packetError) 6
  have checked : s.keeps (if t.seqGap seqNo then ((t.bump .sequenceGap).raise .packetError).setLastError 6 else t) :=
    keeps_ite.mpr ⟨fun _ => noted, fun _ => h⟩
  exact keeps_bump (keeps_of_same checked rfl rfl) _

@[simp] theorem State.keeps_restartSilence (h : s.keeps t) : s.keeps t.restartSilence := by
  unfold State.restartSilence
  exact State.keeps_of_same h rfl rfl

@[simp] theorem State.keeps_acceptPacket (h : s.keeps t) (seqNo : Byte) (records : List VerdictRecord) :
    s.keeps (t.acceptPacket seqNo records) :=
  keeps_restartSilence (keeps_foldl (fun hu r => keeps_applyRecord hu r) (keeps_checkSequence h seqNo) _)

@[simp] theorem State.keeps_startTx (h : s.keeps t) (c : FlowChar) : s.keeps (t.startTx c) := by
  unfold State.startTx
  split <;> simp [h, ↓State.keeps_vc]

@[simp] theorem State.keeps_requestTx (h : s.keeps t) (c : FlowChar) : s.keeps (t.requestTx c) := by
  unfold State.requestTx
  split <;> simp [h, ↓State.keeps_vc]

@[simp] theorem State.keeps_completeTx (h : s.keeps t) : s.keeps t.completeTx := by
  unfold State.completeTx
  dsimp only
  (repeat' split) <;> simp [h, ↓State.keeps_vc]

@[simp] theorem State.keeps_evalPause (h : s.keeps t) : s.keeps t.evalPause := by
  simp [State.evalPause, State.keeps_ite, h, ↓State.keeps_vc]

@[simp] theorem State.keeps_evalStall (h : s.keeps t) : s.keeps t.evalStall := by
  simp [State.evalStall, State.keeps_ite, h, ↓State.keeps_vc]

@[simp] theorem State.keeps_evalFlow (h : s.keeps t) : s.keeps t.evalFlow := by
  simp [State.evalFlow, h]

@[simp] theorem State.keeps_countResend (h : s.keeps t) : s.keeps t.countResend := by
  simp [State.countResend, State.keeps_ite, h, ↓State.keeps_vc]

@[simp] theorem State.keeps_endPause (h : s.keeps t) : s.keeps t.endPause := by
  simp [State.endPause, State.keeps_ite, h, ↓State.keeps_vc]

@[simp] theorem State.keeps_endStall (h : s.keeps t) : s.keeps t.endStall := by
  unfold State.endStall
  exact State.keeps_of_same h rfl rfl

@[simp] theorem State.keeps_discardPacket (h : s.keeps t) (reason : Nat) : s.keeps (t.discardPacket reason) := by
  have cleared : s.keeps { t with vc := { t.vc with parser := Parser.cleared } } := keeps_vc h rfl rfl
  exact keeps_setLastError (keeps_raise (keeps_bump cleared .packetErrors) .packetError) reason

@[simp] theorem State.keeps_dropPacket (h : s.keeps t) : s.keeps t.dropPacket := by
  simp [State.dropPacket, State.keeps_ite, h, ↓State.keeps_vc]

@[simp] theorem State.keeps_hunt (h : s.keeps t) (e : FifoEntry) : s.keeps (t.hunt e) := by
  simp [State.hunt, State.keeps_ite, h, ↓State.keeps_vc]

@[simp] theorem State.keeps_takeHeader (h : s.keeps t) (p : Parser) (data : Byte) : s.keeps (t.takeHeader p data) := by
  unfold State.takeHeader
  split <;> simp [State.keeps_ite, h, ↓State.keeps_vc]

@[simp] theorem State.keeps_takeRecord (h : s.keeps t) (p : Parser) (data : Byte) : s.keeps (t.takeRecord p data) := by
  unfold State.takeRecord
  exact State.keeps_of_same h rfl rfl

@[simp] theorem State.keeps_takeCheck (h : s.keeps t) (p : Parser) : s.keeps (t.takeCheck p) := by
  simp [State.takeCheck, State.keeps_ite, h, ↓State.keeps_vc]

@[simp] theorem State.keeps_collect (h : s.keeps t) (e : FifoEntry) : s.keeps (t.collect e) := by
  unfold State.collect
  dsimp only
  (repeat' split) <;> simp [h]

@[simp] theorem State.keeps_parse (h : s.keeps t) (e : FifoEntry) : s.keeps (t.parse e) := by
  simp [State.parse, State.keeps_ite, h]

@[simp] theorem State.keeps_dropRawElement (h : s.keeps t) : s.keeps t.dropRawElement := by
  unfold State.dropRawElement
  split <;> simp [State.keeps_ite, h, ↓State.keeps_port]

@[simp] theorem State.keeps_parserTake (h : s.keeps t) : s.keeps t.parserTake := by
  unfold State.parserTake
  refine keeps_ite.mpr ⟨fun _ => h, fun _ => ?_⟩
  split
  · exact h
  · next e rest taken =>
      have left : s.keeps { t with vc := { t.vc with fifo := rest } } :=
        keeps_channel h (fun w => (Nat.le_succ _).trans (by simpa [taken] using w)) id
      exact keeps_parse (keeps_dropRawElement left) e

@[simp] theorem State.keeps_receive (h : s.keeps t) (c : LineChar) (gap : Bool) : s.keeps (t.receive c gap) := by
  have timed : s.keeps { t with vc := { t.vc with idle := 0 } } := keeps_vc h rfl rfl
  have framed : s.keeps (if c.stop then { t with vc := { t.vc with idle := 0 } }
      else ({ t with vc := { t.vc with idle := 0 } }).bump .framingErrors) :=
    keeps_ite.mpr ⟨fun _ => timed, fun _ => keeps_bump timed _⟩
  refine keeps_countResend (keeps_ite.mpr ⟨fun room => ?_, fun _ => keeps_raise (keeps_bump framed _) _⟩)
  exact keeps_channel framed (fun _ => length_append_le _ room) id

@[simp] theorem State.keeps_vcReceive (h : s.keeps t) : s.keeps t.vcReceive := by
  have sampled : s.keeps { t with vc := { t.vc with
      rx := (t.vc.rx.edge t.lines.vcRx t.vcBitTime (t.gapFlag 0)).1 } } :=
    keeps_channel h id fun bits => Receiver.edge_bits _ _ _ _ bits
  unfold State.vcReceive
  dsimp only
  split
  · exact sampled
  · exact keeps_receive sampled _ _

@[simp] theorem State.keeps_gapCheck (h : s.keeps t) : s.keeps t.gapCheck := by
  simp [State.gapCheck, State.keeps_ite, h]

@[simp] theorem State.keeps_characterEdge (h : s.keeps t) (c : LineChar) (idle : Nat) :
    s.keeps (t.characterEdge c idle) := by
  have rested : s.keeps { t with vc := { t.vc with rx := Receiver.rested c.stop } } :=
    keeps_channel h id fun _ => Receiver.rested_bits _
  exact keeps_evalFlow (keeps_parserTake (keeps_receive rested c (t.commandGap idle)))

@[simp] theorem State.keeps_truncate (h : s.keeps t) : s.keeps t.truncate := by
  simp [State.truncate, h, ↓State.keeps_vc]

@[simp] theorem State.keeps_clearRx (h : s.keeps t) : s.keeps t.clearRx := by
  have emptied : s.keeps { t with vc := { t.vc with fifo := [] } } := keeps_channel h (fun _ => Nat.zero_le _) id
  have dropped := keeps_dropPacket (keeps_bumpBy emptied .rxDiscarded t.vc.fifo.length)
  exact keeps_evalFlow (keeps_vc dropped rfl rfl)

@[simp] theorem State.keeps_changeRaw (h : s.keeps t) (before : Bool) : s.keeps (t.changeRaw before) := by
  simp [State.changeRaw, State.keeps_ite, h]

@[simp] theorem State.keeps_startFrame (h : s.keeps t) (f : Frame) : s.keeps (t.startFrame f) := by
  have begun : s.keeps { t with sl := { t.sl with
      rx := Receiver.fresh, link := .sending, left := t.frameTime f, bitTime := t.linkBitTime, lead := t.deLead
      lag := t.deLag, frame := some f } } :=
    keeps_sl h ⟨rfl, rfl, rfl⟩ ⟨rfl, rfl⟩ (by simp [Receiver.fresh]) fun _ _ => rfl
  exact keeps_drainedTest (keeps_bump begun (.framesSent f.kind.toNat))

@[simp] theorem State.keeps_restartCount (h : s.keeps t) : s.keeps t.restartCount := by
  unfold State.restartCount
  exact State.keeps_of_same h rfl rfl

@[simp] theorem State.keeps_recoverFrom (h : s.keeps t) (i : SeqId) : s.keeps (t.recoverFrom i) := by
  simp [State.recoverFrom, State.keeps_ite, h]

@[simp] theorem State.keeps_startMark (h : s.keeps t) : s.keeps t.startMark := by
  simp [State.startMark, State.keeps_ite, h]

@[simp] theorem State.keeps_startFullReset (h : s.keeps t) : s.keeps t.startFullReset :=
  keeps_startFrame (keeps_recoverFrom (keeps_clearWindow (keeps_clearModels (keeps_restartCount h) 0xF#4)) .full) _

@[simp] theorem State.keeps_startStationReset (h : s.keeps t) : s.keeps t.startStationReset := by
  have counted : s.keeps { t with sq := { t.sq with srCount := t.sq.srCount + 1#16 } } := keeps_sq h _
  exact keeps_startFrame (keeps_recoverFrom (keeps_clearModels counted _) .station) _

@[simp] theorem State.keeps_prepare (h : s.keeps t) (g : RefGen) : s.keeps (t.prepare g) := by
  simp [State.prepare, State.keeps_ite, h]

@[simp] theorem State.keeps_startPrepare (h : s.keeps t) (g : RefGen) : s.keeps (t.startPrepare g) := by
  simp [State.startPrepare, h]

@[simp] theorem State.keeps_startUser (h : s.keeps t) : s.keeps t.startUser :=
  keeps_startFrame (keeps_withdrawUser h false) _

/-- A Due slot that sends: no other slot is Due, so none is Due below it. -/
theorem Slots.Alone.send {x : Slots} (h : x.Alone) {i : SlotId} (due : (x.at i).state = .due) :
    (x.put i Slot.sent).Alone where
  due j hj k hk := by
    rcases eq_or_ne j i with rfl | hji
    · simp [Slots.at_put_self, Slot.sent] at hj
    · rw [Slots.at_put_other x _ hji] at hj
      have apart : k ≠ i := fun e => (h.due j hj k hk).1 (e ▸ due)
      rw [Slots.at_put_other x _ apart]
      exact h.due j hj k hk
  marks j hj := by
    rcases eq_or_ne j i with rfl | hji
    · simp [Slots.at_put_self, Slot.sent]
    · rw [Slots.at_put_other x _ hji]
      exact h.marks j hj
  waits j hj := by
    rcases eq_or_ne j i with rfl | hji
    · simp [Slots.at_put_self, Slot.sent] at hj
    · rw [Slots.at_put_other x _ hji] at hj ⊢
      exact h.waits j hj

theorem State.keeps_sendSlot (h : s.keeps t) {i : SlotId} (due : (t.slot i).state = .due) :
    s.keeps (t.sendSlot i) :=
  keeps_slots h fun x => x.send (t.slot_eq_at i ▸ due)

theorem State.keeps_startSlot (h : s.keeps t) {i : SlotId} (due : (t.slot i).state = .due) :
    s.keeps (t.startSlot i) := by
  have sent := keeps_sendSlot h due
  cases i with
  | cycleMark => exact keeps_startMark sent
  | fullReset => exact keeps_startFullReset sent
  | stationReset => exact keeps_startStationReset sent
  | refA => exact keeps_startPrepare sent .a
  | refB => exact keeps_startPrepare sent .b
  | refC => exact keeps_startPrepare sent .c
  | user => exact keeps_startUser sent

@[simp] theorem State.keeps_takePoll (h : s.keeps t) : s.keeps t.takePoll := by
  unfold State.takePoll
  dsimp only
  split
  · exact keeps_of_same h rfl rfl
  · refine keeps_startFrame (keeps_bump ?_ _) _
    exact keeps_of_same h rfl rfl

@[simp] theorem State.keeps_closeEdge (h : s.keeps t) : s.keeps t.closeEdge := by
  unfold State.closeEdge
  exact State.keeps_of_same h rfl rfl

@[simp] theorem State.keeps_arrive (h : s.keeps t) (p : Place) : s.keeps (t.arrive p) := by
  rw [State.arrive_eq]
  exact keeps_of_same h rfl rfl

@[simp] theorem State.keeps_startFree (h : s.keeps t) (old : Startable) : s.keeps (t.startFree old) := by
  have shorter : ∀ {m : List Byte} {q rest : List (List Byte)} {n : Nat}, q = m :: rest → q.length ≤ n →
      rest.length ≤ n := fun e w => (Nat.le_succ _).trans (by simpa [e] using w)
  unfold State.startFree
  split
  · next taken _ =>
      refine keeps_startFrame ?_ _
      exact keeps_of_held h rfl (fun w => { w with routeQ := shorter taken w.routeQ }) fun e => { e with }
  · split
    · next taken _ =>
        refine keeps_startFrame ?_ _
        exact keeps_of_held h rfl (fun w => { w with tagQ := shorter taken w.tagQ }) fun e => { e with }
    · split
      · next taken _ =>
          refine keeps_startFrame ?_ _
          exact keeps_of_held h rfl (fun w => { w with noticeQ := shorter taken w.noticeQ }) fun e => { e with }
      · exact keeps_either _ (keeps_takePoll h) h

@[simp] theorem State.keeps_select (h : s.keeps t) (old : Startable) : s.keeps (t.select old) := by
  unfold State.select
  refine keeps_ite.mpr ⟨fun _ => ?_, fun _ => h⟩
  split
  · next i found =>
      have startable := List.find?_some found
      simp only [State.startable, State.dueNow, Bool.and_eq_true, beq_iff_eq] at startable
      obtain ⟨⟨due, -⟩, -⟩ := startable
      exact keeps_startSlot h due
  · exact keeps_ite.mpr ⟨fun _ => h, fun _ => keeps_startFree h old⟩

@[simp] theorem State.keeps_enterSpacing (h : s.keeps t) : s.keeps t.enterSpacing :=
  keeps_sl h ⟨rfl, rfl, rfl⟩ ⟨rfl, rfl⟩ id (by simp)

/-- A slot at a frame end: Sending, it returns to Idle or to where its re-request stands (R141, R143). -/
def Slot.ended (x : Slot) : Slot :=
  if x.state = .sending then
    { state :=
        if x.rerequest then (if x.anchorPassed then .due else if x.openingPassed then .guarding else .armed) else .idle
      again := x.again, rerequest := false, openingPassed := false, anchorPassed := false, waits := false }
  else x

/-- The seven slots after one of them has had its part of a frame end. -/
def Slots.ended (x : Slots) (i : SlotId) : Slots := x.put i (x.at i).ended

theorem Slots.put_at (x : Slots) (i : SlotId) : x.put i (x.at i) = x := by cases i <;> rfl

/-- A slot at a frame end changes the slots alone, and by the slots alone. -/
theorem State.endSlotFrame_eq (u : State) (i : SlotId) :
    u.endSlotFrame i = { u with sl := { u.sl with slots := u.sl.slots.ended i } } := by
  unfold State.endSlotFrame Slots.ended Slot.ended
  rw [slot_eq_at]
  dsimp only
  split
  · rfl
  · rw [Slots.put_at]

theorem State.endEach_eq (l : List SlotId) (u : State) :
    l.foldl State.endSlotFrame u = { u with sl := { u.sl with slots := l.foldl Slots.ended u.sl.slots } } := by
  induction l generalizing u with
  | nil => rfl
  | cons i l ih => rw [List.foldl_cons, ih, endSlotFrame_eq]; rfl

/-- A frame end, said at once (R124, R129, R143). -/
theorem State.endFrame_eq (u : State) : u.endFrame = { u with sl := { u.sl with
    frame := none
    rx := Receiver.rested u.lines.linkRx
    slots := allSlots.foldl Slots.ended u.sl.slots
    link := if u.sendingPoll then .reply else .spacing
    left := if u.sendingPoll then u.replyChars * 11 * u.sl.bitTime else 11 * u.sl.bitTime
    reply := if u.sendingPoll then [] else u.sl.reply } } := by
  unfold State.endFrame
  dsimp only
  rw [endEach_eq]
  cases u.sendingPoll <;> rfl

@[simp] theorem State.keeps_endFrame (h : s.keeps t) : s.keeps t.endFrame := by
  have ended := keeps_foldl (fun hu i => keeps_endSlotFrame hu i) h allSlots
  rw [endEach_eq] at ended
  rw [endFrame_eq]
  refine keeps_of_held ended rfl (fun w => { w with linkRx := Receiver.rested_bits _ }) fun e =>
    { e with receiver := ?_ }
  simp only [held]
  cases t.sendingPoll <;> simp

@[simp] theorem State.keeps_endSpacing (h : s.keeps t) : s.keeps t.endSpacing :=
  keeps_sl h ⟨rfl, rfl, rfl⟩ ⟨rfl, rfl⟩ id (by simp)

@[simp] theorem State.keeps_endTransaction (h : s.keeps t) : s.keeps t.endTransaction :=
  keeps_enterSpacing (keeps_sl h ⟨rfl, rfl, rfl⟩ ⟨rfl, rfl⟩ id id)

@[simp] theorem State.keeps_noteLoss (h : s.keeps t) (before after : StationState) :
    s.keeps (t.noteLoss before after) := by
  unfold State.noteLoss
  refine keeps_ite.mpr ⟨fun _ => ?_, fun _ => h⟩
  split <;> simp [h]

@[simp] theorem State.keeps_chargeMiss (h : s.keeps t) : s.keeps t.chargeMiss :=
  keeps_noteLoss (keeps_bump (keeps_setStation h _ _) _) _ _

@[simp] theorem State.keeps_setMissReason (h : s.keeps t) (reason : Nat) : s.keeps (t.setMissReason reason) := by
  unfold State.setMissReason
  exact State.keeps_of_same h rfl rfl

@[simp] theorem State.keeps_endWithMiss (h : s.keeps t) (reason : Nat) : s.keeps (t.endWithMiss reason) :=
  keeps_endTransaction (keeps_ite.mpr ⟨fun _ => h, fun _ => keeps_chargeMiss (keeps_setMissReason h reason)⟩)

@[simp] theorem State.keeps_creditReply (h : s.keeps t) (payload : Byte) : s.keeps (t.creditReply payload) := by
  have credited := fun x => keeps_bump (keeps_setStation h t.polledIndex x) .linkReplies
  exact keeps_ite.mpr ⟨fun _ => keeps_raise (credited _) _, fun _ => credited _⟩

@[simp] theorem State.keeps_judgeReply (h : s.keeps t) (x a b c : LineChar) : s.keeps (t.judgeReply x a b c) := by
  unfold State.judgeReply
  refine keeps_ite.mpr ⟨fun _ => keeps_endTransaction h, fun _ => ?_⟩
  split
  · exact keeps_endTransaction (keeps_creditReply h _)
  · exact keeps_endWithMiss (keeps_ite.mpr ⟨fun _ => keeps_bump h _, fun _ => h⟩) _

@[simp] theorem State.keeps_unsolicited (h : s.keeps t) : s.keeps t.unsolicited := by
  simp [State.unsolicited, h]

@[simp] theorem State.keeps_replyTake (h : s.keeps t) (c : LineChar) : s.keeps (t.replyTake c) := by
  unfold State.replyTake
  split
  · exact keeps_judgeReply h _ _ _ _
  · exact keeps_of_same h rfl rfl

@[simp] theorem State.keeps_linkTake (h : s.keeps t) (c : LineChar) : s.keeps (t.linkTake c) := by
  unfold State.linkTake
  split <;> simp [h]

@[simp] theorem State.keeps_linkCharacter (h : s.keeps t) (c : LineChar) : s.keeps (t.linkCharacter c) := by
  unfold State.linkCharacter
  refine keeps_ite.mpr ⟨fun _ => h, fun quiet => ?_⟩
  have rested : s.keeps { t with sl := { t.sl with rx := Receiver.rested c.stop } } :=
    keeps_sl h ⟨rfl, rfl, rfl⟩ ⟨rfl, rfl⟩ (fun _ => Receiver.rested_bits _) fun _ sends => absurd sends quiet
  exact keeps_linkTake rested c

@[simp] theorem State.keeps_replyExpiry (h : s.keeps t) : s.keeps t.replyExpiry := by
  simp [State.replyExpiry, State.keeps_ite, h]

@[simp] theorem State.keeps_linkReceive (h : s.keeps t) : s.keeps t.linkReceive := by
  unfold State.linkReceive
  refine keeps_ite.mpr ⟨fun _ => h, fun quiet => ?_⟩
  have sampled : s.keeps { t with sl := { t.sl with
      rx := (t.sl.rx.edge t.lines.linkRx t.sl.bitTime false).1 } } :=
    keeps_sl h ⟨rfl, rfl, rfl⟩ ⟨rfl, rfl⟩ (Receiver.edge_bits _ _ _ _) fun _ sends => absurd sends quiet
  dsimp only
  split
  · exact keeps_linkTake sampled _
  · exact keeps_replyExpiry sampled

@[simp] theorem State.keeps_expirePoll (h : s.keeps t) : s.keeps t.expirePoll := by
  unfold State.expirePoll
  exact State.keeps_of_same h rfl rfl

@[simp] theorem State.keeps_abortLink (h : s.keeps t) : s.keeps t.abortLink := by
  have emptied : s.keeps { t with sl := { t.sl with tagQ := [], noticeQ := [], userRequest := false } } :=
    keeps_of_held h rfl (fun w => { w with tagQ := Nat.zero_le _, noticeQ := Nat.zero_le _ }) fun e => { e with }
  have counted := keeps_bumpBy emptied .linkDiscards (t.sl.tagQ.length + t.sl.noticeQ.length)
  have resets := keeps_forceWithdraw (keeps_forceWithdraw counted .fullReset) .stationReset
  have refs := keeps_forceWithdraw (keeps_forceWithdraw (keeps_forceWithdraw resets .refA) .refB) .refC
  exact keeps_forceWithdraw refs .user

@[simp] theorem State.keeps_refuseCommand (h : s.keeps t) (why : CommandRefusal) : s.keeps (t.refuseCommand why) := by
  unfold State.refuseCommand
  exact keeps_raise (keeps_bump (keeps_rc h _) _) _

@[simp] theorem State.keeps_acceptCommand (h : s.keeps t) : s.keeps t.acceptCommand := by
  unfold State.acceptCommand
  exact State.keeps_of_same h rfl rfl

@[simp] theorem State.keeps_nameCommand (h : s.keeps t) (code : Nat) : s.keeps (t.nameCommand code) := by
  unfold State.nameCommand
  exact State.keeps_of_same h rfl rfl

@[simp] theorem State.keeps_setRun (h : s.keeps t) (x : RunState) : s.keeps (t.setRun x) := by
  unfold State.setRun
  exact State.keeps_of_same h rfl rfl

@[simp] theorem State.keeps_startRun (h : s.keeps t) : s.keeps t.startRun := by
  have routed :
    s.keeps ({ t.rebase with ad := { t.ad with quotaCount := 0#32, spacing := 65535 } } : State).resetRouting :=
    keeps_resetRouting (keeps_ad (keeps_rebase h) _)
  exact keeps_of_same (keeps_clearWindow routed) rfl rfl

@[simp] theorem State.keeps_start (h : s.keeps t) : s.keeps t.start := by
  have named := keeps_nameCommand h 0
  unfold State.start
  dsimp only
  split
  · split
    · exact keeps_refuseCommand named _
    · exact keeps_startRun (keeps_acceptCommand named)
  all_goals exact keeps_refuseCommand named _

@[simp] theorem State.keeps_stop (h : s.keeps t) : s.keeps t.stop := by
  have named := keeps_nameCommand h 1
  unfold State.stop
  dsimp only
  split
  · exact keeps_drainedTest (keeps_flushRoute (keeps_setRun (keeps_acceptCommand named) _))
  all_goals exact keeps_refuseCommand named _

@[simp] theorem State.keeps_abortSources (h : s.keeps t) : s.keeps t.abortSources := by
  have dropped := keeps_bumpBy h .sensorAbandoned t.cs.ring.length
  have ignored : s.keeps (if (t.bumpBy .sensorAbandoned t.cs.ring.length).cs.sensePending then
      (t.bumpBy .sensorAbandoned t.cs.ring.length).bump .sensorIgnored
      else t.bumpBy .sensorAbandoned t.cs.ring.length) :=
    keeps_ite.mpr ⟨fun _ => keeps_bump dropped _, fun _ => dropped⟩
  exact keeps_foldl (fun hu g => keeps_refOnAbort hu g) (keeps_ring ignored rfl fun _ => Nat.zero_le _) _

@[simp] theorem State.keeps_abortRun (h : s.keeps t) : s.keeps t.abortRun := by
  have flushed := keeps_flushRoute (keeps_abandonAll (keeps_abortSources (keeps_setRun h .halted)))
  exact keeps_abortSeq (keeps_abortSeq (keeps_abortLink flushed) .station) .full

@[simp] theorem State.keeps_abort (h : s.keeps t) : s.keeps t.abort := by
  have named := keeps_nameCommand h 2
  unfold State.abort
  dsimp only
  split
  · exact keeps_refuseCommand named _
  all_goals exact keeps_abortRun (keeps_acceptCommand named)

@[simp] theorem State.keeps_recover (h : s.keeps t) : s.keeps t.recover := by
  have named := keeps_nameCommand h 3
  unfold State.recover
  dsimp only
  split
  · exact keeps_ite.mpr ⟨fun _ => keeps_setRun (keeps_acceptCommand named) _, fun _ => keeps_refuseCommand named _⟩
  all_goals exact keeps_refuseCommand named _

@[simp] theorem State.keeps_command (h : s.keeps t) (v : Word) : s.keeps (t.command v) := by
  unfold State.command
  split <;> simp [h]

theorem reset_within : State.reset.held.Within := by
  constructor <;> simp [State.held, State.reset, Line.reset, Sources.reset, Ledger.reset, Channel.reset, Gate.reset,
    Link.reset, Receiver.fresh]

theorem reset_exclusive : State.reset.held.Exclusive where
  gates := .inl rfl
  uncaptured := by simp [State.held, State.reset, Ledger.reset]
  slots := ⟨fun i => by cases i <;> simp [State.held, State.reset, Link.reset, Slots.reset, Slots.at, Slot.idle],
    fun i => by cases i <;> simp [State.held, State.reset, Link.reset, Slots.reset, Slots.at, Slot.idle],
    fun i => by cases i <;> simp [State.held, State.reset, Link.reset, Slots.reset, Slots.at, Slot.idle]⟩
  receiver := fun _ => rfl

@[simp] theorem State.keeps_softReset (h : s.keeps t) : s.keeps t.softReset := by
  refine keeps_trans h ⟨fun ⟨tables, within⟩ => ⟨?_, ?_⟩, fun _ => (exclusive_iff _).mpr { reset_exclusive with }⟩
  · rw [tablesCanonical_iff] at tables ⊢
    exact ⟨rfl, tables.2.1, tables.2.2.1, rfl, rfl⟩
  · rw [withinCapacity_iff] at within ⊢
    exact { reset_within with stations := (List.length_map _).trans within.stations }

@[simp] theorem State.keeps_pinReset (t : State) : s.keeps t.pinReset :=
  ⟨fun _ => ⟨reset_tablesCanonical, (withinCapacity_iff State.reset).mpr reset_within⟩,
    fun _ => (exclusive_iff State.reset).mpr reset_exclusive⟩

@[simp] theorem State.keeps_deviceReset (h : s.keeps t) (armed : Bool) : s.keeps (t.deviceReset armed) := by
  simp [State.deviceReset, State.keeps_ite, h, ↓State.keeps_rc]

@[simp] theorem State.keeps_action (h : s.keeps t) (v : Word) (armed : Bool) : s.keeps (t.action v armed) := by
  have shot := keeps_either (bit v 0) (keeps_snapshot h) h
  have counters := keeps_either (bit v 1) (keeps_clearCounters shot) shot
  have log := keeps_either (bit v 2) (keeps_clearLog counters) counters
  have rx := keeps_either (bit v 3) (keeps_clearRx log) log
  exact keeps_either (bit v 4) (keeps_deviceReset rx armed) rx

@[simp] theorem State.keeps_refuse (h : s.keeps t) (write : Bool) (why : AccessReason) (index : Nat) (a : Addr) :
    s.keeps (t.refuse write why index a) := by
  have noted := keeps_raise (keeps_bump h .accessRefusals) .accessRefused
  exact keeps_ite.mpr ⟨fun _ => noted, fun _ => keeps_port noted _⟩

@[simp] theorem State.keeps_advancePointer (h : s.keeps t) (x : TableId) : s.keeps (t.advancePointer x) :=
  keeps_setReg h _ _

@[simp] theorem State.keeps_discardPoll (h : s.keeps t) (i : Nat) : s.keeps (t.discardPoll i) :=
  keeps_ite.mpr ⟨fun _ => keeps_of_same h rfl rfl, fun _ => h⟩

@[simp] theorem State.keeps_writeStation (h : s.keeps t) (i : Nat) (v : Word) : s.keeps (t.writeStation i v) := by
  unfold State.writeStation
  dsimp only
  (repeat' split) <;> simp [h]

@[simp] theorem State.keeps_writeTablePort (h : s.keeps t) (x : TableId) (v : Word) (a : Addr) :
    s.keeps (t.writeTablePort x v a) := by
  refine keeps_advancePointer ?_ x
  cases x with
  | pattern => exact keeps_ite.mpr ⟨fun _ => keeps_refuse h _ _ _ _, fun _ => keeps_writePattern h _ _⟩
  | route => exact keeps_writeRoute h _ _
  | station => exact keeps_ite.mpr ⟨fun _ => keeps_refuse h _ _ _ _, fun _ => keeps_writeStation h _ _⟩

@[simp] theorem State.keeps_applyCtrl (h : s.keeps t) (v : Word) : s.keeps (t.applyCtrl v) := by
  unfold State.applyCtrl
  exact State.keeps_of_same h rfl rfl

@[simp] theorem State.keeps_changeLine (h : s.keeps t) (before : Word) : s.keeps (t.changeLine before) := by
  unfold State.changeLine
  extract_lets line sampled changed
  have hc : s.keeps changed := keeps_either _ (keeps_of_same h rfl rfl) h
  exact keeps_either _ (keeps_lp hc rfl) (keeps_either _ (keeps_lp hc rfl) hc)

@[simp] theorem State.keeps_changeGenerator (h : s.keeps t) (before : Word) : s.keeps (t.changeGenerator before) := by
  simp [State.changeGenerator, State.keeps_ite, h, ↓State.keeps_lp]

@[simp] theorem State.keeps_changeStall (h : s.keeps t) (before : Word) : s.keeps (t.changeStall before) := by
  simp [State.changeStall, State.keeps_ite, h, ↓State.keeps_lp]

@[simp] theorem State.keeps_applyDemand (h : s.keeps t) (v : Word) : s.keeps (t.applyDemand v) := by
  unfold State.applyDemand
  exact State.keeps_of_same h rfl rfl

@[simp] theorem State.keeps_changeRandom (h : s.keeps t) (before : Word) : s.keeps (t.changeRandom before) := by
  simp [State.changeRandom, State.keeps_ite, h, ↓State.keeps_cs]

@[simp] theorem State.keeps_changeFlow (h : s.keeps t) (before : Word) : s.keeps (t.changeFlow before) := by
  simp [State.changeFlow, State.keeps_ite, h]

@[simp] theorem State.keeps_changeLink (h : s.keeps t) (before : Word) : s.keeps (t.changeLink before) :=
  keeps_ite.mpr ⟨fun _ => keeps_ite.mpr ⟨fun _ => h, fun _ => keeps_of_same h rfl rfl⟩,
    fun _ => keeps_of_same h rfl rfl⟩

@[simp] theorem State.keeps_changeDiv (h : s.keeps t) : s.keeps t.changeDiv := by
  unfold State.changeDiv
  split
  · exact keeps_of_same h rfl rfl
  · exact keeps_of_same h rfl rfl
  · exact h
  · exact h

@[simp] theorem State.keeps_applyUserDemand (h : s.keeps t) (v : Word) : s.keeps (t.applyUserDemand v) := by
  simp [State.applyUserDemand, State.keeps_ite, h]

@[simp] theorem State.keeps_applySlotCancel (h : s.keeps t) (v : Word) : s.keeps (t.applySlotCancel v) :=
  keeps_foldl (fun hu g => keeps_ite.mpr ⟨fun _ => keeps_cancelReference hu g, fun _ => hu⟩) h _

@[simp] theorem State.keeps_applySeqDemand (h : s.keeps t) (v : Word) : s.keeps (t.applySeqDemand v) := by
  unfold State.applySeqDemand
  exact State.keeps_of_same h rfl rfl

@[simp] theorem State.keeps_applyRestartDemand (h : s.keeps t) (v : Word) : s.keeps (t.applyRestartDemand v) := by
  simp [State.applyRestartDemand, State.keeps_ite, h, ↓State.keeps_rc]

@[simp] theorem State.keeps_clearEvents (h : s.keeps t) (v : Word) : s.keeps (t.clearEvents v) := by
  unfold State.clearEvents
  exact State.keeps_of_same h rfl rfl

@[simp] theorem State.keeps_storeWord (h : s.keeps t) (r : Reg) (v : Word) : s.keeps (t.storeWord r v) := by
  simp [State.storeWord, h]

@[simp] theorem State.keeps_storeAnchor (h : s.keeps t) (r : Reg) (v : Word) : s.keeps (t.storeAnchor r v) := by
  simp [State.storeAnchor, h]

@[simp] theorem State.keeps_applyWord (h : s.keeps t) (r : Reg) (v : Word) (armed : Bool) :
    s.keeps (t.applyWord r v armed) := by
  unfold State.applyWord
  split <;> simp [State.keeps_ite, h]

@[simp] theorem State.keeps_writeRegister (h : s.keeps t) (r : Reg) (v : Word) (armed : Bool) :
    s.keeps (t.writeRegister r v armed) := by
  unfold State.writeRegister
  split
  · exact keeps_writeTablePort h _ _ _
  · refine keeps_ite.mpr ⟨fun _ => keeps_refuse h _ _ _ _, fun _ => ?_⟩
    split
    · exact keeps_refuse h _ _ _ _
    · exact keeps_applyWord h r v armed

@[simp] theorem State.keeps_disarm (h : s.keeps t) : s.keeps t.disarm := by
  unfold State.disarm
  exact State.keeps_of_same h rfl rfl

@[simp] theorem State.keeps_writeWord (h : s.keeps t) (a : Addr) (v : Word) : s.keeps (t.writeWord a v) := by
  unfold State.writeWord
  split <;> simp [State.keeps_ite, h]

@[simp] theorem State.keeps_popRaw (h : s.keeps t) (element : Bool) : s.keeps (t.popRaw element) := by
  unfold State.popRaw
  split
  · next taken =>
      refine keeps_evalFlow (keeps_channel h (fun w => ?_) id)
      rw [taken] at w
      exact (Nat.le_succ _).trans w
  · exact h

@[simp] theorem State.keeps_readPort (h : s.keeps t) (r : Reg) (w : WordStart) : s.keeps (t.readPort r w) := by
  unfold State.readPort
  split
  · exact keeps_advancePointer h _
  · exact keeps_advancePointer h _
  · exact keeps_advancePointer h _
  · exact keeps_popLog h _
  · exact keeps_popRaw h _
  · exact h

@[simp] theorem State.keeps_completeRead (h : s.keeps t) (a : Addr) (w : WordStart) : s.keeps (t.completeRead a w) := by
  unfold State.completeRead
  dsimp only
  (repeat' split) <;> simp [h]

@[simp] theorem State.keeps_advanceTxn (h : s.keeps t) : s.keeps t.advanceTxn := by
  unfold State.advanceTxn
  split <;> simp [h, ↓State.keeps_port]

@[simp] theorem State.keeps_joinTxn (h : s.keeps t) (read : Bool) (a : Addr) : s.keeps (t.joinTxn read a) := by
  unfold State.joinTxn
  exact State.keeps_of_same h rfl rfl

@[simp] theorem State.keeps_hostWrite (h : s.keeps t) (a : Addr) (v : Word) : s.keeps (t.hostWrite a v) := by
  have joined := keeps_joinTxn (keeps_arrive h .late) false (t.burstAddr a v)
  exact keeps_ite.mpr ⟨fun _ => h, fun _ => keeps_advanceTxn
    (keeps_ite.mpr ⟨fun _ => keeps_writeWord joined a v, fun _ => joined⟩)⟩

@[simp] theorem State.keeps_hostRead (h : s.keeps t) (a : Addr) : s.keeps (t.hostRead a) := by
  have joined := keeps_joinTxn (keeps_arrive h .late) true a
  exact keeps_ite.mpr ⟨fun _ => h, fun _ => keeps_advanceTxn (keeps_completeRead (keeps_port joined _) a _)⟩

@[simp] theorem State.keeps_header (h : s.keeps t) (byte0 byte1 byte2 : Byte) :
    s.keeps (t.header byte0 byte1 byte2) := by
  unfold State.header
  exact State.keeps_of_same h rfl rfl

@[simp] theorem State.keeps_endTurnaround (h : s.keeps t) : s.keeps t.endTurnaround := by
  unfold State.endTurnaround
  split <;> simp [State.keeps_ite, h, ↓State.keeps_port]

@[simp] theorem State.keeps_endTransactionHost (h : s.keeps t) : s.keeps t.endTransactionHost := by
  unfold State.endTransactionHost
  exact State.keeps_of_same h rfl rfl

@[simp] theorem State.keeps_beginHeader (h : s.keeps t) : s.keeps t.beginHeader := by
  unfold State.beginHeader
  exact State.keeps_of_same h rfl rfl

@[simp] theorem State.keeps_followSelect (h : s.keeps t) (before : Bool) : s.keeps (t.followSelect before) := by
  simp [State.followSelect, State.keeps_ite, h]

@[simp] theorem State.keeps_writeField (h : s.keeps t) (r : Reg) (mask v : Word) : s.keeps (t.writeField r mask v) := by
  simp [State.writeField, h]

@[simp] theorem State.keeps_writeFlag (h : s.keeps t) (r : Reg) (i : Nat) (b : Bool) : s.keeps (t.writeFlag r i b) := by
  simp [State.writeFlag, h]

@[simp] theorem State.keeps_endReadiness (h : s.keeps t) : s.keeps t.endReadiness := by
  unfold State.endReadiness
  exact State.keeps_of_same h rfl rfl

@[simp] theorem State.keeps_expireStall (h : s.keeps t) : s.keeps t.expireStall := by
  simp [State.expireStall, h, ↓State.keeps_lp]

@[simp] theorem State.keeps_expireSilence (h : s.keeps t) : s.keeps t.expireSilence := by
  simp [State.expireSilence, h, ↓State.keeps_vc]

@[simp] theorem State.keeps_countTimers (h : s.keeps t) : s.keeps t.countTimers := by
  unfold State.countTimers
  exact State.keeps_of_same h rfl rfl

@[simp] theorem State.keeps_countPeriods (h : s.keeps t) : s.keeps t.countPeriods := by
  unfold State.countPeriods
  exact State.keeps_of_same h rfl rfl

@[simp] theorem State.keeps_takeSample (h : s.keeps t) : s.keeps t.takeSample := by
  unfold State.takeSample
  split
  · exact h
  · exact keeps_of_same h rfl rfl

@[simp] theorem State.keeps_keepSample (h : s.keeps t) : s.keeps t.keepSample := by
  unfold State.keepSample
  exact State.keeps_of_same h rfl rfl

@[simp] theorem State.keeps_recognise (h : s.keeps t) : s.keeps t.recognise := by
  unfold State.recognise
  extract_lets seen kept step index
  have hk : s.keeps kept := keeps_keepSample h
  have hs : s.keeps step := keeps_either _ (keeps_takeStep hk _) hk
  have hi : s.keeps index := keeps_either _ (keeps_takeIndexEdge hs) hs
  exact keeps_either _ (keeps_takeSense hi) hi

@[simp] theorem State.keeps_channelEdge (h : s.keeps t) : s.keeps t.channelEdge := by
  have completed := keeps_either t.txDone (keeps_completeTx h) h
  exact keeps_evalFlow (keeps_parserTake (keeps_gapCheck (keeps_vcReceive completed)))

@[simp] theorem State.keeps_linkEdge (h : s.keeps t) (old : State) : s.keeps (t.linkEdge old) := by
  have received := keeps_linkReceive h
  have ended : s.keeps (if t.linkReceive.sl.link = .sending ∧ old.sl.link = .sending ∧ t.linkReceive.sl.left = 0 then
      t.linkReceive.endFrame else t.linkReceive) := keeps_ite.mpr ⟨fun _ => keeps_endFrame received, fun _ => received⟩
  exact keeps_select (keeps_ite.mpr ⟨fun _ => keeps_endSpacing ended, fun _ => ended⟩) _

@[simp] theorem State.keeps_fireBoundary (h : s.keeps t) (g : Group) : s.keeps (t.fireBoundary g) := by
  simp [State.fireBoundary, State.keeps_ite, h]

@[simp] theorem State.keeps_drainBoundary (h : s.keeps t) (g : Group) : s.keeps (t.drainBoundary g) := by
  simp [State.drainBoundary, State.keeps_ite, h]

@[simp] theorem State.keeps_pollBoundary (h : s.keeps t) : s.keeps t.pollBoundary := by
  simp [State.pollBoundary, State.keeps_ite, h]

@[simp] theorem State.keeps_silenceBoundary (h : s.keeps t) : s.keeps t.silenceBoundary := by
  simp [State.silenceBoundary, State.keeps_ite, h]

@[simp] theorem State.keeps_stallBoundary (h : s.keeps t) : s.keeps t.stallBoundary := by
  simp [State.stallBoundary, State.keeps_ite, h]

@[simp] theorem State.keeps_readyBoundary (h : s.keeps t) : s.keeps t.readyBoundary := by
  simp [State.readyBoundary, State.keeps_ite, h]

@[simp] theorem State.keeps_boundary (h : s.keeps t) : s.keeps t.boundary := by
  have fired := keeps_foldl (fun hu g => keeps_fireBoundary hu g) h allGroups
  have drained := keeps_foldl (fun hu g => keeps_drainBoundary hu g) fired allGroups
  exact keeps_readyBoundary (keeps_stallBoundary (keeps_silenceBoundary (keeps_pollBoundary drained)))

@[simp] theorem State.keeps_divide (h : s.keeps t) : s.keeps t.divide := by
  unfold State.divide
  exact State.keeps_of_same h rfl rfl

@[simp] theorem State.keeps_tick (h : s.keeps t) : s.keeps t.tick := by
  unfold State.tick
  extract_lets turned before counted boundary timed old moved seen stepped linked expired
  have h1 : s.keeps counted := keeps_countPeriods (keeps_divide (keeps_takeSample h))
  have h2 : s.keeps timed := keeps_either _ (keeps_countTimers h1) h1
  have h3 : s.keeps moved := keeps_either _ (keeps_positionEvent h2) h2
  have h4 : s.keeps seen := keeps_recognise h3
  have h5 : s.keeps stepped := keeps_either _ (keeps_genTick h4) h4
  have h6 : s.keeps linked := keeps_linkEdge (keeps_channelEdge h5) old
  have h7 : s.keeps expired := keeps_either _ (keeps_boundary h6) h6
  exact keeps_closeEdge (keeps_followSelect (keeps_either _ (keeps_endTurnaround h7) h7) before)

@[simp] theorem State.keeps_withPending (h : s.keeps t) (q : List Instr) : s.keeps (t.withPending q) := by
  unfold State.withPending
  exact State.keeps_of_same h rfl rfl

@[simp] theorem State.keeps_withFetchWord (h : s.keeps t) (nbits w : Nat) : s.keeps (t.withFetchWord nbits w) := by
  unfold State.withFetchWord
  exact State.keeps_of_same h rfl rfl


end
end Sys2Proof.Machine
end

section
/-! SUPPORT. The commands that are completed write words, said once; and the two step invariants. -/

namespace Sys2Proof.Machine

/-- The word that replaces one flag of a register (log 8). -/
def State.flagWrite (s : State) (r : Reg) (i : Nat) (b : Bool) : Option (Addr × Word) :=
  some (r.address, s.wordWith r (1#32 <<< i) (flagAt b i))

/-- The address and the word of a command that is a completed write word (logs 7 and 8). -/
def writtenWord (s : State) (c : Instr) : Option (Addr × Word) :=
  match c with
  | .registerWrite a v => some (a, v)
  | .unmappedWrite a v => some (a, v)
  | .installLock o => some (Reg.hpCtrl.address, o ||| 1#32)
  | .refusedClear o => some (Reg.hpCtrl.address, o ||| 2#32)
  | .tableDataWrite table v => some ((dataReg table).address, v)
  | .start o => some (Reg.rcCommand.address, o ||| 1#32)
  | .stop o => some (Reg.rcCommand.address, o ||| 2#32)
  | .abort o => some (Reg.rcCommand.address, o ||| 4#32)
  | .recover o => some (Reg.rcCommand.address, o ||| 8#32)
  | .snapshot o => some (Reg.rcAction.address, o ||| 1#32)
  | .clearCounters o => some (Reg.rcAction.address, o ||| 2#32)
  | .selectiveClear bank v => some ((clearReg bank).address, v)
  | .clearLog o => some (Reg.rcAction.address, o ||| 4#32)
  | .clearRx o => some (Reg.rcAction.address, o ||| 8#32)
  | .deviceReset o => some (Reg.rcAction.address, o ||| 16#32)
  | .eventClear v => some (Reg.rcEventClear.address, v)
  | .intPolarityChange b => s.flagWrite .rcCfg 0 b
  | .countRestart b => s.flagWrite .rcDemand 0 b
  | .linkEnableChange b => s.flagWrite .slCfg 0 b
  | .userCommandRequest b => s.flagWrite .slDemand 0 b
  | .slotCancel v => some (Reg.slSlotCancel.address, v)
  | .flush => s.flagWrite .brDemand 0 true
  | .srRequest b => s.flagWrite .sqDemand 0 b
  | .frRequest b => s.flagWrite .sqDemand 1 b
  | .captureNow b => s.flagWrite .csDemand 0 b
  | .periodicRequest gen b => s.flagWrite .csDemand (perBit gen + 1) b
  | .referenceRequest gen b => s.flagWrite .csDemand (refBit gen + 3) b
  | .randomEnable b => s.flagWrite .csRandomEnable 0 b
  | .generatorEnable b => s.flagWrite .lpGenEnable 0 b
  | .sourceChange b => s.flagWrite .lpCfg 0 b
  | .indexUseChange b => s.flagWrite .lpCfg 1 b
  | .stallLimitWrite ms => some (Reg.lpStallMs.address, s.wordWith .lpStallMs 0xFFFF#32 (ms.zeroExtend 32))
  | .rawModeChange b => s.flagWrite .vcCfg 0 b
  | .parserPause b => s.flagWrite .vcCfg 1 b
  | .swFlowClear => s.flagWrite .vcFlowCfg 0 false
  | .hwFlowClear => s.flagWrite .vcFlowCfg 1 false
  | .silenceLimitWrite ms => some (Reg.vcSilenceMs.address, s.wordWith .vcSilenceMs 0xFFFF#32 (ms.zeroExtend 32))
  | _ => none

/-- A command that is a completed write word does what every such word does (R8). -/
theorem exec_of_writtenWord {s : State} {c : Instr} {a : Addr} {v : Word} (h : writtenWord s c = some (a, v)) :
    exec c s = .next (s.hostWrite a v) := by
  cases c <;> cases h <;> rfl

/-- A word written at RC_ACTION is the command's action word (R176). -/
theorem actionWord_of_writtenWord {s : State} {c : Instr} {v : Word}
    (h : writtenWord s c = some (Reg.rcAction.address, v)) : actionWord c = some v := by
  have apart : ∀ r : Reg, r ≠ .rcAction → ∀ x, some (r.address, x) ≠ some (Reg.rcAction.address, v) := by
    intro r hr x e
    simp only [Option.some.injEq, Prod.mk.injEq] at e
    have := regAt_address r
    rw [e.1, regAt_address] at this
    exact hr (Option.some.inj this).symm
  cases c with
  | registerWrite a w => cases h; simp [actionWord]
  | unmappedWrite a w => cases h; simp [actionWord]
  | snapshot o | clearCounters o | clearLog o | clearRx o | deviceReset o => cases h; rfl
  | tableDataWrite table w => exact absurd h (apart _ (by cases table <;> decide) _)
  | selectiveClear bank w => exact absurd h (apart _ (by cases bank <;> decide) _)
  | _ => first | exact absurd h (apart _ (by decide) _) | cases h

/-- A word written at RC_COMMAND is the command's command word (R167). -/
theorem commandWord_of_writtenWord {s : State} {c : Instr} {v : Word}
    (h : writtenWord s c = some (Reg.rcCommand.address, v)) : commandWord c = some v := by
  have apart : ∀ r : Reg, r ≠ .rcCommand → ∀ x, some (r.address, x) ≠ some (Reg.rcCommand.address, v) := by
    intro r hr x e
    simp only [Option.some.injEq, Prod.mk.injEq] at e
    have := regAt_address r
    rw [e.1, regAt_address] at this
    exact hr (Option.some.inj this).symm
  cases c with
  | registerWrite a w => cases h; simp [commandWord]
  | unmappedWrite a w => cases h; simp [commandWord]
  | start o | stop o | abort o | recover o => cases h; rfl
  | tableDataWrite table w => exact absurd h (apart _ (by cases table <;> decide) _)
  | selectiveClear bank w => exact absurd h (apart _ (by cases bank <;> decide) _)
  | _ => first | exact absurd h (apart _ (by decide) _) | cases h

/-- What a row answers, from what it is known to answer. -/
theorem keeps_of_exec {s t u : State} {c : Instr} (hu : exec c s = .next u) (hk : s.keeps u)
    (h : exec c s = .next t) : s.keeps t := by
  rw [hu] at h
  cases h
  exact hk

/-- Every command keeps the invariants. -/
theorem exec_keeps {s t : State} {c : Instr} (h : exec c s = .next t) : s.keeps t := by
  have here := State.keeps_refl s
  have arrived := fun p => State.keeps_arrive here p
  rcases hw : writtenWord s c with _ | ⟨a, v⟩
  · cases c with
    | pinReset => exact keeps_of_exec rfl (State.keeps_pinReset s) h
    | readinessEnd => exact keeps_of_exec rfl (State.keeps_endReadiness (arrived _)) h
    | unmappedRead a => exact keeps_of_exec rfl (State.keeps_hostRead here a) h
    | tableDataRead table => exact keeps_of_exec rfl (State.keeps_hostRead here _) h
    | logPop => exact keeps_of_exec rfl (State.keeps_hostRead here _) h
    | rawRead => exact keeps_of_exec rfl (State.keeps_hostRead here _) h
    | transactionHeader b0 b1 b2 => exact keeps_of_exec rfl (State.keeps_header here b0 b1 b2) h
    | transactionEnd => exact keeps_of_exec rfl (State.keeps_endTransactionHost here) h
    | encoderStep forward => exact keeps_of_exec rfl (State.keeps_takeStep (arrived _) forward) h
    | indexEdge => exact keeps_of_exec rfl (State.keeps_takeIndexEdge (arrived _)) h
    | generatorStep =>
      have restarted :
        s.keeps { s.arrive .generator with lp := { (s.arrive .generator).lp with genTimer := some 0 } } :=
        State.keeps_lp (arrived _) rfl
      exact keeps_of_exec rfl (State.keeps_either _ (State.keeps_forwardStep restarted) (arrived _)) h
    | senseEdge => exact keeps_of_exec rfl (State.keeps_takeSense (arrived _)) h
    | positionEvent pins =>
      have sampled : s.keeps { s with pins := pins } := State.keeps_of_same here rfl rfl
      exact keeps_of_exec rfl (State.keeps_either _ here (State.keeps_positionEvent (State.keeps_arrive sampled _))) h
    | cycleStart =>
      exact keeps_of_exec rfl (State.keeps_either _ (State.keeps_foldl (fun hu g => State.keeps_refTest hu g)
        (State.keeps_advanceIndex (arrived .step)) _) (arrived _)) h
    | missingIndex =>
      exact keeps_of_exec rfl
        (State.keeps_either _ (State.keeps_settleFaults (State.keeps_countSince (arrived .step))) (arrived _)) h
    | stallExpiry =>
      exact keeps_of_exec rfl (State.keeps_either _ (State.keeps_expireStall (arrived .late)) (arrived _)) h
    | sensorDue => exact keeps_of_exec rfl (State.keeps_ringProposal (arrived _)) h
    | bracketProposal => exact keeps_of_exec rfl (State.keeps_bracketPropose (arrived _)) h
    | bracketStart => exact keeps_of_exec rfl (State.keeps_bracketStartOne (arrived _)) h
    | periodicOccurrence gen =>
      have tested := State.keeps_perTest (arrived .step) gen
      exact keeps_of_exec rfl (State.keeps_either _ (State.keeps_perPropose tested gen) tested) h
    | referenceDue gen => exact keeps_of_exec rfl (State.keeps_refPropose (State.keeps_refMark (arrived _) gen) gen) h
    | firePulseEnd group => exact keeps_of_exec rfl (State.keeps_setFire (arrived _) group none) h
    | modelDrain group =>
      exact keeps_of_exec rfl (State.keeps_either _ (State.keeps_drainModel (arrived .late) group) (arrived _)) h
    | gateRetirement => exact keeps_of_exec rfl (State.keeps_refreshSilence (State.keeps_retireOne (arrived _))) h
    | gatePulseEnd line => exact keeps_of_exec rfl (State.keeps_endPulse (arrived _) line) h
    | quiesceEnd seq =>
      exact keeps_of_exec rfl (State.keeps_either _ (State.keeps_judgeQuiesce (arrived .step) seq) (arrived _)) h
    | recoverEnd seq =>
      exact keeps_of_exec rfl (State.keeps_either _ (State.keeps_judgeRecover (arrived .step) seq) (arrived _)) h
    | runDrained => exact keeps_of_exec rfl (State.keeps_drainedTest (arrived _)) h
    | fullResyncStart =>
      exact keeps_of_exec rfl
        (State.keeps_either _ (State.keeps_flushRoute (State.keeps_startFull (arrived .step))) (arrived _)) h
    | stationResyncStart =>
      exact keeps_of_exec rfl (State.keeps_either _ (State.keeps_startStation (arrived .step)) (arrived _)) h
    | vcCharacter char idle => exact keeps_of_exec rfl (State.keeps_characterEdge (arrived _) char idle) h
    | parseEntry =>
      exact keeps_of_exec rfl
        (State.keeps_either _ (State.keeps_evalFlow (State.keeps_parserTake (arrived .parse))) (arrived _)) h
    | truncatedGap =>
      exact keeps_of_exec rfl (State.keeps_either _ (State.keeps_truncate (arrived .parse)) (arrived _)) h
    | packetAccept seqNo records =>
      by_cases ok : recordCountOk records = true
      · have answer : exec (.packetAccept seqNo records) s = .next ((s.arrive .accept).acceptPacket seqNo records) :=
          if_pos ok
        exact keeps_of_exec answer (State.keeps_acceptPacket (arrived _) seqNo records) h
      · have answer : exec (.packetAccept seqNo records) s = .refused .malformedPacket := if_neg ok
        rw [answer] at h
        cases h
    | vcTxComplete => exact keeps_of_exec rfl (State.keeps_completeTx (arrived _)) h
    | silenceExpiry =>
      exact keeps_of_exec rfl (State.keeps_either _ (State.keeps_expireSilence (arrived .late)) (arrived _)) h
    | frameSelection => exact keeps_of_exec rfl (State.keeps_closeEdge (State.keeps_select (arrived _) _)) h
    | frameEnd => exact keeps_of_exec rfl (State.keeps_either _ (State.keeps_endFrame (arrived .linkEnd)) (arrived _)) h
    | spacingEnd =>
      exact keeps_of_exec rfl (State.keeps_either _ (State.keeps_endSpacing (arrived .linkEnd)) (arrived _)) h
    | pollTimerExpiry =>
      exact keeps_of_exec rfl (State.keeps_either _ (State.keeps_expirePoll (arrived .late)) (arrived _)) h
    | statusReply char => exact keeps_of_exec rfl (State.keeps_linkCharacter (arrived _) char) h
    | replyCharacter char => exact keeps_of_exec rfl (State.keeps_linkCharacter (arrived _) char) h
    | unsolicitedCharacter char => exact keeps_of_exec rfl (State.keeps_linkCharacter (arrived _) char) h
    | replyTimeout =>
      exact keeps_of_exec rfl (State.keeps_either _ (State.keeps_endWithMiss (arrived .linkEnd) 1) (arrived _)) h
    | shortReply =>
      exact keeps_of_exec rfl (State.keeps_either _ (State.keeps_endWithMiss (arrived .linkEnd) 2) (arrived _)) h
    | slotGuardOpening slot =>
      exact keeps_of_exec rfl (State.keeps_either _ (State.keeps_openingArrives (arrived .step) slot) (arrived _)) h
    | slotAnchor slot =>
      exact keeps_of_exec rfl (State.keeps_either _ (State.keeps_anchorArrives (arrived .step) slot) (arrived _)) h
    | _ => cases hw
  · exact keeps_of_exec (exec_of_writtenWord hw) (State.keeps_hostWrite here a v) h

/-- Every step keeps the invariants: a command, or an edge of the clock. -/
theorem step_keeps {s t : State} (h : step s = .next t) : s.keeps t := by
  unfold step at h
  split at h
  · exact State.keeps_trans (State.keeps_withPending (State.keeps_refl s) _) (exec_keeps h)
  · cases h
    exact State.keeps_tick (State.keeps_refl s)

/-- Settles O58: every step keeps the invariant of the memories and the lists. -/
theorem stepsKeepTheCapacities : Obligations.StepsKeepTheCapacities :=
  fun _ _ tables within h => (step_keeps h).1 ⟨tables, within⟩

/-- Settles O59: every step keeps the exclusions. -/
theorem stepsKeepTheExclusions : Obligations.StepsKeepTheExclusions :=
  fun _ _ gates uncaptured slots receiver h => (step_keeps h).2 ⟨gates, uncaptured, slots, receiver⟩

/-- Settles O60: after reset every list is empty, every slot Idle and nothing active. -/
theorem resetMeetsTheInvariants : Obligations.ResetMeetsTheInvariants :=
  ⟨reset_tablesCanonical, (State.withinCapacity_iff _).mpr reset_within, (State.exclusive_iff _).mpr reset_exclusive⟩

end Sys2Proof.Machine
end

section
/-! SUPPORT. What each command leaves of the install lock and of the shadow bank: the inversion of a write word, and the
lemmas on the operations that write beside them. -/

namespace Sys2Proof.Machine

/-! ### A write word, by what it does -/

theorem regAt_eq_some {a : Addr} {r : Reg} (h : regAt a = some r) : a = r.address := by
  have found := List.find?_some h
  simp only [beq_iff_eq] at found
  simp [Reg.address, found]

/-- A write word at the port performs a register's effect, goes to a table, or is refused (R8, R13). -/
theorem State.writeWord_cases (s : State) (a : Addr) (v : Word) :
    (∃ r, regAt a = some r ∧ s.writeWord a v = s.disarm.applyWord r v s.rc.resetArmed) ∨
    (∃ t, s.writeWord a v = s.disarm.writeTablePort t v a) ∨
    ∃ why, s.writeWord a v = s.disarm.refuse true why 0 a := by
  unfold State.writeWord
  dsimp only
  split
  · next r hr =>
      have here := regAt_eq_some hr
      unfold State.writeRegister
      split
      · next t _ => exact .inr (.inl ⟨t, by rw [here]⟩)
      · split
        · exact .inr (.inr ⟨_, by rw [here]⟩)
        · split
          · exact .inr (.inr ⟨_, by rw [here]⟩)
          · exact .inl ⟨r, hr, rfl⟩
  · split
    · exact .inr (.inr ⟨_, rfl⟩)
    · exact .inr (.inr ⟨_, rfl⟩)

/-- A state at whose port a word has begun: nothing of it is changed but the header, the transaction and the place. -/
def State.begun (s : State) (txn : Option Transaction) : State :=
  { s with port := { s.port with heading := false, txn := txn }, sl := { s.sl with place := .late } }

/-- A write word is not heard, is dropped by a port that is not ready, or is written (R1, R6, R8). -/
theorem State.hostWrite_cases (s : State) (a : Addr) (v : Word) : s.hostWrite a v = s ∨
    ∃ txn, s.hostWrite a v = (s.begun txn).advanceTxn ∨ s.hostWrite a v = ((s.begun txn).writeWord a v).advanceTxn := by
  unfold State.hostWrite
  split
  · exact .inl rfl
  · refine .inr ⟨if s.continues false (s.burstAddr a v) then s.port.txn else none, ?_⟩
    dsimp only
    split
    · exact .inr rfl
    · exact .inl rfl

/-! ### The install lock (R9) -/

@[simp] theorem State.advanceTxn_installLock (s : State) : s.advanceTxn.port.installLock = s.port.installLock := by
  unfold State.advanceTxn
  split <;> rfl

@[simp] theorem State.dropRawElement_installLock (s : State) :
    s.dropRawElement.port.installLock = s.port.installLock := by
  unfold State.dropRawElement
  (repeat' split) <;> rfl

@[simp] theorem State.parserTake_installLock (s : State) : s.parserTake.port.installLock = s.port.installLock := by
  unfold State.parserTake
  (repeat' split) <;> simp

@[simp] theorem State.refuse_installLock (s : State) (w : Bool) (why : AccessReason) (i : Nat) (a : Addr) :
    (s.refuse w why i a).port.installLock = s.port.installLock := by
  unfold State.refuse
  dsimp only
  split <;> simp

@[simp] theorem State.writeTablePort_installLock (s : State) (t : TableId) (v : Word) (a : Addr) :
    (s.writeTablePort t v a).port.installLock = s.port.installLock := by
  unfold State.writeTablePort
  cases t <;> dsimp only <;> (repeat' split) <;> simp

@[simp] theorem State.completeRead_installLock (s : State) (a : Addr) (w : WordStart) :
    (s.completeRead a w).port.installLock = s.port.installLock := by
  unfold State.completeRead
  dsimp only
  (repeat' split) <;> simp

@[simp] theorem State.hostRead_installLock (s : State) (a : Addr) :
    (s.hostRead a).port.installLock = s.port.installLock := by
  unfold State.hostRead
  dsimp only
  split <;> simp [State.joinTxn]

/-- A word to RC_ACTION without its last action: the snapshot and the clears (R176). -/
def State.cleared (s : State) (v : Word) : State :=
  let s := if bit v 0 then s.snapshot else s
  let s := if bit v 1 then s.clearCounters else s
  let s := if bit v 2 then s.clearLog else s
  if bit v 3 then s.clearRx else s

theorem State.action_eq (s : State) (v : Word) (armed : Bool) :
    s.action v armed = if bit v 4 then (s.cleared v).deviceReset armed else s.cleared v := rfl

@[simp] theorem State.cleared_port (s : State) (v : Word) : (s.cleared v).port = s.port := by
  simp [State.cleared, State.snapshot, State.clearCounters, apply_ite State.port]

/-- A register's effect leaves the lock set, unless it is the soft reset (R9, R176). -/
theorem State.applyWord_installLock (s : State) (r : Reg) (v : Word) (armed : Bool)
    (h : s.port.installLock = true) : (s.applyWord r v armed).port.installLock = true ∨
      r = .rcAction ∧ armed = true ∧ bit v 4 = true := by
  by_cases action : r = .rcAction
  · subst action
    change ((s.action v armed).port.installLock = true) ∨ _
    rw [State.action_eq]
    by_cases fires : bit v 4 = true
    · cases armed with
      | true => exact .inr ⟨rfl, rfl, fires⟩
      | false => exact .inl (by simp [fires, State.deviceReset, h])
    · exact .inl (by simp [fires, h])
  · refine .inl ?_
    unfold State.applyWord
    split
    case h_29 => exact absurd rfl action
    all_goals simp [State.applyCtrl, apply_ite State.port, h]

/-- A write word leaves the lock set, unless it fires the soft reset. -/
theorem State.hostWrite_installLock (s : State) (a : Addr) (v : Word) (h : s.port.installLock = true) :
    (s.hostWrite a v).port.installLock = true ∨
      a = Reg.rcAction.address ∧ s.rc.resetArmed = true ∧ bit v 4 = true := by
  rcases s.hostWrite_cases a v with heard | ⟨txn, dropped | written⟩
  · exact .inl (by rw [heard]; exact h)
  · exact .inl (by rw [dropped, State.advanceTxn_installLock]; exact h)
  · have held : (s.begun txn).port.installLock = true := h
    rw [written, State.advanceTxn_installLock]
    rcases (s.begun txn).writeWord_cases a v with ⟨r, hr, applied⟩ | ⟨t, table⟩ | ⟨why, refused⟩
    · rw [applied]
      refine ((s.begun txn).disarm.applyWord_installLock r v _ h).imp_right fun ⟨action, armed, fires⟩ => ?_
      exact ⟨action ▸ regAt_eq_some hr, armed, fires⟩
    · exact .inl (by simpa [table] using held)
    · exact .inl (by simpa [refused] using held)

/-- A fold whose every step leaves a part of the state alone leaves it alone. -/
theorem State.foldl_leaves {α β : Type} {p : State → α} {f : State → β → State} (hf : ∀ s b, p (f s b) = p s)
    (l : List β) (s : State) : p (l.foldl f s) = p s := by
  induction l generalizing s with
  | nil => rfl
  | cons b l ih => rw [List.foldl_cons, ih, hf]

@[simp] theorem State.characterEdge_installLock (s : State) (c : LineChar) (idle : Nat) :
    (s.characterEdge c idle).port.installLock = s.port.installLock := by
  simp [State.characterEdge]

@[simp] theorem State.header_installLock (s : State) (b0 b1 b2 : Byte) :
    (s.header b0 b1 b2).port.installLock = s.port.installLock := rfl

@[simp] theorem State.endTransactionHost_installLock (s : State) :
    s.endTransactionHost.port.installLock = s.port.installLock := rfl

@[simp] theorem State.endReadiness_installLock (s : State) :
    s.endReadiness.port.installLock = s.port.installLock := rfl

/-- The end of a gate pulse writes the lines of the gates alone (R115). -/
@[simp] theorem State.endPulse_leaves (s : State) (l : GateLine) :
    (s.endPulse l).port = s.port ∧ (s.endPulse l).lp = s.lp ∧ (s.endPulse l).ad = s.ad ∧ (s.endPulse l).rc = s.rc ∧
    (s.endPulse l).shadows = s.shadows ∧ (s.endPulse l).snapTravel = s.snapTravel ∧
    (s.endPulse l).snapCount = s.snapCount := by
  cases l <;> simp only [State.endPulse] <;> split <;> simp

/-- What is known of what a command answers holds of the state after it. -/
theorem of_exec {s t u : State} {c : Instr} {P : State → Prop} (hu : exec c s = .next u) (hp : P u)
    (h : exec c s = .next t) : P t := by
  rw [hu] at h
  cases h
  exact hp

/-- Settles O11: of the write words the soft reset alone clears the lock, and no other command but a pin reset. -/
theorem theInstallLockStays : Obligations.TheInstallLockStays := by
  intro s t c locked h
  rcases hw : writtenWord s c with _ | ⟨a, v⟩
  · cases c with
    | pinReset => exact .inr (.inl rfl)
    | packetAccept seqNo records =>
      by_cases ok : recordCountOk records = true
      · have answer : exec (.packetAccept seqNo records) s = .next ((s.arrive .accept).acceptPacket seqNo records) :=
          if_pos ok
        exact .inl (of_exec (P := (·.port.installLock = true)) answer (by simp [locked]) h)
      · rw [show exec (.packetAccept seqNo records) s = .refused .malformedPacket from if_neg ok] at h
        cases h
    | cycleStart =>
      refine .inl (of_exec (P := (·.port.installLock = true)) rfl ?_ h)
      simp [locked, apply_ite State.port, State.foldl_leaves (p := (·.port)) (f := State.refTest)]
    | _ =>
      first
      | cases hw; done
      | exact .inl (of_exec (P := (·.port.installLock = true)) rfl
          (by simp [locked, apply_ite State.port, apply_ite Port.installLock]) h)
  · rw [exec_of_writtenWord hw] at h
    cases h
    refine (s.hostWrite_installLock a v locked).imp_right fun ⟨action, armed, fires⟩ => .inr ⟨armed, ?_⟩
    rw [actionWord_of_writtenWord (action ▸ hw)]
    simpa using fires

/-! ### The shadow bank (R179) -/

/-- The shadow bank with its two companions. -/
def State.bank (s : State) : List (Nat × Word) × Travel × Word := (s.shadows, s.snapTravel, s.snapCount)

/-- A register's effect leaves the shadow bank, unless it is an action. -/
theorem State.applyWord_bank (s : State) (r : Reg) (v : Word) (armed : Bool) (h : r ≠ .rcAction) :
    (s.applyWord r v armed).bank = s.bank := by
  unfold State.applyWord
  split
  case h_29 => exact absurd rfl h
  all_goals
    simp [State.bank, State.applyCtrl, apply_ite State.shadows, apply_ite State.snapTravel, apply_ite State.snapCount]

/-- What a word to RC_ACTION makes of the shadow bank (R176, R179). -/
theorem State.action_bank (s : State) (v : Word) (armed : Bool) :
    (s.action v armed).bank = s.bank ∨
      (s.action v armed).bank = (s.counters, s.lp.travel, s.snapCount + 1#32) ∧ bit v 0 = true ∨
      (s.action v armed).bank = ([], 0#32, 0#32) ∧ armed = true ∧ bit v 4 = true := by
  have kept : (s.cleared v).bank = if bit v 0 then (s.counters, s.lp.travel, s.snapCount + 1#32) else s.bank := by
    unfold State.cleared State.snapshot State.clearCounters
    split <;> simp [State.bank, apply_ite State.shadows, apply_ite State.snapTravel, apply_ite State.snapCount]
  have unfired : (s.cleared v).bank = s.bank ∨
      (s.cleared v).bank = (s.counters, s.lp.travel, s.snapCount + 1#32) ∧ bit v 0 = true := by
    rw [kept]
    by_cases h : bit v 0 = true <;> simp [h]
  rw [State.action_eq]
  by_cases fires : bit v 4 = true
  · cases armed with
    | true => exact .inr (.inr ⟨by rw [if_pos fires]; rfl, rfl, fires⟩)
    | false =>
      rw [if_pos fires]
      exact unfired.imp_right .inl
  · rw [if_neg fires]
    exact unfired.imp_right .inl

@[simp] theorem State.writeTablePort_bank (s : State) (t : TableId) (v : Word) (a : Addr) :
    (s.writeTablePort t v a).bank = s.bank := by
  simp [State.bank]

@[simp] theorem State.refuse_bank (s : State) (w : Bool) (why : AccessReason) (i : Nat) (a : Addr) :
    (s.refuse w why i a).bank = s.bank := by
  simp [State.bank]

@[simp] theorem State.advanceTxn_bank (s : State) : s.advanceTxn.bank = s.bank := by
  simp [State.bank]

/-- A write word leaves the shadow bank but by its actions. -/
theorem State.hostWrite_bank (s : State) (a : Addr) (v : Word) :
    (s.hostWrite a v).bank = s.bank ∨ a = Reg.rcAction.address ∧
      ((s.hostWrite a v).bank = (s.counters, s.lp.travel, s.snapCount + 1#32) ∧ bit v 0 = true ∨
        (s.hostWrite a v).bank = ([], 0#32, 0#32) ∧ s.rc.resetArmed = true ∧ bit v 4 = true) := by
  rcases s.hostWrite_cases a v with heard | ⟨txn, dropped | written⟩
  · exact .inl (by rw [heard])
  · exact .inl (by rw [dropped, State.advanceTxn_bank]; rfl)
  · rw [written, State.advanceTxn_bank]
    rcases (s.begun txn).writeWord_cases a v with ⟨r, hr, applied⟩ | ⟨t, table⟩ | ⟨why, refused⟩
    · rw [applied]
      by_cases action : r = .rcAction
      · subst action
        exact ((s.begun txn).disarm.action_bank v _).imp_right fun acts => ⟨regAt_eq_some hr, acts⟩
      · exact .inl ((s.begun txn).disarm.applyWord_bank r v _ action)
    · exact .inl (by rw [table, State.writeTablePort_bank]; rfl)
    · exact .inl (by rw [refused, State.refuse_bank]; rfl)

/-- The bank part by part. -/
theorem State.bank_eq {s : State} {x : List (Nat × Word)} {y : Travel} {z : Word} :
    s.bank = (x, y, z) ↔ s.shadows = x ∧ s.snapTravel = y ∧ s.snapCount = z := by
  simp [State.bank]

/-- Settles O24: of the commands that are no write words the pin reset alone touches the bank; of the write words those
at RC_ACTION do. -/
theorem shadowsChangeOnlyAtSnapshot : Obligations.ShadowsChangeOnlyAtSnapshot := by
  intro s t c h
  suffices bank : t.bank = s.bank ∨
      t.bank = (s.counters, s.lp.travel, s.snapCount + 1#32) ∧ (actionWord c).any (bit · 0) = true ∨
      t.bank = ([], 0#32, 0#32) ∧
        (c = .pinReset ∨ s.rc.resetArmed = true ∧ (actionWord c).any (bit · 4) = true) by
    simpa only [State.bank_eq, State.bank, Prod.mk.injEq, and_assoc] using bank
  rcases hw : writtenWord s c with _ | ⟨a, v⟩
  · cases c with
    | pinReset =>
      cases h
      exact .inr (.inr ⟨rfl, .inl rfl⟩)
    | packetAccept seqNo records =>
      by_cases ok : recordCountOk records = true
      · have answer : exec (.packetAccept seqNo records) s = .next ((s.arrive .accept).acceptPacket seqNo records) :=
          if_pos ok
        exact .inl (of_exec (P := (·.bank = s.bank)) answer (by simp [State.bank]) h)
      · rw [show exec (.packetAccept seqNo records) s = .refused .malformedPacket from if_neg ok] at h
        cases h
    | cycleStart =>
      refine .inl (of_exec (P := (·.bank = s.bank)) rfl ?_ h)
      rw [apply_ite State.bank, State.foldl_leaves (p := State.bank) (by simp [State.bank])]
      simp [State.bank]
    | _ =>
      first
      | cases hw; done
      | exact .inl (of_exec (P := (·.bank = s.bank)) rfl
          (by simp [State.bank, apply_ite State.shadows, apply_ite State.snapTravel, apply_ite State.snapCount]) h)
  · rw [exec_of_writtenWord hw] at h
    cases h
    refine (s.hostWrite_bank a v).imp_right fun ⟨action, acts⟩ => ?_
    rw [actionWord_of_writtenWord (action ▸ hw)]
    exact acts.imp id fun ⟨zero, armed, fires⟩ => ⟨zero, .inr ⟨armed, fires⟩⟩

end Sys2Proof.Machine
end

section
/-! SUPPORT. Words bit by bit and field by field; and a completed write word to a register that takes every word, from
what its effect does. -/

namespace Sys2Proof.Machine

/-! ### Bits and fields of words -/

theorem bit_and (v w : Word) (i : Nat) : bit (v &&& w) i = (bit v i && bit w i) := BitVec.getLsbD_and

theorem bit_not (v : Word) (i : Nat) (h : i < 32) : bit (~~~v) i = !bit v i := by
  simp [bit, h]

theorem bit_flagAt (b : Bool) {i : Nat} (hi : i < 32) (j : Nat) : bit (flagAt b i) j = (b && decide (i = j)) := by
  cases b with
  | false => simp [bit, flagAt]
  | true =>
    have : (i = j) ↔ (j < 32 ∧ i ≤ j ∧ j - i < 1) := by omega
    simp [bit, flagAt, BitVec.getLsbD_shiftLeft, BitVec.getLsbD_one, this]
    grind

/-! ### What the registers that show the part read as -/

section
variable (s : State)

theorem State.readRegister_hpStatus : s.readRegister .hpStatus = s.hpStatus := rfl

theorem State.readRegister_hpCtrl : s.readRegister .hpCtrl = flagAt s.port.installLock 0 := rfl

theorem State.readRegister_lpCycle :
    s.readRegister .lpCycle = place s.lp.cycleIndex 0 ||| place s.lp.cycleNumber.toNat 16 := rfl

theorem State.readRegister_lpPhase :
    s.readRegister .lpPhase = place s.lp.phaseKind.code 0 ||| place s.lp.phaseOffset.toNat 16 := rfl

theorem State.readRegister_lpStatus : s.readRegister .lpStatus = s.lpStatus := rfl

theorem State.readRegister_csDemand : s.readRegister .csDemand = s.csDemand := rfl

theorem State.readRegister_csStatus : s.readRegister .csStatus = s.csStatus := rfl

theorem State.readRegister_adModelStatus : s.readRegister .adModelStatus = s.adModelStatus := rfl

theorem State.readRegister_adItem :
    s.readRegister .adItem = place s.ad.nextId.toNat 0 ||| place s.ad.epoch.toNat 24 := rfl

theorem State.readRegister_lgStatus : s.readRegister .lgStatus = s.lgStatus := rfl

theorem State.readRegister_lgOldestWait : s.readRegister .lgOldestWait = s.lgOldestWait := rfl

theorem State.readRegister_lgHeadGate : s.readRegister .lgHeadGate = s.lgHeadGate := rfl

theorem State.readRegister_vcStatus : s.readRegister .vcStatus = s.vcStatus := rfl

theorem State.readRegister_gdStatus : s.readRegister .gdStatus = s.gdStatus := rfl

theorem State.readRegister_slStatus : s.readRegister .slStatus = s.slStatus := rfl

theorem State.readRegister_slDemand : s.readRegister .slDemand = flagAt s.sl.userRequest 0 := rfl

theorem State.readRegister_slSlotStatus : s.readRegister .slSlotStatus = s.slSlotStatus := rfl

theorem State.readRegister_slQueueStatus : s.readRegister .slQueueStatus = s.slQueueStatus := rfl

theorem State.readRegister_brStatus : s.readRegister .brStatus = s.brStatus := rfl

theorem State.readRegister_sqDemand :
    s.readRegister .sqDemand = flagAt s.sq.demandSr 0 ||| flagAt s.sq.demandFr 1 := rfl

theorem State.readRegister_sqStatus : s.readRegister .sqStatus = s.sqStatus := rfl

theorem State.readRegister_sqPositions : s.readRegister .sqPositions = s.sqPositions := rfl

theorem State.readRegister_rcStatus : s.readRegister .rcStatus = s.rcStatus := rfl

theorem State.readRegister_rcFault : s.readRegister .rcFault = s.rcFault := rfl

theorem State.readRegister_rcDemand : s.readRegister .rcDemand = flagAt s.rc.countRestart 0 := rfl

end

/-- The word that replaces one flag of what a register reads as (log 8). -/
def State.flagWord (s : State) (r : Reg) (i : Nat) (b : Bool) : Word := s.wordWith r (1#32 <<< i) (flagAt b i)

/-- The flag is as asked. -/
theorem State.bit_flagWord_self (s : State) (r : Reg) (b : Bool) {i : Nat} (hi : i < 32) :
    bit (s.flagWord r i b) i = b := by
  have mask : bit (1#32 <<< i) i = true := by simpa [flagAt] using bit_flagAt true hi i
  simp [State.flagWord, State.wordWith, merge, bit_or, bit_and, bit_not, hi, mask, bit_flagAt]

/-- Every other bit is as the register reads. -/
theorem State.bit_flagWord_other (s : State) (r : Reg) (b : Bool) {i j : Nat} (hi : i < 32) (hj : j < 32)
    (h : i ≠ j) : bit (s.flagWord r i b) j = bit (s.readRegister r) j := by
  have mask : bit (1#32 <<< i) j = false := by simpa [flagAt, h] using bit_flagAt true hi j
  simp [State.flagWord, State.wordWith, merge, bit_or, bit_and, bit_not, hj, mask]

/-- A command that replaces one flag of a register writes that word. -/
theorem exec_of_flagWrite {s : State} {c : Instr} (r : Reg) (i : Nat) (b : Bool)
    (h : writtenWord s c = s.flagWrite r i b) : exec c s = .next (s.hostWrite r.address (s.flagWord r i b)) :=
  exec_of_writtenWord h

/-! ### When the field checks of R8 pass -/

/-- With the lock open a register without Setup fields takes every word. -/
theorem State.fieldFault_unlocked {s : State} {r : Reg} {v : Word} (unlocked : s.port.installLock = false)
    (setup : r.info.setup = 0#32) : s.fieldFault r v = none := by
  simp [State.fieldFault, unlocked, setup]

/-- In Halted a register without Install fields takes every word. -/
theorem State.fieldFault_halted {s : State} {r : Reg} {v : Word} (halted : s.rc.state = .halted)
    (install : r.info.install = 0#32) : s.fieldFault r v = none := by
  simp [State.fieldFault, halted, install]

/-! ### A write word to a register that takes every word -/

/-- A register that is no table port and holds no Install and no Setup field takes every word. -/
abbrev Reg.free (r : Reg) : Prop :=
  tableOf r = none ∧ readOnly r.address = false ∧ r.info.install = 0#32 ∧ r.info.setup = 0#32

/-- A permitted word whose effect leaves the port alone does that effect, and beside it what every word does. -/
theorem State.hostWrite_of_permitted {s u : State} {r : Reg} {v : Word} (h : s.listens) (noTable : tableOf r = none)
    (writable : readOnly r.address = false) (permitted : s.fieldFault r v = none)
    (own : s.burstAddr r.address v = r.address)
    (effect : (s.wordBegun r.address).applyWord r v s.rc.resetArmed = u)
    (port : u.port = (s.wordBegun r.address).port) :
    s.hostWrite r.address v = { u with port := (s.wordDone r.address).port } := by
  rw [State.hostWrite_eq s r v h noTable writable permitted own (by rw [effect, port]), effect, port]
  rfl

/-- A word to a register that takes every word, its effect leaving the port alone. -/
theorem State.hostWrite_of_effect {s u : State} {r : Reg} {v : Word} (h : s.listens) (free : r.free)
    (own : s.burstAddr r.address v = r.address)
    (effect : (s.wordBegun r.address).applyWord r v s.rc.resetArmed = u)
    (port : u.port = (s.wordBegun r.address).port) :
    s.hostWrite r.address v = { u with port := (s.wordDone r.address).port } := by
  obtain ⟨noTable, writable, noInstall, noSetup⟩ := free
  exact State.hostWrite_of_permitted h noTable writable (State.fieldFault_free s r v noInstall noSetup) own effect port

/-- A word to a register other than RC_ACTION continues the transaction at its own address. -/
theorem State.burstAddr_of_ne (s : State) {r : Reg} (v : Word) (h : r ≠ .rcAction) :
    s.burstAddr r.address v = r.address := by
  refine State.burstAddr_eq _ _ _ (.inl fun same => h ?_)
  have := regAt_address r
  rw [same, regAt_address] at this
  exact (Option.some.inj this).symm

/-! ### Stored registers -/

theorem State.regs_canonical {s : State} (h : s.tablesCanonical = true) : tableWf regReset s.regs = true :=
  ((State.tablesCanonical_iff s).mp h).1

theorem State.counters_canonical {s : State} (h : s.tablesCanonical = true) :
    tableWf zeroDefault s.counters = true :=
  ((State.tablesCanonical_iff s).mp h).2.2.2.1

/-- A counter read just after one of its causes. -/
theorem State.counter_bump_self {s : State} {c k : Ctr} (h : tableWf zeroDefault s.counters = true)
    (hk : k.offset = c.offset) : (s.bump c).counter k = s.counter k + 1#32 :=
  State.counter_bumpBy_self s c k 1 h hk

/-- A counter read after a cause of another. -/
theorem State.counter_bump_other {s : State} {c k : Ctr} (hk : k.offset ≠ c.offset) :
    (s.bump c).counter k = s.counter k :=
  State.counter_bumpBy_other s c k 1 hk

theorem State.bump_counters_wf {s : State} (c : Ctr) (h : tableWf zeroDefault s.counters = true) :
    tableWf zeroDefault (s.bump c).counters = true :=
  State.bumpBy_counters_wf s c 1 h

/-- A register reads back its stored bits of a word, the others as they stood (R8). -/
theorem State.reg_storeWord_self {s : State} (r : Reg) (v : Word) (h : tableWf regReset s.regs = true) :
    (s.storeWord r v).reg r = merge r.stored v (s.reg r) :=
  State.reg_setReg_self s r _ h

theorem State.reg_storeWord_other (s : State) {r q : Reg} (v : Word) (h : q ≠ r) :
    (s.storeWord r v).reg q = s.reg q :=
  State.reg_setReg_other s r q _ h

/-- A permitted word to a register that nothing but its stored bits follows. -/
theorem State.hostWrite_stored {s : State} {r : Reg} {v : Word} (h : s.listens) (noTable : tableOf r = none)
    (writable : readOnly r.address = false) (permitted : s.fieldFault r v = none)
    (own : s.burstAddr r.address v = r.address)
    (effect : (s.wordBegun r.address).applyWord r v s.rc.resetArmed = (s.wordBegun r.address).storeWord r v) :
    s.hostWrite r.address v = (s.wordDone r.address).storeWord r v :=
  (State.hostWrite_of_permitted h noTable writable permitted own effect rfl).trans rfl

theorem bit_merge (mask v w : Word) {i : Nat} (hi : i < 32) :
    bit (merge mask v w) i = if bit mask i = true then bit v i else bit w i := by
  cases hm : bit mask i <;> simp [merge, bit_or, bit_and, bit_not, hi, hm]

/-! ### Fields of words -/

theorem testBit_field (w : Word) (i n j : Nat) : (field w i n).testBit j = (decide (j < n) && bit w (i + j)) := by
  simp [field, bit, Nat.testBit_shiftRight, BitVec.testBit_toNat]

theorem bit_place (x k j : Nat) : bit (place x k) j = (decide (j < 32) && decide (k ≤ j) && x.testBit (j - k)) := by
  simp only [bit, place, BitVec.getLsbD_shiftLeft, BitVec.getLsbD_ofNat]
  by_cases hj : j < 32
  · have : j - k < 32 := by omega
    by_cases hk : k ≤ j
    · simp [hj, hk, this]
    · simp [hk, Nat.lt_of_not_le hk]
  · simp [hj]

theorem field_or (v w : Word) (i n : Nat) : field (v ||| w) i n = field v i n ||| field w i n := by
  simp [field, BitVec.extractLsb'_or]

/-- The low bits of a number at its own place. -/
theorem field_place_mod {x i n : Nat} (hi : i + n ≤ 32) : field (place x i) i n = x % 2 ^ n := by
  refine Nat.eq_of_testBit_eq fun j => ?_
  rw [testBit_field, bit_place, Nat.testBit_mod_two_pow]
  by_cases hj : j < n
  · have : i + j < 32 := by omega
    simp [hj, this]
  · simp [hj]

/-- A number at its own place. -/
theorem field_place {x i n : Nat} (hx : x < 2 ^ n) (hi : i + n ≤ 32) : field (place x i) i n = x := by
  rw [field_place_mod hi, Nat.mod_eq_of_lt hx]

/-- A number placed above a field leaves it 0. -/
theorem field_place_above {x i n k : Nat} (h : i + n ≤ k) : field (place x k) i n = 0 := by
  refine Nat.eq_of_testBit_eq fun j => ?_
  rw [testBit_field, bit_place]
  by_cases hj : j < n
  · have : ¬ k ≤ i + j := by omega
    simp [this]
  · simp [hj]

/-- A number placed below a field, and short enough to end there, leaves it 0. -/
theorem field_place_below {x i n k : Nat} (hk : k ≤ i) (h : x < 2 ^ (i - k)) : field (place x k) i n = 0 := by
  refine Nat.eq_of_testBit_eq fun j => ?_
  have short : x.testBit (i + j - k) = false :=
    Nat.testBit_lt_two_pow (lt_of_lt_of_le h (Nat.pow_le_pow_right (by decide) (by omega)))
  rw [testBit_field, bit_place, short]
  simp

/-- A flag outside a field leaves it 0. -/
theorem field_flagAt_outside {b : Bool} {i n k : Nat} (hk : k < 32) (h : k < i ∨ i + n ≤ k) :
    field (flagAt b k) i n = 0 := by
  refine Nat.eq_of_testBit_eq fun j => ?_
  rw [testBit_field, bit_flagAt b hk]
  by_cases hj : j < n
  · have : ¬ k = i + j := by omega
    simp [this]
  · simp [hj]

/-- A number placed above a bit leaves it clear. -/
theorem bit_place_above {x k j : Nat} (h : j < k) : bit (place x k) j = false := by
  have : ¬ k ≤ j := by omega
  simp [bit_place, this]

/-- A number placed below a bit, and short enough to end there, leaves it clear. -/
theorem bit_place_below {x k j : Nat} (hk : k ≤ j) (h : x < 2 ^ (j - k)) : bit (place x k) j = false := by
  simp [bit_place, Nat.testBit_lt_two_pow h]

end Sys2Proof.Machine
end

section
/-! SUPPORT. The host port's control words, refusals, snapshots and requests (chapters 1, 12 and 13): the obligations
whose proof is the word's own effect. -/

namespace Sys2Proof.Machine

/-- Settles O1: the first branch of `step`. -/
theorem stepRunsTheFrontCommand : Obligations.StepRunsTheFrontCommand := by
  intro s c rest front
  simp [step, front, State.withPending]

/-- A refusal, part by part (R12). -/
theorem State.refuse_eq (s : State) (w : Bool) (why : AccessReason) (i : Nat) (a : Addr) :
    s.refuse w why i a = { s with
      counters := (s.bump .accessRefusals).counters
      rc := { s.rc with flags := s.rc.flags ||| 0x80000#32 }
      port := { s.port with
        refused := if bit s.port.refused 31 then s.port.refused else refusalRecord w why i a } } := by
  unfold State.refuse
  dsimp only
  split
  · next full =>
    have : bit s.port.refused 31 = true := full
    simp [this]
    rfl
  · next empty =>
    have : ¬ bit s.port.refused 31 = true := empty
    simp [this]
    rfl

/-- Settles O5: the record's fields stand at bits of their own. -/
theorem refusalsAreCountedAndRecorded : Obligations.RefusalsAreCountedAndRecorded := by
  intro s w why i a hi
  have code : why.code < 2 ^ 3 := by cases why <;> decide
  have addr : a.toNat % 8192 < 2 ^ 13 := by omega
  have record : refusalRecord w why i a = flagAt true 31 ||| flagAt w 30 ||| place why.code 27 |||
      flagAt (a.getLsbD 13) 26 ||| place i 13 ||| place (a.toNat % 8192) 0 := by
    have low : (a.extractLsb' 0 13).zeroExtend 32 = BitVec.ofNat 32 (a.toNat % 8192) := by
      refine BitVec.eq_of_toNat_eq ?_
      simp
    simp [refusalRecord, place, ← low]
  refine ⟨?_, ?_, ?_, ?_, ?_, ?_, ?_⟩
  · exact State.refuse_eq s w why i a
  all_goals rw [record]
  · simp [bit_or, bit_flagAt]
  · simp (disch := omega) [bit_or, bit_flagAt, bit_place_below]
  · simp (disch := omega) [field_or, field_flagAt_outside, field_place, field_place_below]
  · simp (disch := omega) [field_or, field_flagAt_outside, field_place, field_place_above, field_place_below]
  · simp (disch := omega) [bit_or, bit_flagAt, bit_place_above, bit_place_below]
  · simp (disch := omega) [field_or, field_flagAt_outside, field_place, field_place_above]

/-- Settles O45: the branches of the decision, in order. -/
theorem outcomesAreDecided : Obligations.OutcomesAreDecided := by
  intro s e v id
  refine ⟨fun aux => by simp [State.decideOutcome, aux], fun item => ⟨fun pass => ?_, fun reject => ?_, fun off => ?_⟩⟩
  · simp [State.decideOutcome, item, State.overrideOutcome, pass]
  · simp [State.decideOutcome, item, State.overrideOutcome, reject]
  · have decided : s.decideOutcome e = s.baseOutcome e := by
      rcases off with off | off <;> simp [State.decideOutcome, item, State.overrideOutcome, off]
    rw [decided]
    refine ⟨fun uncaptured => ?_, fun captured heard other => ?_, fun captured heard audited passes => ?_,
      fun captured unheard pass => ?_, fun captured unheard divert => ?_, fun captured unheard reject => ?_⟩
    · simp only [State.baseOutcome, uncaptured, Option.isNone_none, if_true, State.uncapturedPolicy, policyOf]
      split <;> simp_all
    · have kept : ¬ (e.audit = true ∧ v.code = .pass) := by
        rintro ⟨audited, passes⟩
        exact other.elim (by simp [audited]) (· passes)
      simp [State.baseOutcome, captured, heard, upgrade, kept]
    · simp [State.baseOutcome, captured, heard, upgrade, audited, passes]
    · simp [State.baseOutcome, captured, unheard, upgrade, State.defaultPolicy, pass, policyOf]
    · simp [State.baseOutcome, captured, unheard, upgrade, State.defaultPolicy, divert, policyOf]
    · have policy : s.defaultPolicy = .reject := by
        rcases reject with off | off <;> simp [State.defaultPolicy, off, policyOf]
      simp [State.baseOutcome, captured, unheard, upgrade, policy]

/-- A word to HP_CTRL sets the lock and clears the record as its bits say (R9, R16). -/
theorem State.hostWrite_ctrl {s : State} (v : Word) (h : s.listens) : s.hostWrite Reg.hpCtrl.address v =
    { s.wordDone Reg.hpCtrl.address with
      port := { (s.wordDone Reg.hpCtrl.address).port with
        installLock := s.port.installLock || bit v 0
        refused := if bit v 1 then 0#32 else s.port.refused } } := by
  rw [State.hostWrite_eq s .hpCtrl v h rfl (by decide) (State.fieldFault_free s _ v rfl rfl)
    (State.burstAddr_of_ne s v (by decide)) rfl]
  rfl

/-- Settles O10: both rows are a word to HP_CTRL, with its own bit set. -/
theorem controlWordsLockAndClear : Obligations.ControlWordsLockAndClear := by
  refine ⟨fun s o h => ⟨?_, ?_⟩, fun s => ⟨rfl, rfl, rfl, ?_, ?_, ?_, ?_, ?_⟩⟩
  · rw [exec_of_writtenWord (a := Reg.hpCtrl.address) (v := o ||| 1#32) rfl, State.hostWrite_ctrl _ h]
    simp [bit_or, show bit 1#32 0 = true from rfl, show bit 1#32 1 = false from rfl]
  · rw [exec_of_writtenWord (a := Reg.hpCtrl.address) (v := o ||| 2#32) rfl, State.hostWrite_ctrl _ h]
    simp [bit_or, show bit 2#32 0 = false from rfl, show bit 2#32 1 = true from rfl]
  · simp [State.readRegister_hpStatus, State.hpStatus, bit_or, bit_flagAt]
  · simp [State.readRegister_hpStatus, State.hpStatus, bit_or, bit_flagAt]
  · simp [State.readRegister_hpStatus, State.hpStatus, bit_or, bit_flagAt]
  · simp (disch := omega) [State.readRegister_hpStatus, State.hpStatus, field_or, field_flagAt_outside]
  · simp [State.readRegister_hpCtrl, flagAt]

/-! ### Requests -/

/-- A word to CS_DEMAND replaces the six requests (R44, R45, R52). -/
theorem State.hostWrite_demand {s : State} (v : Word) (h : s.listens) : s.hostWrite Reg.csDemand.address v =
    { s.wordDone Reg.csDemand.address with cs := { s.cs with
        captureNow := bit v 0, reqP1 := bit v 1, reqP2 := bit v 2, reqRefA := bit v 3, reqRefB := bit v 4
        reqRefC := bit v 5 } } := by
  rw [State.hostWrite_of_effect h (by decide) (State.burstAddr_of_ne s v (by decide))
    (u := (s.wordBegun Reg.csDemand.address).applyDemand v) rfl rfl]
  rfl

/-- A word to SQ_DEMAND replaces the two requests (R159). -/
theorem State.hostWrite_seqDemand {s : State} (v : Word) (h : s.listens) : s.hostWrite Reg.sqDemand.address v =
    { s.wordDone Reg.sqDemand.address with sq := { s.sq with demandSr := bit v 0, demandFr := bit v 1 } } := by
  rw [State.hostWrite_of_effect h (by decide) (State.burstAddr_of_ne s v (by decide))
    (u := (s.wordBegun Reg.sqDemand.address).applySeqDemand v) rfl rfl]
  rfl

/-- A word to RC_DEMAND sets the Count Restart, or cancels it where the Cycle Mark slot lets it (R149). -/
theorem State.hostWrite_restartDemand {s : State} (v : Word) (h : s.listens) : s.hostWrite Reg.rcDemand.address v =
    { s.wordDone Reg.rcDemand.address with rc := { s.rc with
        resetArmed := false
        countRestart := bit v 0 || (s.rc.countRestart &&
          ((s.slot .cycleMark).state == .due || (s.slot .cycleMark).state == .sending)) } } := by
  have slot : (s.wordBegun Reg.rcDemand.address).slot .cycleMark = s.slot .cycleMark := rfl
  have effect : (s.wordBegun Reg.rcDemand.address).applyRestartDemand v =
      { s.wordBegun Reg.rcDemand.address with rc := { s.rc with
          resetArmed := false
          countRestart := bit v 0 || (s.rc.countRestart &&
            ((s.slot .cycleMark).state == .due || (s.slot .cycleMark).state == .sending)) } } := by
    unfold State.applyRestartDemand State.restartCancellable
    rw [slot]
    cases hb : bit v 0 <;> cases hs : (s.slot .cycleMark).state <;> simp [State.wordBegun]
  rw [State.hostWrite_of_effect h (by decide) (State.burstAddr_of_ne s v (by decide))
    (u := (s.wordBegun Reg.rcDemand.address).applyRestartDemand v) rfl (by rw [effect]), effect]
  rfl

/-- Settles O28: each request is one bit of its demand register's word, whose other bits it writes as they read. -/
theorem requestsAreSetAndCancelled : Obligations.RequestsAreSetAndCancelled := by
  refine ⟨fun s b h => ⟨?_, ?_, ?_, ?_, ?_, ?_, ?_, ?_, ?_⟩, fun s => ⟨?_, ?_⟩⟩
  · rw [exec_of_flagWrite .csDemand 0 b rfl, State.hostWrite_demand _ h]
    simp [State.bit_flagWord_self, State.bit_flagWord_other, State.readRegister_csDemand, State.csDemand, bit_or,
      bit_flagAt]
  · rw [exec_of_flagWrite .csDemand 1 b rfl, State.hostWrite_demand _ h]
    simp [State.bit_flagWord_self, State.bit_flagWord_other, State.readRegister_csDemand, State.csDemand, bit_or,
      bit_flagAt]
  · rw [exec_of_flagWrite .csDemand 2 b rfl, State.hostWrite_demand _ h]
    simp [State.bit_flagWord_self, State.bit_flagWord_other, State.readRegister_csDemand, State.csDemand, bit_or,
      bit_flagAt]
  · rw [exec_of_flagWrite .csDemand 3 b rfl, State.hostWrite_demand _ h]
    simp [State.bit_flagWord_self, State.bit_flagWord_other, State.readRegister_csDemand, State.csDemand, bit_or,
      bit_flagAt]
  · rw [exec_of_flagWrite .csDemand 4 b rfl, State.hostWrite_demand _ h]
    simp [State.bit_flagWord_self, State.bit_flagWord_other, State.readRegister_csDemand, State.csDemand, bit_or,
      bit_flagAt]
  · rw [exec_of_flagWrite .csDemand 5 b rfl, State.hostWrite_demand _ h]
    simp [State.bit_flagWord_self, State.bit_flagWord_other, State.readRegister_csDemand, State.csDemand, bit_or,
      bit_flagAt]
  · rw [exec_of_flagWrite .sqDemand 0 b rfl, State.hostWrite_seqDemand _ h]
    simp [State.bit_flagWord_self, State.bit_flagWord_other, State.readRegister_sqDemand, bit_or, bit_flagAt]
  · rw [exec_of_flagWrite .sqDemand 1 b rfl, State.hostWrite_seqDemand _ h]
    simp [State.bit_flagWord_self, State.bit_flagWord_other, State.readRegister_sqDemand, bit_or, bit_flagAt]
  · rw [exec_of_flagWrite .rcDemand 0 b rfl, State.hostWrite_restartDemand _ h,
      State.bit_flagWord_self _ _ _ (by decide)]
  · simp [State.readRegister_sqDemand, bit_or, bit_flagAt]
  · simp [State.readRegister_sqDemand, bit_or, bit_flagAt]

/-! ### Actions (R176) -/

/-- A word to RC_ACTION without DEVICE_RESET does its other actions, and beside them what every word does. -/
theorem State.hostWrite_action {s : State} (v : Word) (h : s.listens) (unfired : bit v 4 = false) :
    s.hostWrite Reg.rcAction.address v =
      { (s.wordBegun Reg.rcAction.address).cleared v with port := (s.wordDone Reg.rcAction.address).port } := by
  refine State.hostWrite_of_effect h (by decide) (State.burstAddr_eq _ _ _ (.inr (.inl unfired))) ?_ (by simp)
  change (s.wordBegun Reg.rcAction.address).action v _ = _
  rw [State.action_eq, unfired]
  rfl

/-- The actions of a word whose action bits are known: those asked for by a mask, and those the command sets. -/
theorem State.hostWrite_action_of_bits {s : State} {o m k w : Word} (h : s.listens) (ho : o &&& m = k)
    (cover : ∀ i < 5, bit (m ||| w) i = true) (unfired : bit (k ||| w) 4 = false) :
    s.hostWrite Reg.rcAction.address (o ||| w) =
      { (s.wordBegun Reg.rcAction.address).cleared (k ||| w) with port := (s.wordDone Reg.rcAction.address).port } := by
  have known : ∀ i < 5, bit (o ||| w) i = bit (k ||| w) i := fun i hi => by
    have := cover i hi
    have both := congrArg (bit · i) ho
    simp only [bit_or, bit_and] at *
    cases hm : bit m i <;> simp_all
  rw [State.hostWrite_action _ h ((known 4 (by decide)).trans unfired)]
  simp only [State.cleared, known 0 (by decide), known 1 (by decide), known 2 (by decide), known 3 (by decide)]

/-- Settles O23: the copy is the first action of the word, the clear the second. -/
theorem snapshotCopiesEveryCounter : Obligations.SnapshotCopiesEveryCounter := by
  refine ⟨fun s o h => ⟨fun alone => ?_, fun clears => ?_⟩, fun s => ⟨rfl, rfl⟩⟩
  · rw [exec_of_writtenWord (a := Reg.rcAction.address) (v := o ||| 1#32) rfl,
      State.hostWrite_action_of_bits h alone (by decide) rfl]
    rfl
  · rw [exec_of_writtenWord (a := Reg.rcAction.address) (v := o ||| 1#32) rfl,
      State.hostWrite_action_of_bits h clears (by decide) rfl]
    rfl

/-- The groups of section 13.2 follow one another without overlap. -/
theorem counterGroups_ordered : counterGroups.Pairwise fun a b => a.1 + a.2 ≤ b.1 := by
  have trans : IsTrans (Nat × Nat) fun a b => a.1 + a.2 ≤ b.1 := ⟨fun a b c ab bc => by omega⟩
  have next : counterGroups.IsChain fun a b => a.1 + a.2 ≤ b.1 := by decide +kernel
  exact next.pairwise

/-- A counter lies in one group. -/
theorem counterGroups_unique {g k : Nat} {a b : Nat × Nat} {o : Nat} (hg : counterGroups[g]? = some a)
    (hk : counterGroups[k]? = some b) (ha : a.1 ≤ o ∧ o < a.1 + a.2) (hb : b.1 ≤ o ∧ o < b.1 + b.2) : k = g := by
  obtain ⟨gl, rfl⟩ := List.getElem?_eq_some_iff.mp hg
  obtain ⟨kl, rfl⟩ := List.getElem?_eq_some_iff.mp hk
  have ordered := List.pairwise_iff_getElem.mp counterGroups_ordered
  rcases Nat.lt_trichotomy k g with lt | eq | gt
  · have := ordered k g kl gl lt
    omega
  · exact eq
  · have := ordered g k gl kl gt
    omega

/-- A counter is cleared where the bit of its own group asks for it (R180). -/
theorem inGroups_eq {g f n i first : Nat} {v : Word} (hg : counterGroups[g]? = some (f, n)) (hi : i < n) :
    inGroups first v (f + i) = (decide (first ≤ g) && decide (g < first + 32) && bit v (g - first)) := by
  rw [Bool.eq_iff_iff]
  simp only [inGroups, List.any_eq_true, Bool.and_eq_true, decide_eq_true_eq]
  constructor
  · rintro ⟨⟨x, k⟩, there, ⟨asked, low⟩, high⟩
    have at_k : ((counterGroups.drop first).take 32)[k]? = some x := List.mem_zipIdx_iff_getElem?.mp there
    simp only [List.getElem?_take, List.getElem?_drop, Option.ite_none_right_eq_some] at at_k
    obtain ⟨within, at_k⟩ := at_k
    have own : first + k = g := counterGroups_unique hg at_k ⟨Nat.le_add_right f i, by simpa using hi⟩ ⟨low, high⟩
    subst own
    exact ⟨⟨by omega, by omega⟩, by simpa using asked⟩
  · rintro ⟨⟨low, high⟩, asked⟩
    refine ⟨((f, n), g - first), ?_, ⟨asked, Nat.le_add_right f i⟩, by simpa using hi⟩
    have : g - first < 32 := by omega
    simp [List.mem_zipIdx_iff_getElem?, this, List.getElem?_drop, low, hg]

/-- Settles O25: the group of a counter decides whether its bit clears it. -/
theorem countersAreClearedAsAsked : Obligations.CountersAreClearedAsAsked := by
  refine ⟨fun s o h alone => ?_, fun s b v h => ?_⟩
  · rw [exec_of_writtenWord (a := Reg.rcAction.address) (v := o ||| 2#32) rfl,
      State.hostWrite_action_of_bits h alone (by decide) rfl]
    rfl
  · cases b with
    | mask0 =>
      have clears := State.hostWrite_of_effect h (r := .ctClearMask0) (by decide)
        (State.burstAddr_of_ne s v (by decide))
        (u := (s.wordBegun Reg.ctClearMask0.address).clearGroups 0 v) rfl rfl
      refine ⟨_, (exec_of_writtenWord rfl).trans (congrArg Host.Outcome.next clears), rfl, fun g f n i hg hi => ?_⟩
      refine (readTable_filter 0#32 (fun o => !inGroups 0 v o) s.counters (f + i)).trans ?_
      rw [inGroups_eq hg hi]
      by_cases low : g < 32 <;> cases hv : bit v g <;> simp [low]
    | mask1 =>
      have clears := State.hostWrite_of_effect h (r := .ctClearMask1) (by decide)
        (State.burstAddr_of_ne s v (by decide))
        (u := (s.wordBegun Reg.ctClearMask1.address).clearGroups 32 (v &&& 0x3FFFFF#32)) rfl rfl
      refine ⟨_, (exec_of_writtenWord rfl).trans (congrArg Host.Outcome.next clears), rfl, fun g f n i hg hi => ?_⟩
      refine (readTable_filter 0#32 (fun o => !inGroups 32 (v &&& 0x3FFFFF#32) o) s.counters (f + i)).trans ?_
      rw [inGroups_eq hg hi]
      have last : g < 54 := (List.getElem?_eq_some_iff.mp hg).1
      by_cases high : 32 ≤ g
      · have masked : bit 0x3FFFFF#32 (g - 32) = true := by
          have : ∀ k < 22, bit 0x3FFFFF#32 k = true := by decide
          exact this _ (by omega)
        cases hv : bit v (g - 32) <;> simp [high, bit_and, masked, hv]
        omega
      · simp [high]

end Sys2Proof.Machine
end

section
/-! SUPPORT. Events and the interrupt, slot requests and their withdrawal, and the clear actions (sections 6.8, 7.7, 9.4
and 12.5). -/

namespace Sys2Proof.Machine

/-! ### Events and the interrupt (R174, R175) -/

/-- The lowest pending enabled event, and no other number, is the top cause. -/
theorem State.topCause_eq_iff (s : State) {n : Nat} (h : bit s.rc.flags 0 = false) (h1 : 1 ≤ n) (h19 : n ≤ 19) :
    s.topCause = n ↔ (bit s.rc.flags n && bit (s.reg .rcEventEnable) n) = true ∧
      ∀ m, 1 ≤ m → m < n → (bit s.rc.flags m && bit (s.reg .rcEventEnable) m) = false := by
  have none_at_zero : (bit s.rc.flags 0 && bit (s.reg .rcEventEnable) 0) = false := by simp [h]
  have at_n : s.topCause = n ↔
      (List.range 20).find? (fun i => bit (s.rc.flags &&& s.reg .rcEventEnable) i) = some n := by
    unfold State.topCause
    cases (List.range 20).find? fun i => bit (s.rc.flags &&& s.reg .rcEventEnable) i with
    | none =>
      simp only [Option.getD_none, reduceCtorEq, iff_false]
      omega
    | some k => simp
  rw [at_n, List.find?_range_eq_some]
  simp only [bit_and, Bool.not_eq_true', List.mem_range]
  constructor
  · rintro ⟨pending, -, least⟩
    exact ⟨pending, fun m _ hm => least m hm⟩
  · rintro ⟨pending, least⟩
    refine ⟨pending, by omega, fun m hm => ?_⟩
    rcases Nat.eq_zero_or_pos m with rfl | pos
    · exact none_at_zero
    · exact least m pos hm

/-- Settles O27. -/
theorem eventsDriveTheInterrupt : Obligations.EventsDriveTheInterrupt := by
  refine ⟨fun s v h => ?_, fun s n => State.topCause_eq_iff s, fun s b tables h unlocked => ?_⟩
  · have clears := State.hostWrite_of_effect h (r := .rcEventClear) (by decide)
      (State.burstAddr_of_ne s v (by decide)) (u := (s.wordBegun Reg.rcEventClear.address).clearEvents v) rfl rfl
    refine ⟨_, (exec_of_writtenWord rfl).trans (congrArg Host.Outcome.next clears), rfl, fun n h1 h19 => ?_⟩
    have masked : ∀ n, 1 ≤ n → n ≤ 19 → bit 0xFFFFE#32 n = true := by decide
    change bit (s.rc.flags &&& ~~~(v &&& 0xFFFFE#32)) n = _
    rw [bit_and, bit_not _ _ (by omega), bit_and, masked n h1 h19, Bool.and_true]
  · have permitted : s.fieldFault .rcCfg (s.flagWord .rcCfg 0 b) = none := State.fieldFault_unlocked unlocked rfl
    have stores := State.hostWrite_stored h (r := .rcCfg) rfl (by decide) permitted
      (State.burstAddr_of_ne s _ (by decide)) rfl
    have value := State.reg_storeWord_self (s := s.wordDone Reg.rcCfg.address) .rcCfg (s.flagWord .rcCfg 0 b)
      (State.regs_canonical tables)
    have polarity :
      bit (((s.wordDone Reg.rcCfg.address).storeWord .rcCfg (s.flagWord .rcCfg 0 b)).reg .rcCfg) 0 = b := by
      rw [value, bit_merge _ _ _ (by decide), if_pos (by decide), State.bit_flagWord_self _ _ _ (by decide)]
    have cause : ((s.wordDone Reg.rcCfg.address).storeWord .rcCfg (s.flagWord .rcCfg 0 b)).topCause = s.topCause := by
      unfold State.topCause
      rw [State.reg_storeWord_other _ _ (by decide)]
      rfl
    refine ⟨_, (exec_of_flagWrite .rcCfg 0 b rfl).trans (congrArg Host.Outcome.next stores), ?_, polarity, ?_⟩
    · rw [value]
      rfl
    · unfold State.intLevel State.flagOf
      rw [cause, polarity]
      by_cases none_pending : s.topCause = 0 <;> cases b <;> simp [none_pending]

/-! ### Requests and withdrawals of slots (R140, R144) -/

/-- A User Command request with the slot in a known state (R140). -/
theorem State.requestUser_eq (s : State) : s.requestUser =
    match (s.slot .user).state with
    | .idle => { s with sl := { s.sl with
        userRequest := true, slots := { s.sl.slots with user := { s.sl.slots.user with state := .armed } } } }
    | .sending => { s with sl := { s.sl with
        userRequest := true, slots := { s.sl.slots with user := { s.sl.slots.user with rerequest := true } } } }
    | _ => { s with counters := (s.bump .requestMerged).counters, sl := { s.sl with userRequest := true } } := by
  have same : ({ s with sl := { s.sl with userRequest := true } } : State).slot .user = s.slot .user := rfl
  have marked_again : (s.slot .user).rerequest = true →
      ({ s.sl.slots.user with rerequest := true } : Slot) = s.sl.slots.user := fun marked => by
    rw [← show s.sl.slots.user.rerequest = true from marked]
  unfold State.requestUser State.requestSlot
  simp only [same]
  cases hs : (s.slot .user).state with
  | sending =>
    dsimp only
    split
    · next marked => rw [marked_again marked]
    · rw [← hs]
      rfl
  | _ => rfl

/-- A withdrawal of the User Command request with the slot in a known state (R144). -/
theorem State.cancelUser_eq (s : State) : s.cancelUser =
    match (s.slot .user).state with
    | .idle => s
    | .due => s
    | .sending => if (s.slot .user).rerequest = true then { s with sl := { s.sl with
        userRequest := false
        slots := { s.sl.slots with user :=
          { s.sl.slots.user with rerequest := false, openingPassed := false, anchorPassed := false } } } } else s
    | _ => { s with sl := { s.sl with
        userRequest := false
        slots := { s.sl.slots with
          user := { s.sl.slots.user with state := .idle, again := false, waits := false } } } } := by
  unfold State.cancelUser
  cases (s.slot .user).state <;> rfl

/-- Settles O29: the word's one flag requests or withdraws, and the slot's state decides how. -/
theorem userCommandsAreRequested : Obligations.UserCommandsAreRequested := by
  rintro s d h rfl
  have effect : ∀ b, exec (.userCommandRequest b) s = .next
      { (s.wordBegun Reg.slDemand.address).applyUserDemand (s.flagWord .slDemand 0 b) with
        port := (s.wordDone Reg.slDemand.address).port } := fun b =>
    (exec_of_flagWrite .slDemand 0 b rfl).trans (congrArg Host.Outcome.next (State.hostWrite_of_effect h
      (r := .slDemand) (by decide) (State.burstAddr_of_ne s _ (by decide)) rfl (by simp)))
  have request : exec (.userCommandRequest true) s = .next
      { (s.wordBegun Reg.slDemand.address).requestUser with port := (s.wordDone Reg.slDemand.address).port } := by
    rw [effect, State.applyUserDemand, State.bit_flagWord_self _ _ _ (by decide)]
    rfl
  have withdraw : exec (.userCommandRequest false) s = .next
      { (s.wordBegun Reg.slDemand.address).cancelUser with port := (s.wordDone Reg.slDemand.address).port } := by
    rw [effect, State.applyUserDemand, State.bit_flagWord_self _ _ _ (by decide)]
    rfl
  have slot : (s.wordBegun Reg.slDemand.address).slot .user = s.slot .user := rfl
  rw [request, withdraw, State.requestUser_eq, State.cancelUser_eq, slot]
  refine ⟨fun idle => ?_, fun waiting => ?_, fun sending => ?_, fun waiting => ?_, fun sending marked => ?_,
    fun kept => ?_⟩
  · rw [idle]; rfl
  · rcases waiting with h | h | h <;> rw [h] <;> rfl
  · rw [sending]; rfl
  · rcases waiting with h | h <;> rw [h] <;> rfl
  · rw [sending, marked]; rfl
  · rcases kept with h | h | ⟨h, unmarked⟩
    · rw [h]; rfl
    · rw [h]; rfl
    · rw [h, unmarked]; rfl

/-- A word with one generator's bit cancels that one (R144). -/
theorem State.applySlotCancel_one (s : State) (g : RefGen) :
    s.applySlotCancel (1#32 <<< refBit g) = s.cancelReference g := by
  cases g <;> rfl

/-- Settles O30: the cancelled generator's slot and the generator itself go idle together. -/
theorem referenceSlotsAreCancelled : Obligations.ReferenceSlotsAreCancelled := by
  rintro s d g h rfl
  have cancel : exec (.slotCancel (1#32 <<< refBit g)) s = .next
      { (s.wordBegun Reg.slSlotCancel.address).cancelReference g with
        port := (s.wordDone Reg.slSlotCancel.address).port } := by
    refine (exec_of_writtenWord (a := Reg.slSlotCancel.address) rfl).trans (congrArg Host.Outcome.next ?_)
    exact State.hostWrite_of_effect h (r := .slSlotCancel) (by decide) (State.burstAddr_of_ne s _ (by decide))
      (State.applySlotCancel_one _ g) (by simp)
  have slot : (s.wordBegun Reg.slSlotCancel.address).slot (refSlot g) = s.slot (refSlot g) := by cases g <;> rfl
  rw [cancel]
  unfold State.cancelReference
  rw [slot]
  refine ⟨fun waiting => ?_, fun kept => ?_⟩
  · refine ⟨{ (((s.wordBegun Reg.slSlotCancel.address).idleSlot (refSlot g)).setRef g Reference.idle).bump
      .refCancelled with port := (s.wordDone Reg.slSlotCancel.address).port }, ?_, ?_, ?_, fun h other => ?_, ?_⟩
    · rcases waiting with h | h <;> rw [h]
    · cases g <;> rfl
    · exact State.ref_setRef_self ((s.wordBegun Reg.slSlotCancel.address).idleSlot (refSlot g)) g Reference.idle
    · exact State.ref_setRef_other
        ((s.wordBegun Reg.slSlotCancel.address).idleSlot (refSlot g)) g h Reference.idle other
    · cases g <;> rfl
  · rcases kept with h | h | h <;> rw [h] <;> rfl

end Sys2Proof.Machine
end

section
/-! SUPPORT. Flow control (section 6.7): what a request for a flow control character does, what a fill that does not
stand above UPPER leaves, and what one that stands above both limits does; and a packet dropped (R108). -/

namespace Sys2Proof.Machine

/-- The counter of a flow control character (R106). -/
def FlowChar.counter : FlowChar → Ctr
  | .pause => .pauseSent
  | .resume => .resumeSent

/-- A flow control character that starts on VC_TX (R106). -/
def State.flowTx (s : State) (c : FlowChar) : TxChar :=
  { char := c, data := s.flowData c, bitTime := s.vcBitTime, left := 11 * s.vcBitTime }

theorem State.startTx_eq (s : State) (c : FlowChar) : s.startTx c =
    { s with vc := { s.vc with tx := some (s.flowTx c) }, counters := (s.bump c.counter).counters } := by
  cases c <;> rfl

/-- A flow control character starts on an idle VC_TX and waits for a busy one (R106). -/
theorem State.requestTx_eq (s : State) (c : FlowChar) : s.requestTx c =
    { s with
      vc := { s.vc with
        tx := if s.vc.tx = none then some (s.flowTx c) else s.vc.tx
        waiting := if s.vc.tx = none then s.vc.waiting else some c }
      counters := if s.vc.tx = none then (s.bump c.counter).counters else s.counters } := by
  unfold State.requestTx
  cases h : s.vc.tx with
  | none => rw [State.startTx_eq]; simp
  | some x => simp [h]

/-- What VC_STALL becomes at the fill as it stands, between its two limits (R107). -/
def State.stallNow (s : State) : Bool :=
  if s.hwFlow = true then
    (if s.vc.stall = true then !decide (s.vc.fifo.length ≤ s.lowerLevel)
      else decide (s.upperLevel < s.vc.fifo.length))
  else s.vc.stall

/-- VC_STALL follows the fill between its two limits (R107). -/
theorem State.evalStall_eq (s : State) : s.evalStall = { s with vc := { s.vc with stall := s.stallNow } } := by
  have stalls : ∀ a b, a = b → ({ s with vc := { s.vc with stall := a } } : State) =
      { s with vc := { s.vc with stall := b } } := fun _ _ h => by rw [h]
  unfold State.evalStall
  split_ifs with on stalled low high
  · exact stalls _ _ (by simp [State.stallNow, on, stalled, low])
  · exact stalls s.vc.stall _ (by simp [State.stallNow, on, stalled, low])
  · exact stalls _ _ (by simp [State.stallNow, on, stalled, high])
  · exact stalls s.vc.stall _ (by simp [State.stallNow, on, stalled, high])
  · exact stalls s.vc.stall _ (by simp [State.stallNow, on])

/-- At or below UPPER the line can only be released. -/
theorem State.stallNow_of_low {s : State} (low : s.vc.fifo.length ≤ s.upperLevel) :
    s.stallNow = (s.vc.stall && !(s.hwFlow && decide (s.vc.fifo.length ≤ s.lowerLevel))) := by
  have notHigh : ¬ s.upperLevel < s.vc.fifo.length := by omega
  unfold State.stallNow
  cases s.hwFlow <;> cases s.vc.stall <;> simp [notHigh]

section
variable {s : State}

/-- Without a resume due, a fill at or below UPPER leaves all but the line (R105, R107). -/
theorem State.evalFlow_of_kept (low : s.vc.fifo.length ≤ s.upperLevel)
    (kept : ¬ (s.swFlow = true ∧ s.vc.flowPaused = true ∧ s.vc.fifo.length ≤ s.lowerLevel)) :
    s.evalFlow = { s with vc := { s.vc with stall := s.stallNow } } := by
  have notHigh : ¬ s.upperLevel < s.vc.fifo.length := by omega
  have unpaused : s.evalPause = s := by
    unfold State.evalPause
    split_ifs with on paused empties
    · exact absurd ⟨on, paused, empties⟩ kept
    all_goals rfl
  rw [State.evalFlow, unpaused, State.evalStall_eq]

/-- At LOWER a Paused controller resumes (R105, R106). -/
theorem State.evalFlow_of_resumed (on : s.swFlow = true) (paused : s.vc.flowPaused = true)
    (empties : s.vc.fifo.length ≤ s.lowerLevel) : s.evalFlow =
    { s with
      vc := { s.vc with
        flowPaused := false
        stall := s.stallNow
        tx := if s.vc.tx = none then some (s.flowTx .resume) else s.vc.tx
        waiting := if s.vc.tx = none then s.vc.waiting else some .resume }
      counters := if s.vc.tx = none then (s.bump .resumeSent).counters else s.counters } := by
  have resumed : s.evalPause = ({ s with vc := { s.vc with flowPaused := false } } : State).requestTx .resume := by
    unfold State.evalPause
    rw [if_pos on, if_pos paused, if_pos empties]
  rw [State.evalFlow, resumed, State.requestTx_eq, State.evalStall_eq]
  rfl

end

/-! ### A packet dropped and CLEAR_RX (R108) -/

theorem State.dropPacket_eq (s : State) : s.dropPacket =
    { s with
      vc := { s.vc with parser := if s.vc.parser.phase = .hunting then s.vc.parser else Parser.cleared }
      counters := if s.vc.parser.phase = .hunting then s.counters else (s.bump .packetsCleared).counters } := by
  unfold State.dropPacket
  by_cases h : s.vc.parser.phase = .hunting
  · simp only [if_pos h]
  · simp only [if_neg h]
    rfl

/-- The receive side emptied, before flow control looks at it: the counters that move on, in order. -/
def State.rxEmptied (s : State) : State :=
  let d := s.bumpBy .rxDiscarded s.vc.fifo.length
  { s with
    vc := { s.vc with
      fifo := [], idle := 0, parser := if s.vc.parser.phase = .hunting then s.vc.parser else Parser.cleared }
    counters := if s.vc.parser.phase = .hunting then d.counters else (d.bump .packetsCleared).counters }

theorem State.clearRx_eq (s : State) : s.clearRx = s.rxEmptied.evalFlow := by
  have dropped := State.dropPacket_eq (({ s with vc := { s.vc with fifo := [] } } : State).bumpBy .rxDiscarded
    s.vc.fifo.length)
  unfold State.clearRx
  dsimp only
  rw [dropped]
  rfl

section
variable {s : State} (h : tableWf zeroDefault s.counters = true)
include h

theorem State.rxEmptied_counters_wf : tableWf zeroDefault s.rxEmptied.counters = true := by
  have discarded := State.bumpBy_counters_wf s .rxDiscarded s.vc.fifo.length h
  simp only [State.rxEmptied]
  split
  · exact discarded
  · exact State.bump_counters_wf .packetsCleared discarded

omit h in
/-- A counter of the emptied receive side, with a packet in progress and without. -/
theorem State.rxEmptied_counter (c : Ctr) : s.rxEmptied.counter c =
    if s.vc.parser.phase = .hunting then (s.bumpBy .rxDiscarded s.vc.fifo.length).counter c
    else ((s.bumpBy .rxDiscarded s.vc.fifo.length).bump .packetsCleared).counter c := by
  by_cases hunting : s.vc.parser.phase = .hunting
  · rw [if_pos hunting]
    exact State.counter_congr (by simp only [State.rxEmptied, if_pos hunting]) c
  · rw [if_neg hunting]
    exact State.counter_congr (by simp only [State.rxEmptied, if_neg hunting]) c

theorem State.rxEmptied_rxDiscarded :
    s.rxEmptied.counter .rxDiscarded = s.counter .rxDiscarded + BitVec.ofNat 32 s.vc.fifo.length := by
  rw [State.rxEmptied_counter, State.counter_bump_other (by decide), ite_self]
  exact State.counter_bumpBy_self s .rxDiscarded .rxDiscarded s.vc.fifo.length h rfl

theorem State.rxEmptied_packetsCleared : s.rxEmptied.counter .packetsCleared = s.counter .packetsCleared +
    (if s.vc.parser.phase = .hunting then 0#32 else 1#32) := by
  rw [State.rxEmptied_counter, State.counter_bump_self (State.bumpBy_counters_wf s _ _ h) rfl,
    State.counter_bumpBy_other s .rxDiscarded .packetsCleared _ (by decide)]
  split <;> simp

omit h in
theorem State.rxEmptied_resumeSent : s.rxEmptied.counter .resumeSent = s.counter .resumeSent := by
  rw [State.rxEmptied_counter, State.counter_bump_other (by decide), ite_self]
  exact State.counter_bumpBy_other s .rxDiscarded .resumeSent _ (by decide)

end

/-- Settles O26: CLEAR_RX empties the receive side, and flow control then finds a fill of 0. -/
theorem clearActionsEmptyTheirQueues : Obligations.ClearActionsEmptyTheirQueues := by
  refine ⟨fun s o h alone => ?_, fun s o tables h alone => ?_⟩
  · rw [exec_of_writtenWord (a := Reg.rcAction.address) (v := o ||| 4#32) rfl,
      State.hostWrite_action_of_bits h alone (by decide) rfl]
    rfl
  · have clears : ∀ u, (s.wordBegun Reg.rcAction.address).rxEmptied.evalFlow = u →
        exec (.clearRx o) s = .next { u with port := (s.wordDone Reg.rcAction.address).port } := by
      rintro _ rfl
      rw [exec_of_writtenWord (a := Reg.rcAction.address) (v := o ||| 8#32) rfl,
        State.hostWrite_action_of_bits h alone (by decide) rfl, ← State.clearRx_eq]
      rfl
    have empty : ∀ n : Nat, (s.wordBegun Reg.rcAction.address).rxEmptied.vc.fifo.length ≤ n := Nat.zero_le
    have stall : (s.wordBegun Reg.rcAction.address).rxEmptied.stallNow = (s.vc.stall && !s.hwFlow) := by
      rw [State.stallNow_of_low (empty _), decide_eq_true (empty _), Bool.and_true]
      rfl
    have canonical : tableWf zeroDefault (s.wordBegun Reg.rcAction.address).counters = true :=
      State.counters_canonical tables
    have discarded := State.rxEmptied_rxDiscarded canonical
    have cleared := State.rxEmptied_packetsCleared canonical
    have unsent := State.rxEmptied_resumeSent (s := s.wordBegun Reg.rcAction.address)
    have sent := State.counter_bump_self (c := .resumeSent) (k := .resumeSent)
      (State.rxEmptied_counters_wf canonical) rfl
    by_cases due : s.swFlow = true ∧ s.vc.flowPaused = true
    · obtain ⟨on, paused⟩ := due
      have flow := State.evalFlow_of_resumed (s := (s.wordBegun Reg.rcAction.address).rxEmptied) on paused (empty _)
      rw [stall] at flow
      cases tx : s.vc.tx with
      | none =>
        have idle : (s.wordBegun Reg.rcAction.address).rxEmptied.vc.tx = none := tx
        simp only [if_pos idle] at flow
        refine ⟨_, clears _ flow, rfl, ?_, ?_, ?_, ?_, ?_, ?_⟩
        · simp only [on, paused]
          rfl
        · exact fun _ _ => ⟨fun _ => ⟨rfl, rfl⟩, fun busy => absurd rfl busy⟩
        · simp [on, paused]
        · exact (State.counter_bump_other (by decide)).trans discarded
        · exact (State.counter_bump_other (by decide)).trans cleared
        · simp only [on, paused, and_self, if_true]
          exact sent.trans (by rw [unsent]; rfl)
      | some x =>
        have busy : ¬ (s.wordBegun Reg.rcAction.address).rxEmptied.vc.tx = none := by
          change ¬ s.vc.tx = none
          simp [tx]
        simp only [if_neg busy] at flow
        refine ⟨_, clears _ flow, rfl, ?_, ?_, ?_, ?_, ?_, ?_⟩
        · simp only [on, paused]
          rfl
        · exact fun _ _ => ⟨fun idle => absurd idle (by simp), fun _ => ⟨tx, rfl⟩⟩
        · simp [on, paused]
        · exact discarded
        · exact cleared
        · simp
          exact unsent
    · have flow := State.evalFlow_of_kept (s := (s.wordBegun Reg.rcAction.address).rxEmptied) (empty _)
        fun resumes => due ⟨resumes.1, resumes.2.1⟩
      rw [stall] at flow
      refine ⟨_, clears _ flow, rfl, ?_, ?_, ?_, ?_, ?_, ?_⟩
      · have kept : (s.vc.flowPaused && !s.swFlow) = s.vc.flowPaused := by
          cases hp : s.vc.flowPaused <;> cases hs : s.swFlow <;> simp_all
        rw [kept]
        rfl
      · exact fun on paused => absurd ⟨on, paused⟩ due
      · exact fun _ => ⟨rfl, rfl⟩
      · exact discarded
      · exact cleared
      · rw [if_neg fun sends => due ⟨sends.1, sends.2.1⟩, BitVec.add_zero]
        exact unsent

end Sys2Proof.Machine
end

section
/-! SUPPORT. A completed read word that is a transaction of its own, said once (section 1.1), and the obligations about
what reads return. -/

namespace Sys2Proof.Machine

/-- The state in which a read word of its own performs its Port side effect: the value taken, the soft reset disarmed
(R2, R176). -/
def State.readTaken (s : State) (a : Addr) : State :=
  { s with
    port := { s.port with heading := false, sdo := s.readMapped a }
    sl := { s.sl with place := .late }
    rc := { s.rc with resetArmed := false } }

/-- The side effect of a completed read word at a ready port (R2, R13). -/
def State.readEffect (s : State) (a : Addr) (w : WordStart) : State :=
  match regAt a with
  | some r => s.readPort r w
  | none => if mapped a then s else s.refuse false .unmapped 0 a

theorem State.advancePointer_txn (s : State) (t : TableId) : (s.advancePointer t).port.txn = s.port.txn := rfl

theorem State.refuse_txn (s : State) (w : Bool) (why : AccessReason) (i : Nat) (a : Addr) :
    (s.refuse w why i a).port.txn = s.port.txn := by
  unfold State.refuse
  dsimp only
  split <;> rfl

/-- A read's side effect leaves the open transaction as it is. -/
theorem State.readEffect_txn (s : State) (a : Addr) (w : WordStart) : (s.readEffect a w).port.txn = s.port.txn := by
  unfold State.readEffect State.readPort
  (repeat' split) <;> simp [State.refuse_txn]

/-- What a read returns does not depend on where the word stands in its edge, nor on a header under way. -/
theorem State.startWord_placed (s : State) (a : Addr) : ({ s with
    port := { s.port with heading := false }, sl := { s.sl with place := .late } } : State).startWord a =
      s.startWord a := by
  have elements : ({ s with
      port := { s.port with heading := false }, sl := { s.sl with place := .late } } : State).hasElement a =
        s.hasElement a := rfl
  have values : ∀ r, ({ s with
      port := { s.port with heading := false }, sl := { s.sl with place := .late } } : State).readRegister r =
        s.readRegister r := fun r => by cases r <;> rfl
  simp only [State.startWord, elements, State.readWord, State.readMapped, values]
  rfl

/-- A read word of its own finds no open transaction and takes its value when it completes (log 5). -/
theorem State.hostRead_own {s : State} (a : Addr) (heard : s.port.deaf = false) (ht : s.port.txn = none) :
    s.hostRead a = (State.completeRead { s with
      port := { s.port with heading := false, sdo := (s.startWord a).value }
      sl := { s.sl with place := .late } } a (s.startWord a)).advanceTxn := by
  have joined : (s.arrive .late).joinTxn true a =
      { s with port := { s.port with heading := false }, sl := { s.sl with place := .late } } := by
    have own : (s.arrive .late).continues true a = false := by simp [State.continues, State.arrive_late, ht]
    rw [State.joinTxn, own, State.arrive_late, if_neg (by decide), ← ht]
  have unlatched : ({ s with
      port := { s.port with heading := false }, sl := { s.sl with place := .late } } : State).latchedWord = none := by
    simp [State.latchedWord, ht]
  unfold State.hostRead
  rw [if_neg (by simp [heard])]
  dsimp only
  rw [joined, unlatched, Option.getD_none, State.startWord_placed]

/-- A read word of its own at a port that listens. -/
theorem State.hostRead_single {s : State} (a : Addr) (h : s.listens) (ht : s.port.txn = none) :
    s.hostRead a = (s.readTaken a).readEffect a (s.startWord a) := by
  have ready : s.port.ready = true := h.1
  have value : (s.startWord a).value = s.readMapped a := by simp [State.startWord, State.readWord, ready]
  have taken : (s.startWord a).ready = true := ready
  rw [State.hostRead_own a (State.listens_not_deaf h) ht, value]
  have completed : ({ s with
      port := { s.port with heading := false, sdo := s.readMapped a }
      sl := { s.sl with place := .late } } : State).completeRead a (s.startWord a) =
        (s.readTaken a).readEffect a (s.startWord a) := by
    unfold State.completeRead State.readEffect
    rw [if_pos ready]
    simp only [taken, if_true]
    rfl
  exact (congrArg State.advanceTxn completed).trans
    (State.advanceTxn_none _ ((State.readEffect_txn _ _ _).trans ht))

/-- A read word of a register, by its Port side effect. -/
theorem State.hostRead_register {s : State} (r : Reg) (h : s.listens) (ht : s.port.txn = none) :
    s.hostRead r.address = (s.readTaken r.address).readPort r (s.startWord r.address) := by
  rw [State.hostRead_single _ h ht, State.readEffect, regAt_address]

theorem State.readMapped_address (s : State) (r : Reg) : s.readMapped r.address = s.readRegister r := by
  rw [State.readMapped, regAt_address]

/-- Settles O15: a table's data port reads the entry at the pointer, which the read moves on. -/
theorem tableReadsReturnAndAdvance : Obligations.TableReadsReturnAndAdvance := by
  intro s t h ht
  have read : exec (.tableDataRead t) s = .next (s.hostRead (dataReg t).address) := rfl
  rw [read, State.hostRead_register _ h ht, State.readTaken, State.readMapped_address]
  cases t <;> rfl

/-- The base of the live bank, or of the shadow bank, and an offset in it (section 13.2). -/
theorem bankAddr_toNat {a b : Addr} {k : Nat} (hk : k < 116) (hb : b.toNat ≤ 0x500) (ha : a = b + BitVec.ofNat 14 k) :
    a.toNat = b.toNat + k := by
  subst ha
  rw [BitVec.toNat_add, BitVec.toNat_ofNat]
  omega

/-- No register stands in the two counter banks. -/
theorem info_addr_not_bank (r : Reg) :
    ¬ (0x400 ≤ r.info.addr ∧ r.info.addr < 0x474 ∨ 0x500 ≤ r.info.addr ∧ r.info.addr < 0x574) := by
  cases r <;> decide

theorem regAt_bank {a : Addr} (h : 0x400 ≤ a.toNat ∧ a.toNat < 0x474 ∨ 0x500 ≤ a.toNat ∧ a.toNat < 0x574) :
    regAt a = none := by
  refine List.find?_eq_none.mpr fun r _ here => info_addr_not_bank r ?_
  rw [eq_of_beq here]
  exact h

/-- A counter reads back on its own offset, and a read of a bank has no side effect (R2, R13). -/
theorem State.hostRead_bank {s : State} {a : Addr} (h : s.listens) (ht : s.port.txn = none)
    (bank : 0x400 ≤ a.toNat ∧ a.toNat < 0x474 ∨ 0x500 ≤ a.toNat ∧ a.toNat < 0x574) :
    s.hostRead a = s.readTaken a := by
  have here : mapped a = true := by
    rcases bank with live | shadow
    · simp [mapped, liveAt, liveBase, Config.counters, live]
    · simp [mapped, shadowAt, shadowBase, Config.counters, shadow]
  rw [State.hostRead_single a h ht, State.readEffect, regAt_bank bank]
  simp only [here, if_true]

/-- Settles O22: a counter's address is its bank's base and its offset, where no register stands. -/
theorem countersCountAndWrap : Obligations.CountersCountAndWrap := by
  refine ⟨fun s c k n tables => ?_, fun s k a hk => ?_⟩
  · split
    · next same => exact State.counter_bumpBy_self s c k n (State.counters_canonical tables) same
    · next other => exact State.counter_bumpBy_other s c k n other
  · have live := bankAddr_toNat (a := a) (b := 0x400#14) hk (by decide)
    have shadow := bankAddr_toNat (a := a) (b := 0x500#14) hk (by decide)
    have liveBank : (0x400#14).toNat = 0x400 := rfl
    have shadowBank : (0x500#14).toNat = 0x500 := rfl
    refine ⟨fun ha => ?_, fun ha => ?_, fun ha h ht => ?_⟩
    · have at_a := live ha
      have offset : liveAt a = some k := by
        simp only [liveAt, liveBase, Config.counters, at_a, liveBank]
        rw [if_pos (by omega), Nat.add_sub_cancel_left]
      rw [State.readMapped, regAt_bank (by omega), offset]
    · have at_a := shadow ha
      have notLive : liveAt a = none := by
        simp only [liveAt, liveBase, Config.counters, at_a, shadowBank]
        simp
        omega
      have offset : shadowAt a = some k := by
        simp only [shadowAt, shadowBase, Config.counters, at_a, shadowBank]
        rw [if_pos (by omega), Nat.add_sub_cancel_left]
      rw [State.readMapped, regAt_bank (by omega), notLive, offset]
    · have bank : 0x400 ≤ a.toNat ∧ a.toNat < 0x474 ∨ 0x500 ≤ a.toNat ∧ a.toNat < 0x574 := by
        rcases ha with ha | ha
        · have := live ha
          omega
        · have := shadow ha
          omega
      exact congrArg Host.Outcome.next (State.hostRead_bank h ht bank)

/-! ### Refused words, and words that the port does not hear -/

/-- An address that holds nothing is not RC_ACTION, so that its word continues the transaction there. -/
theorem State.burstAddr_of_regAt (s : State) {a : Addr} (v : Word) (h : regAt a ≠ some .rcAction) :
    s.burstAddr a v = a :=
  State.burstAddr_eq s a v (.inl fun same => h (by rw [same, regAt_address]))

/-- A word refused wherever it stands does nothing but what every word does and the refusal (R12, R13). -/
theorem State.hostWrite_of_refused {s : State} {a : Addr} {v : Word} {why : AccessReason} (h : s.listens)
    (own : s.burstAddr a v = a) (refused : ((s.arrive .late).joinTxn false a).writeWord a v =
      (s.wordBegun a).refuse true why 0 a) : s.hostWrite a v = (s.wordDone a).refuse true why 0 a := by
  rw [State.hostWrite_ready s a v h, own, refused, State.advanceTxn_write s _ a (State.refuse_txn _ _ _ _ _),
    State.refuse_eq, State.refuse_eq]
  rfl

theorem regAt_of_unmapped {a : Addr} (h : mapped a = false) : regAt a = none := by
  cases here : regAt a <;> simp_all [mapped]

theorem State.readMapped_of_unmapped (s : State) {a : Addr} (h : mapped a = false) : s.readMapped a = 0#32 := by
  have live : liveAt a = none := by cases here : liveAt a <;> simp_all [mapped]
  have shadow : shadowAt a = none := by cases here : shadowAt a <;> simp_all [mapped]
  rw [State.readMapped, regAt_of_unmapped h, live, shadow]

/-- A table's data port takes write words. -/
theorem tableOf_of_readOnly {r : Reg} (h : readOnly r.address = true) : tableOf r = none := by
  rw [readOnly, regAt_address] at h
  cases r <;> first | rfl | exact absurd h (by decide)

/-- Settles O8: the three places where a word is refused for its address alone. -/
theorem unmappedAndReadOnlyWordsAreRefused : Obligations.UnmappedAndReadOnlyWordsAreRefused := by
  refine ⟨fun s a v h absent => ?_, fun s a v h fixed => ?_, fun s a h ht absent => ?_⟩
  · have empty := regAt_of_unmapped absent
    refine (exec_of_writtenWord rfl).trans (congrArg Host.Outcome.next ?_)
    refine State.hostWrite_of_refused h (State.burstAddr_of_regAt s v (by simp [empty])) ?_
    simp only [State.writeWord, empty, absent]
    rfl
  · refine (exec_of_writtenWord rfl).trans (congrArg Host.Outcome.next ?_)
    cases here : regAt a with
    | none =>
      have there : mapped a = true := by simpa [readOnly, here] using fixed
      refine State.hostWrite_of_refused h (State.burstAddr_of_regAt s v (by simp [here])) ?_
      simp only [State.writeWord, here, there]
      rfl
    | some r =>
      obtain rfl := regAt_eq_some here
      have other : r ≠ .rcAction := by
        rintro rfl
        exact absurd fixed (by decide)
      refine State.hostWrite_of_refused h (State.burstAddr_of_ne s v other) ?_
      simp only [State.writeWord, here, State.writeRegister, tableOf_of_readOnly fixed, fixed]
      rfl
  · refine congrArg Host.Outcome.next ((State.hostRead_single a h ht).trans ?_)
    rw [State.readEffect, regAt_of_unmapped absent, absent, State.readTaken, State.readMapped_of_unmapped s absent]
    rfl

end Sys2Proof.Machine
end

section
/-! SUPPORT. What the status registers read as, field by field (the register tables of chapters 1 to 12). -/

namespace Sys2Proof.Machine

/-- A register that is no Port has no side effect on a read (R2, R13). -/
theorem State.readPort_of_plain (s : State) {r : Reg} (w : WordStart) (h : r.info.port = false) :
    s.readPort r w = s := by
  cases r <;> first | rfl | exact absurd h (by decide)

section
variable (s : State)

theorem State.lpCycle_fields : field (s.readRegister .lpCycle) 0 12 = s.lp.cycleIndex % 4096 ∧
    (s.lp.cycleIndex < 4096 → field (s.readRegister .lpCycle) 16 16 = s.lp.cycleNumber.toNat) := by
  have number := s.lp.cycleNumber.isLt
  refine ⟨?_, fun low => ?_⟩
  · simp (disch := omega) [State.readRegister_lpCycle, field_or, field_place_mod, field_place_above]
  · simp (disch := omega) [State.readRegister_lpCycle, field_or, field_place, field_place_below]

theorem State.lpStatus_fields : bit (s.readRegister .lpStatus) 0 = s.lp.lineMoving ∧
    bit (s.readRegister .lpStatus) 1 = s.lp.reverseSat ∧ bit (s.readRegister .lpStatus) 2 = s.lp.indexPending ∧
    field (s.readRegister .lpStatus) 3 3 = s.lp.acc % 8 := by
  simp (disch := omega) [State.readRegister_lpStatus, State.lpStatus, bit_or, bit_flagAt, bit_place_above, field_or,
    field_place_mod, field_flagAt_outside]

theorem State.csStatus_fields (ring : s.cs.ring.length ≤ 32) (p1 : s.cs.p1Left ≤ 64) (p2 : s.cs.p2Left ≤ 64)
    (run : ∀ b ∈ s.cs.bracket, b.left ≤ 15) :
    field (s.readRegister .csStatus) 0 6 = s.cs.ring.length ∧ bit (s.readRegister .csStatus) 6 = s.cs.sensePending ∧
      bit (s.readRegister .csStatus) 7 = s.cs.bracket.isSome ∧
      field (s.readRegister .csStatus) 8 4 = (match s.cs.bracket with | some b => b.left | none => 0) ∧
      field (s.readRegister .csStatus) 12 7 = s.cs.p1Left ∧ field (s.readRegister .csStatus) 19 7 = s.cs.p2Left ∧
      field (s.readRegister .csStatus) 26 2 = s.cs.refA.state.code ∧
      field (s.readRegister .csStatus) 28 2 = s.cs.refB.state.code ∧
      field (s.readRegister .csStatus) 30 2 = s.cs.refC.state.code := by
  have code : ∀ x : RefState, x.code < 4 := by intro x; cases x <;> decide
  have a := code s.cs.refA.state
  have b := code s.cs.refB.state
  have c := code s.cs.refC.state
  have left : ((s.cs.bracket.map BracketRun.left).getD 0) < 16 := by
    cases h : s.cs.bracket with
    | none => decide
    | some x => exact Nat.lt_succ_of_le (run x (by simp [h]))
  have run_left : (match s.cs.bracket with | some b => b.left | none => 0) =
      (s.cs.bracket.map BracketRun.left).getD 0 := by cases s.cs.bracket <;> rfl
  rw [run_left]
  simp (disch := omega) [State.readRegister_csStatus, State.csStatus, bit_or, bit_flagAt, bit_place_above,
    bit_place_below, field_or, field_place, field_place_above, field_place_below, field_flagAt_outside]

theorem State.lgStatus_fields (entries : s.lg.entries.length ≤ 512) (window : s.lg.window.length ≤ 32) :
    field (s.readRegister .lgStatus) 0 10 = s.lg.entries.length ∧
      field (s.readRegister .lgStatus) 10 10 = s.lg.entries.countP (fun e => e.expects && e.verdict.isNone) ∧
      field (s.readRegister .lgStatus) 20 6 = s.lg.window.length ∧ bit (s.readRegister .lgStatus) 26 = s.lg.high := by
  have awaiting : s.awaiting = s.lg.entries.countP (fun e => e.expects && e.verdict.isNone) := rfl
  have few : s.lg.entries.countP (fun e => e.expects && e.verdict.isNone) ≤ s.lg.entries.length :=
    List.countP_le_length
  rw [← awaiting] at few ⊢
  simp (disch := omega) [State.readRegister_lgStatus, State.lgStatus, bit_or, bit_flagAt, bit_place_below, field_or,
    field_place, field_place_above, field_place_below, field_flagAt_outside]

theorem State.vcStatus_fields (fifo : s.vc.fifo.length ≤ 256) :
    field (s.readRegister .vcStatus) 0 9 = s.vc.fifo.length ∧
      field (s.readRegister .vcStatus) 9 2 = s.vc.parser.phase.code ∧
      bit (s.readRegister .vcStatus) 11 = s.vc.flowPaused ∧ bit (s.readRegister .vcStatus) 12 = s.vc.stall ∧
      bit (s.readRegister .vcStatus) 13 = s.vc.silent ∧ bit (s.readRegister .vcStatus) 14 = s.vc.seqValid ∧
      field (s.readRegister .vcStatus) 15 8 = s.vc.lastSeq.toNat := by
  have phase : s.vc.parser.phase.code < 4 := by cases s.vc.parser.phase <;> decide
  have seq := s.vc.lastSeq.isLt
  simp (disch := omega) [State.readRegister_vcStatus, State.vcStatus, bit_or, bit_flagAt, bit_place_above,
    bit_place_below, field_or, field_place, field_place_above, field_place_below, field_flagAt_outside]

theorem State.gdStatus_fields (log : s.gd.log.length ≤ 128) (rej : s.gd.rejLeft ≤ 255) (div : s.gd.divLeft ≤ 255) :
    field (s.readRegister .gdStatus) 0 8 = s.gd.log.length ∧ bit (s.readRegister .gdStatus) 8 = s.gd.alert ∧
      bit (s.readRegister .gdStatus) 9 = decide (s.gd.rejLeft ≠ 0) ∧
      bit (s.readRegister .gdStatus) 10 = decide (s.gd.divLeft ≠ 0) ∧
      field (s.readRegister .gdStatus) 11 8 = s.gd.rejLeft ∧ field (s.readRegister .gdStatus) 19 8 = s.gd.divLeft := by
  simp (disch := omega) [State.readRegister_gdStatus, State.gdStatus, bit_or, bit_flagAt, bit_place_above,
    bit_place_below, field_or, field_place, field_place_above, field_place_below, field_flagAt_outside, bne,
    beq_eq_decide]

theorem State.slStatus_fields (polled : s.sl.lastPolled ≤ 15) (turn : s.sl.turn ≤ 15) (miss : s.sl.missReason ≤ 7) :
    field (s.readRegister .slStatus) 0 2 = s.sl.link.code ∧ field (s.readRegister .slStatus) 2 4 = s.sl.lastPolled ∧
      field (s.readRegister .slStatus) 6 4 = s.sl.turn ∧ field (s.readRegister .slStatus) 10 8 = s.sl.pollSeq.toNat ∧
      bit (s.readRegister .slStatus) 18 = s.sl.pollDue ∧
      field (s.readRegister .slStatus) 19 3 = s.sl.missReason := by
  have link : s.sl.link.code < 4 := by cases s.sl.link <;> decide
  have seq := s.sl.pollSeq.isLt
  simp (disch := omega) [State.readRegister_slStatus, State.slStatus, bit_or, bit_flagAt, bit_place_above,
    bit_place_below, field_or, field_place, field_place_above, field_place_below, field_flagAt_outside]

theorem State.brStatus_fields (pointer : s.br.pointer ≤ 255) (uses : s.br.uses ≤ 15) (opened : s.br.openCount ≤ 63) :
    field (s.readRegister .brStatus) 0 8 = s.br.pointer ∧ field (s.readRegister .brStatus) 8 4 = s.br.uses ∧
      field (s.readRegister .brStatus) 12 4 = 0 ∧ field (s.readRegister .brStatus) 16 8 = s.br.batchNo.toNat ∧
      field (s.readRegister .brStatus) 24 6 = s.br.openCount ∧ field (s.readRegister .brStatus) 30 2 = 0 := by
  have number := s.br.batchNo.isLt
  simp (disch := omega) [State.readRegister_brStatus, State.brStatus, field_or, field_place, field_place_above,
    field_place_below]

theorem State.lpPhase_fields : field (s.readRegister .lpPhase) 0 2 = s.lp.phaseKind.code ∧
    field (s.readRegister .lpPhase) 2 14 = 0 ∧ (s.readRegister .lpPhase).extractLsb' 16 16 = s.lp.phaseOffset := by
  have kind : s.lp.phaseKind.code < 4 := by cases s.lp.phaseKind <;> decide
  have offset := s.lp.phaseOffset.isLt
  refine ⟨?_, ?_, BitVec.eq_of_toNat_eq ?_⟩
  · simp (disch := omega) [State.readRegister_lpPhase, field_or, field_place, field_place_above]
  · simp (disch := omega) [State.readRegister_lpPhase, field_or, field_place_above, field_place_below]
  · change field (s.readRegister .lpPhase) 16 16 = _
    simp (disch := omega) [State.readRegister_lpPhase, field_or, field_place, field_place_below]

theorem State.csDemand_fields : bit (s.readRegister .csDemand) 0 = s.cs.captureNow ∧
    bit (s.readRegister .csDemand) 1 = s.cs.reqP1 ∧ bit (s.readRegister .csDemand) 2 = s.cs.reqP2 ∧
    bit (s.readRegister .csDemand) 3 = s.cs.reqRefA ∧ bit (s.readRegister .csDemand) 4 = s.cs.reqRefB ∧
    bit (s.readRegister .csDemand) 5 = s.cs.reqRefC ∧ field (s.readRegister .csDemand) 6 26 = 0 := by
  simp (disch := omega) [State.readRegister_csDemand, State.csDemand, bit_or, bit_flagAt, field_or,
    field_flagAt_outside]

theorem State.adModelStatus_fields (a : s.ad.modelA.occ ≤ 63) (b : s.ad.modelB.occ ≤ 63) (c : s.ad.modelC.occ ≤ 63)
    (d : s.ad.modelD.occ ≤ 63) :
    field (s.readRegister .adModelStatus) 0 6 = s.ad.modelA.occ ∧
      field (s.readRegister .adModelStatus) 6 6 = s.ad.modelB.occ ∧
      field (s.readRegister .adModelStatus) 12 6 = s.ad.modelC.occ ∧
      field (s.readRegister .adModelStatus) 18 6 = s.ad.modelD.occ ∧
      bit (s.readRegister .adModelStatus) 24 = s.ad.modelA.hold ∧
      bit (s.readRegister .adModelStatus) 25 = s.ad.modelB.hold ∧
      bit (s.readRegister .adModelStatus) 26 = s.ad.modelC.hold ∧
      bit (s.readRegister .adModelStatus) 27 = s.ad.modelD.hold := by
  simp (disch := omega) [State.readRegister_adModelStatus, State.adModelStatus, bit_or, bit_flagAt, bit_place_below,
    field_or, field_place, field_place_above, field_place_below, field_flagAt_outside]

theorem State.adItem_fields : field (s.readRegister .adItem) 0 24 = s.ad.nextId.toNat ∧
    field (s.readRegister .adItem) 24 4 = s.ad.epoch.toNat := by
  have number := s.ad.nextId.isLt
  have epoch := s.ad.epoch.isLt
  simp (disch := omega) [State.readRegister_adItem, field_or, field_place, field_place_above, field_place_below]

theorem State.slQueueStatus_fields (routeQ : s.sl.routeQ.length ≤ 8) (tagQ : s.sl.tagQ.length ≤ 64)
    (noticeQ : s.sl.noticeQ.length ≤ 32) : field (s.readRegister .slQueueStatus) 0 4 = s.sl.routeQ.length ∧
      field (s.readRegister .slQueueStatus) 4 7 = s.sl.tagQ.length ∧
      field (s.readRegister .slQueueStatus) 11 6 = s.sl.noticeQ.length := by
  simp (disch := omega) [State.readRegister_slQueueStatus, State.slQueueStatus, field_or, field_place,
    field_place_above,
    field_place_below]

theorem State.rcStatus_fields (cmd : s.rc.lastCmd ≤ 3) (result : s.rc.lastResult ≤ 2) (reason : s.rc.reason ≤ 7)
    (which : s.rc.field ≤ 15) : field (s.readRegister .rcStatus) 0 2 = s.rc.state.code ∧
      field (s.readRegister .rcStatus) 4 2 = s.rc.lastCmd ∧ field (s.readRegister .rcStatus) 6 2 = s.rc.lastResult ∧
      field (s.readRegister .rcStatus) 8 3 = s.rc.reason ∧ field (s.readRegister .rcStatus) 12 4 = s.rc.field ∧
      bit (s.readRegister .rcStatus) 16 = s.rc.softCause := by
  have state : s.rc.state.code < 4 := by cases s.rc.state <;> decide
  simp (disch := omega) [State.readRegister_rcStatus, State.rcStatus, bit_or, bit_flagAt, bit_place_below, field_or,
    field_place, field_place_above, field_place_below, field_flagAt_outside]

/-- A number that is a register's whole word. -/
theorem place_zero_toNat {x : Nat} (h : x < 2 ^ 32) : (place x 0).toNat = x := by
  rw [place, BitVec.shiftLeft_zero, BitVec.toNat_ofNat, Nat.mod_eq_of_lt h]

theorem State.topCause_lt : s.topCause < 20 := by
  unfold State.topCause
  cases h : (List.range 20).find? fun i => bit (s.rc.flags &&& s.reg .rcEventEnable) i with
  | none => decide
  | some i => simpa using List.mem_of_find?_eq_some h

theorem State.slSlotStatus_eq : s.readRegister .slSlotStatus =
    place (s.slot .cycleMark).state.code 0 ||| flagAt (s.slot .cycleMark).again 3 |||
      place (s.slot .fullReset).state.code 4 ||| flagAt (s.slot .fullReset).again 7 |||
      place (s.slot .stationReset).state.code 8 ||| flagAt (s.slot .stationReset).again 11 |||
      place (s.slot .refA).state.code 12 ||| flagAt (s.slot .refA).again 15 |||
      place (s.slot .refB).state.code 16 ||| flagAt (s.slot .refB).again 19 |||
      place (s.slot .refC).state.code 20 ||| flagAt (s.slot .refC).again 23 |||
      place (s.slot .user).state.code 24 ||| flagAt (s.slot .user).again 27 := by
  simp [State.readRegister_slSlotStatus, State.slSlotStatus, allSlots, List.zipIdx]

theorem SlotState.code_lt (x : SlotState) : x.code < 5 := by cases x <;> decide

theorem State.slSlotStatus_fields :
    (∀ (i : SlotId) (n : Nat), [SlotId.cycleMark, .fullReset, .stationReset, .refA, .refB, .refC, .user][n]? = some i →
      field (s.readRegister .slSlotStatus) (4 * n) 3 = (s.slot i).state.code ∧
      bit (s.readRegister .slSlotStatus) (4 * n + 3) = (s.slot i).again) ∧
    field (s.readRegister .slSlotStatus) 28 4 = 0 := by
  have c0 := (s.slot .cycleMark).state.code_lt
  have c1 := (s.slot .fullReset).state.code_lt
  have c2 := (s.slot .stationReset).state.code_lt
  have c3 := (s.slot .refA).state.code_lt
  have c4 := (s.slot .refB).state.code_lt
  have c5 := (s.slot .refC).state.code_lt
  have c6 := (s.slot .user).state.code_lt
  rw [State.slSlotStatus_eq]
  refine ⟨fun i n here => ?_, ?_⟩
  · have slot : n < 7 := (List.getElem?_eq_some_iff.mp here).1
    interval_cases n <;> cases here <;>
      simp (disch := omega) [bit_or, bit_flagAt, bit_place_above, bit_place_below, field_or, field_place,
        field_place_above, field_place_below, field_flagAt_outside]
  · simp (disch := omega) [field_or, field_place_below, field_flagAt_outside]

theorem State.rcFault_fields (first : s.rc.faultFirst ≤ 19) (causes : s.rc.faultCauses &&& ~~~0x7C#32 = 0#32) :
    field (s.readRegister .rcFault) 0 5 = s.rc.faultFirst ∧
      ∀ n, 2 ≤ n → n ≤ 6 → bit (s.readRegister .rcFault) (n + 4) = bit s.rc.faultCauses n := by
  have shifted : ∀ j, bit (s.rc.faultCauses <<< 4) j =
      (decide (j < 32) && decide (4 ≤ j) && bit s.rc.faultCauses (j - 4)) := by
    intro j
    by_cases hj : 4 ≤ j
    · simp [bit, BitVec.getLsbD_shiftLeft, hj, Nat.not_lt.mpr hj]
    · simp [bit, BitVec.getLsbD_shiftLeft, hj, Nat.lt_of_not_le hj]
  have bit0 : bit s.rc.faultCauses 0 = false := bit_eq_false_of_and_eq_zero causes (by decide)
  have low : field (s.rc.faultCauses <<< 4) 0 5 = 0 := by
    refine Nat.eq_of_testBit_eq fun j => ?_
    rw [testBit_field, shifted]
    rcases Nat.lt_or_ge j 5 with hj | hj
    · interval_cases j <;> simp [bit0]
    · simp [Nat.not_lt.mpr hj]
  refine ⟨?_, fun n h2 h6 => ?_⟩
  · simp (disch := omega) [State.readRegister_rcFault, State.rcFault, field_or, field_place, low]
  · have inside : n + 4 < 32 := by omega
    have above : bit (place s.rc.faultFirst 0) (n + 4) = false :=
      bit_place_below (Nat.zero_le _) (lt_of_lt_of_le (by omega : s.rc.faultFirst < 2 ^ 6)
        (Nat.pow_le_pow_right (by decide) (by omega)))
    simp [State.readRegister_rcFault, State.rcFault, bit_or, shifted, above, inside]

theorem State.lgOldestWait_fields {pre post : List Entry} {e : Entry} {id : Ident}
    (entries : s.lg.entries = pre ++ e :: post) (earlier : ∀ x ∈ pre, (x.expects && x.verdict.isNone) = false)
    (expects : e.expects = true) (unheard : e.verdict = none) (ident : e.ident = some id) :
    bit (s.readRegister .lgOldestWait) 31 = true ∧ field (s.readRegister .lgOldestWait) 28 3 = 0 ∧
      field (s.readRegister .lgOldestWait) 24 4 = id.epoch.toNat ∧
      field (s.readRegister .lgOldestWait) 0 24 = id.itemId.toNat := by
  have oldest : s.oldestAwaiting = some e := by
    rw [State.oldestAwaiting, entries, List.find?_append, List.find?_eq_none.mpr fun x hx =>
      Bool.not_eq_true _ ▸ earlier x hx]
    simp [Entry.awaiting, expects, unheard]
  have epoch := id.epoch.isLt
  have number := id.itemId.isLt
  simp (disch := omega) [State.readRegister_lgOldestWait, State.lgOldestWait, oldest, ident, bit_or, bit_flagAt,
    bit_place_below, field_or, field_place, field_place_above, field_place_below, field_flagAt_outside]

end

/-- Settles O9: register by register. -/
theorem registerReadsHaveNoSideEffect : Obligations.RegisterReadsHaveNoSideEffect := by
  refine ⟨fun s r h ht plain => ?_, fun s w reads => ?_⟩
  · refine congrArg Host.Outcome.next ((State.hostRead_register r h ht).trans ?_)
    rw [State.readPort_of_plain _ _ plain, State.readTaken, State.readMapped_address]
  · obtain rfl : w = s.readRegister := funext reads
    have cause := s.topCause_lt
    refine ⟨s.lpCycle_fields.1, s.lpCycle_fields.2, s.lpStatus_fields, s.csStatus_fields, s.lgStatus_fields,
      s.vcStatus_fields, s.gdStatus_fields, s.slStatus_fields, s.brStatus_fields,
      ⟨rfl, s.lpPhase_fields.1, s.lpPhase_fields.2.1, s.lpPhase_fields.2.2, fun debt => ?_, fun since => ?_⟩,
      ⟨rfl, rfl, s.csDemand_fields⟩, s.adModelStatus_fields,
      ⟨s.adItem_fields.1, s.adItem_fields.2, rfl, fun spacing => ?_, rfl⟩, fun none_waits => ?_,
      fun pre post e id => s.lgOldestWait_fields, fun empty => ?_, fun e rest entries => ?_, fun last => ?_,
      ⟨rfl, rfl⟩, s.slSlotStatus_fields.1, s.slSlotStatus_fields.2, s.slQueueStatus_fields, ⟨?_, ?_⟩, ⟨rfl, ?_⟩,
      s.rcStatus_fields, s.rcFault_fields⟩
    · exact place_zero_toNat (by omega)
    · exact place_zero_toNat (by omega)
    · exact place_zero_toNat (by omega)
    · have oldest : s.oldestAwaiting = none :=
        List.find?_eq_none.mpr fun e he => Bool.not_eq_true _ ▸ none_waits e he
      simp [State.readRegister_lgOldestWait, State.lgOldestWait, oldest]
    · simp [State.readRegister_lgHeadGate, State.lgHeadGate, empty]
    · simp [State.readRegister_lgHeadGate, State.lgHeadGate, entries]
    · exact place_zero_toNat (by omega)
    · simp [State.readRegister_slDemand, flagAt]
    · simp [State.readRegister_rcDemand, flagAt]
    · exact place_zero_toNat (by omega)

end Sys2Proof.Machine
end

section
/-! SUPPORT. Transactions, the readiness period and the Port reads (sections 1.1 to 1.3, 6.3 and 7.6). -/

namespace Sys2Proof.Machine

/-- A deaf port takes no word (R1, R7). -/
theorem State.hostRead_deaf {s : State} (a : Addr) (h : s.port.deaf = true) : s.hostRead a = s := by
  simp [State.hostRead, h]

/-- Settles O12. -/
theorem headersOpenTransactions : Obligations.HeadersOpenTransactions := by
  refine ⟨fun s b0 b1 b2 => ⟨_, _, rfl, rfl, rfl, ?_, ?_, rfl⟩,
    fun s t ht => ⟨fun read unlatched left => ?_, fun past => ?_, ?_, rfl⟩,
    fun s => rfl, fun s t a v past => ?_, fun s t => ⟨fun ignoring => ?_, fun heard none => ?_, fun heard ht => ?_⟩⟩
  · simp [BitVec.extractLsb'_toNat]
  · have high := b1.isLt
    have low := b2.isLt
    rw [BitVec.extractLsb'_toNat, BitVec.toNat_append, Nat.shiftRight_zero, ← Nat.shiftLeft_add_eq_or_of_lt low,
      Nat.shiftLeft_eq]
  · simp [State.endTurnaround, ht, read, unlatched, left]
  · have kept : ¬ (t.read = true ∧ t.word = .none ∧ 0 < t.left) := by
      rintro ⟨read, unlatched, left⟩
      rcases past with h | h | h
      · simp [read] at h
      · exact h unlatched
      · omega
    simp only [State.endTurnaround, ht, if_neg kept]
  · simp [State.startWord]
  · have deaf : s.port.deaf = true := by
      rcases past with ignoring | ⟨ht, last⟩
      · simp [Port.deaf, ignoring]
      · simp [Port.deaf, ht, last]
    exact ⟨congrArg Host.Outcome.next (State.hostWrite_deaf a v deaf),
      congrArg Host.Outcome.next (State.hostRead_deaf a deaf)⟩
  · simp [State.sdoLine, ignoring]
  · simp [State.sdoLine, heard, none]
  · cases hw : t.word <;> simp [State.sdoLine, heard, ht, hw]

/-- Settles O4. -/
theorem readinessPeriodBlocksThePort : Obligations.ReadinessPeriodBlocksThePort := by
  refine ⟨fun s a v unready heard => ?_, fun s a unready heard ht => ?_, fun s => rfl⟩
  · have own : s.burstAddr a v = a := State.burstAddr_eq s a v (.inr (.inr (.inl unready)))
    have blocked : ((s.arrive .late).joinTxn false a).port.ready = false := unready
    refine congrArg Host.Outcome.next ?_
    rw [State.hostWrite, if_neg (by simp [heard]), own]
    dsimp only
    rw [if_neg (by simp [blocked])]
    exact (State.advanceTxn_write s ((s.arrive .late).joinTxn false a) a rfl).trans rfl
  · have hears : s.port.deaf = false := by simp [Port.deaf, heard, ht]
    have value : (s.startWord a).value = if a = Reg.hpStatus.address then s.hpStatus else 0#32 := by
      simp [State.startWord, State.readWord, unready]
    refine congrArg Host.Outcome.next ?_
    rw [State.hostRead_own a hears ht, State.completeRead, if_neg (by simp [unready]), value]
    exact State.advanceTxn_none _ ht

/-! ### Port reads -/

/-- The alert stands where the log is at its level or above (R119). -/
theorem State.evalAlert_gd (s : State) : s.evalAlert.gd =
    { s.gd with alert := decide (s.logAlertLevel ≤ s.gd.log.length) } := by
  have alerts : ∀ a b, a = b → ({ s.gd with alert := a } : Gate) = { s.gd with alert := b } := fun _ _ h => by rw [h]
  unfold State.evalAlert
  split_ifs with raised low high
  · exact alerts _ _ (by simp; omega)
  · exact alerts s.gd.alert _ (by simp [raised]; omega)
  · exact alerts _ _ (by simp [high])
  · exact alerts s.gd.alert _ (by simp [raised, high])

/-- Above UPPER software flow control, where it is on, leaves the controller Paused (R105). -/
theorem State.evalPause_of_high {s : State} (upper : s.upperLevel < s.vc.fifo.length)
    (lower : s.lowerLevel < s.vc.fifo.length) : s.evalPause =
      if s.swFlow = true ∧ s.vc.flowPaused = false then
        ({ s with vc := { s.vc with flowPaused := true, resend := 0 } } : State).requestTx .pause
      else s := by
  have notLow : ¬ s.vc.fifo.length ≤ s.lowerLevel := by omega
  unfold State.evalPause
  split_ifs <;> simp_all

/-- A fill above both limits leaves both flow controls, where they are on, holding (R105, R107). -/
theorem State.evalFlow_of_high {s : State} (upper : s.upperLevel < s.vc.fifo.length)
    (lower : s.lowerLevel < s.vc.fifo.length) :
    s.evalFlow.vc.flowPaused = (s.vc.flowPaused || s.swFlow) ∧ s.evalFlow.vc.stall = (s.vc.stall || s.hwFlow) := by
  have notLow : ¬ s.vc.fifo.length ≤ s.lowerLevel := by omega
  have stall : s.stallNow = (s.vc.stall || s.hwFlow) := by
    unfold State.stallNow
    cases s.hwFlow <;> cases s.vc.stall <;> simp [notLow, upper]
  rw [← stall, State.evalFlow, State.evalStall_eq, State.evalPause_of_high upper lower]
  by_cases pauses : s.swFlow = true ∧ s.vc.flowPaused = false
  · obtain ⟨on, flows⟩ := pauses
    rw [if_pos ⟨on, flows⟩, State.requestTx_eq]
    exact ⟨by simp [on], rfl⟩
  · rw [if_neg pauses]
    refine ⟨?_, rfl⟩
    cases hp : s.vc.flowPaused <;> cases hs : s.swFlow <;> simp_all

/-- Flow control leaves the FIFO and the parser alone. -/
theorem State.evalFlow_leaves (s : State) : s.evalFlow.vc.fifo = s.vc.fifo ∧ s.evalFlow.vc.parser = s.vc.parser := by
  have paused : s.evalPause.vc.fifo = s.vc.fifo ∧ s.evalPause.vc.parser = s.vc.parser := by
    unfold State.evalPause
    split_ifs <;> simp [State.requestTx_eq]
  rw [State.evalFlow, State.evalStall_eq]
  exact paused

/-- The state in which flow control looks at the FIFO whose head a read has taken (R94). -/
def State.rawTaken (s : State) (rest : List FifoEntry) : State :=
  { s.readTaken Reg.vcRaw.address with vc := { s.vc with fifo := rest } }

/-- Settles O16: the read's value is the head, and the effect of taking it out is that of `evalAlert` or `evalFlow`. -/
theorem portReadsTakeTheHead : Obligations.PortReadsTakeTheHead := by
  intro s h ht
  have pop : exec .logPop s = .next ((s.readTaken Reg.gdLogPop0.address).popLog !s.gd.log.isEmpty) :=
    congrArg Host.Outcome.next (State.hostRead_register .gdLogPop0 h ht)
  have raw : exec .rawRead s = .next ((s.readTaken Reg.vcRaw.address).popRaw !s.vc.fifo.isEmpty) :=
    congrArg Host.Outcome.next (State.hostRead_register .vcRaw h ht)
  have head : s.readMapped Reg.gdLogPop0.address = s.logHead := State.readMapped_address s .gdLogPop0
  have entry : s.readMapped Reg.vcRaw.address = s.vcRaw := State.readMapped_address s .vcRaw
  refine ⟨fun r rest log => ?_, fun empty => ?_, fun e rest fifo => ?_, fun empty => ?_⟩
  · have popped : (s.readTaken Reg.gdLogPop0.address).popLog (!s.gd.log.isEmpty) = State.evalAlert
        { s.readTaken Reg.gdLogPop0.address with
          gd := { s.gd with log := rest, latch0 := r.word0, latch1 := r.word1, latch2 := r.word2 } } := by
      have log' : (s.readTaken Reg.gdLogPop0.address).gd.log = r :: rest := log
      have held : (!s.gd.log.isEmpty) = true := by simp [log]
      rw [held]
      simp only [State.popLog, log']
      rfl
    have value : s.logHead = r.word0 := by simp [State.logHead, log]
    refine ⟨_, pop.trans (congrArg Host.Outcome.next popped), ?_⟩
    simp [State.evalAlert_gd, State.readTaken, head, value]
    rfl
  · have value : s.logHead = 0x80000000#32 := by simp [State.logHead, empty, flagAt]
    have none_held : (!s.gd.log.isEmpty) = false := by simp [empty]
    rw [pop, none_held, State.readTaken, head, value]
    rfl
  · have popped : (s.readTaken Reg.vcRaw.address).popRaw (!s.vc.fifo.isEmpty) = (s.rawTaken rest).evalFlow := by
      have fifo' : (s.readTaken Reg.vcRaw.address).vc.fifo = e :: rest := fifo
      have held : (!s.vc.fifo.isEmpty) = true := by simp [fifo]
      rw [held]
      simp only [State.popRaw, fifo']
      rfl
    have value : s.vcRaw =
        place e.data.toNat 0 ||| flagAt e.marker 8 ||| flagAt e.error 9 ||| flagAt e.gap 10 := by
      simp [State.vcRaw, fifo]
    have data := e.data.isLt
    have leaves := State.evalFlow_leaves (s.rawTaken rest)
    have sdo : ((s.rawTaken rest).evalFlow).port.sdo = s.vcRaw := by
      simp [State.rawTaken, State.readTaken, entry]
    refine ⟨_, raw.trans (congrArg Host.Outcome.next popped), leaves.1, leaves.2,
      by simp [State.rawTaken, State.readTaken],
      ?_, ?_, ?_, ?_, ?_, fun low => ?_, fun upper lower => ?_⟩
    · rw [sdo, value]
      simp (disch := omega) [field_or, field_place, field_flagAt_outside]
    · rw [sdo, value]
      simp (disch := omega) [bit_or, bit_flagAt, bit_place_below]
    · rw [sdo, value]
      simp (disch := omega) [bit_or, bit_flagAt, bit_place_below]
    · rw [sdo, value]
      simp (disch := omega) [bit_or, bit_flagAt, bit_place_below]
    · rw [sdo, value]
      simp (disch := omega) [bit_or, bit_flagAt, bit_place_below]
    · have stall : (s.rawTaken rest).stallNow =
          (s.vc.stall && !(s.hwFlow && decide (rest.length ≤ s.lowerLevel))) := State.stallNow_of_low low
      have port : (s.rawTaken rest).port = { s.port with heading := false, sdo := s.vcRaw } := by
        rw [State.rawTaken, State.readTaken, entry]
      rw [sdo]
      by_cases due : s.swFlow = true ∧ s.vc.flowPaused = true ∧ rest.length ≤ s.lowerLevel
      · obtain ⟨on, paused, empties⟩ := due
        have flows : (s.vc.flowPaused && !(s.swFlow && decide (rest.length ≤ s.lowerLevel))) = false := by
          simp [on, empties]
        refine (State.evalFlow_of_resumed (s := s.rawTaken rest) on paused empties).trans ?_
        rw [stall, port, flows]
        by_cases idle : s.vc.tx = none
        · have idle' : (s.rawTaken rest).vc.tx = none := idle
          rw [if_pos idle', if_pos idle', if_pos idle', if_pos ⟨on, paused, empties, idle⟩,
            if_neg fun busy => busy.2.2.2 idle, if_pos ⟨on, paused, empties, idle⟩]
          rfl
        · have busy : ¬ (s.rawTaken rest).vc.tx = none := idle
          rw [if_neg busy, if_neg busy, if_neg busy, if_neg fun starts => idle starts.2.2.2,
            if_pos ⟨on, paused, empties, idle⟩, if_neg fun starts => idle starts.2.2.2]
          rfl
      · have flows : (s.vc.flowPaused && !(s.swFlow && decide (rest.length ≤ s.lowerLevel))) = s.vc.flowPaused := by
          have unreleased : s.vc.flowPaused = true → ¬ (s.swFlow = true ∧ rest.length ≤ s.lowerLevel) :=
            fun paused on => due ⟨on.1, paused, on.2⟩
          cases hp : s.vc.flowPaused with
          | false => rfl
          | true =>
            cases hs : s.swFlow with
            | false => rfl
            | true => simpa [hs] using unreleased hp
        refine (State.evalFlow_of_kept (s := s.rawTaken rest) low due).trans ?_
        rw [stall, port, flows, if_neg fun starts => due ⟨starts.1, starts.2.1, starts.2.2.1⟩,
          if_neg fun waits => due ⟨waits.1, waits.2.1, waits.2.2.1⟩,
          if_neg fun starts => due ⟨starts.1, starts.2.1, starts.2.2.1⟩]
        rfl
    · exact State.evalFlow_of_high upper lower
  · have value : s.vcRaw = 0x80000000#32 := by simp [State.vcRaw, empty, flagAt]
    have none_held : (!s.vc.fifo.isEmpty) = false := by simp [empty]
    rw [raw, none_held, State.readTaken, entry, value]
    rfl

end Sys2Proof.Machine
end

section
/-! SUPPORT. Words of an open transaction (sections 1.1 and 1.2): what a word's effect leaves of the transaction and of
the armed soft reset, and what a read word removes. -/

namespace Sys2Proof.Machine

/-! ### The armed soft reset through the effect of a word (R176) -/

@[simp] theorem State.pushRoute_resetArmed (s : State) (m : List Byte) :
    (s.pushRoute m).rc.resetArmed = s.rc.resetArmed := by
  unfold State.pushRoute
  split <;> simp

@[simp] theorem State.closeBatch_resetArmed (s : State) (flush : Bool) (n : Nat) :
    (s.closeBatch flush n).rc.resetArmed = s.rc.resetArmed := by
  unfold State.closeBatch
  dsimp only
  (repeat' split) <;> simp

@[simp] theorem State.flushRoute_resetArmed (s : State) : s.flushRoute.rc.resetArmed = s.rc.resetArmed := by
  unfold State.flushRoute
  split <;> simp

@[simp] theorem State.appendLog_resetArmed (s : State) (r : LogRecord) :
    (s.appendLog r).rc.resetArmed = s.rc.resetArmed := by
  unfold State.appendLog State.evalAlert
  (repeat' split) <;> simp

@[simp] theorem State.abandonAll_resetArmed (s : State) : s.abandonAll.rc.resetArmed = s.rc.resetArmed := by
  unfold State.abandonAll
  dsimp only
  exact State.foldl_leaves (p := (·.rc.resetArmed)) (fun s e => by simp [State.abandon]) _ _

@[simp] theorem State.drainedTest_resetArmed (s : State) : s.drainedTest.rc.resetArmed = s.rc.resetArmed := by
  unfold State.drainedTest
  split <;> simp

@[simp] theorem State.refuseCommand_resetArmed (s : State) (why : CommandRefusal) :
    (s.refuseCommand why).rc.resetArmed = s.rc.resetArmed := by
  simp [State.refuseCommand]

@[simp] theorem State.abortRun_resetArmed (s : State) : s.abortRun.rc.resetArmed = s.rc.resetArmed := by
  simp [State.abortRun, State.setRun]

@[simp] theorem State.start_resetArmed (s : State) : s.start.rc.resetArmed = s.rc.resetArmed := by
  unfold State.start
  dsimp only
  (repeat' split) <;> simp [State.nameCommand, State.acceptCommand, State.startRun, State.rebase]

@[simp] theorem State.stop_resetArmed (s : State) : s.stop.rc.resetArmed = s.rc.resetArmed := by
  unfold State.stop
  dsimp only
  split <;> simp [State.nameCommand, State.acceptCommand, State.setRun]

@[simp] theorem State.abort_resetArmed (s : State) : s.abort.rc.resetArmed = s.rc.resetArmed := by
  unfold State.abort
  dsimp only
  split <;> simp [State.nameCommand, State.acceptCommand]

@[simp] theorem State.recover_resetArmed (s : State) : s.recover.rc.resetArmed = s.rc.resetArmed := by
  unfold State.recover
  dsimp only
  (repeat' split) <;> simp [State.nameCommand, State.acceptCommand, State.setRun]

@[simp] theorem State.command_resetArmed (s : State) (v : Word) : (s.command v).rc.resetArmed = s.rc.resetArmed := by
  unfold State.command
  split <;> simp

/-- A register's effect leaves the soft reset as it is, unless it is an action. -/
theorem State.applyWord_resetArmed (s : State) (r : Reg) (v : Word) (armed : Bool) (h : r ≠ .rcAction) :
    (s.applyWord r v armed).rc.resetArmed = s.rc.resetArmed := by
  unfold State.applyWord
  split
  case h_29 => exact absurd rfl h
  all_goals simp [State.applyCtrl, State.clearEvents, State.applyRestartDemand, apply_ite State.rc,
    apply_ite RunControl.resetArmed]

/-! ### Write words (R5) -/

/-- A word fires the soft reset: DEVICE_RESET at RC_ACTION while it is armed (R176). -/
def fires (armed : Bool) (a : Addr) (v : Word) : Bool := armed && decide (a = Reg.rcAction.address) && bit v 4

/-- A register's effect leaves the transaction as it is, unless it is an action. -/
theorem State.applyWord_txn (s : State) (r : Reg) (v : Word) (armed : Bool) (h : r ≠ .rcAction) :
    (s.applyWord r v armed).port.txn = s.port.txn := by
  unfold State.applyWord
  split
  case h_29 => exact absurd rfl h
  all_goals simp [State.applyCtrl, apply_ite State.port]

theorem State.writeTablePort_txn (s : State) (t : TableId) (v : Word) (a : Addr) :
    (s.writeTablePort t v a).port.txn = s.port.txn := by
  unfold State.writeTablePort
  cases t <;> dsimp only <;> (repeat' split) <;> simp [State.refuse_txn]

theorem State.writeTablePort_resetArmed (s : State) (t : TableId) (v : Word) (a : Addr) :
    (s.writeTablePort t v a).rc.resetArmed = s.rc.resetArmed := by
  unfold State.writeTablePort
  cases t <;> dsimp only <;> (repeat' split) <;> simp [State.refuse_eq]

theorem State.cleared_resetArmed (s : State) (v : Word) : (s.cleared v).rc.resetArmed = s.rc.resetArmed := by
  simp [State.cleared, State.snapshot, State.clearCounters, apply_ite State.rc]

/-- A word to RC_ACTION that does not fire the soft reset arms it where it asks for it, and leaves the transaction. -/
theorem State.action_unfired (s : State) (v : Word) {armed : Bool} (h : armed = false ∨ bit v 4 = false) :
    (s.action v armed).port.txn = s.port.txn ∧ (s.action v armed).rc.resetArmed = (s.rc.resetArmed || bit v 4) := by
  rw [State.action_eq]
  by_cases asks : bit v 4 = true
  · obtain rfl : armed = false := h.resolve_right (by simp [asks])
    simp [asks, State.deviceReset]
  · simp [asks, State.cleared_resetArmed]

/-- What a write word leaves of the transaction and of the soft reset, unless it fires the latter (R5, R176). -/
theorem State.writeWord_unfired (s : State) (a : Addr) (v : Word) (h : fires s.rc.resetArmed a v = false) :
    (s.writeWord a v).port.txn = s.port.txn ∧
      (s.writeWord a v).rc.resetArmed = (decide (a = Reg.rcAction.address) && bit v 4) := by
  by_cases action : a = Reg.rcAction.address
  · subst action
    have word : s.writeWord Reg.rcAction.address v = s.disarm.action v s.rc.resetArmed := by
      have free : s.disarm.fieldFault .rcAction v = none := State.fieldFault_free _ _ _ rfl rfl
      have writable : readOnly Reg.rcAction.address = false := by decide
      simp only [State.writeWord, regAt_address, State.writeRegister, free, writable]
      rfl
    have unfired : s.rc.resetArmed = false ∨ bit v 4 = false := by
      cases armed : s.rc.resetArmed with
      | false => exact .inl rfl
      | true => exact .inr (by simpa [fires, armed] using h)
    rw [word]
    obtain ⟨txn, armed⟩ := s.disarm.action_unfired v unfired
    exact ⟨txn, armed.trans (by simp [State.disarm])⟩
  · rw [decide_eq_false action, Bool.false_and]
    rcases s.writeWord_cases a v with ⟨r, hr, applied⟩ | ⟨t, table⟩ | ⟨why, refused⟩
    · have other : r ≠ .rcAction := by
        rintro rfl
        exact action (regAt_eq_some hr)
      rw [applied]
      exact ⟨(s.disarm.applyWord_txn r v _ other), s.disarm.applyWord_resetArmed r v _ other⟩
    · rw [table]
      exact ⟨State.writeTablePort_txn _ _ _ _, State.writeTablePort_resetArmed _ _ _ _⟩
    · rw [refused]
      exact ⟨State.refuse_txn _ _ _ _ _, by simp [State.refuse_eq, State.disarm]⟩

/-- The transaction after one more word (R2, R5). -/
def Transaction.onward (t : Transaction) (word : Option WordStart) : Transaction :=
  { read := t.read, left := t.left - 1, addr := nextAddr t.addr, word := word }

/-- The open transaction one word on (R2, R5). -/
theorem State.advanceTxn_some {x : State} {t : Transaction} (h : x.port.txn = some t) :
    x.advanceTxn = { x with port := { x.port with txn := some (t.onward
      (if t.read = true ∧ 1 < t.left then some (x.startWord (nextAddr t.addr)) else none)) } } := by
  simp only [State.advanceTxn, h]
  rfl

/-- What a read returns does not depend on the open transaction. -/
theorem State.readWord_txn (s : State) (t : Option Transaction) (a : Addr) :
    ({ s with port := { s.port with txn := t } } : State).readWord a = s.readWord a := by
  have values : ∀ r, ({ s with port := { s.port with txn := t } } : State).readRegister r = s.readRegister r :=
    fun r => by cases r <;> rfl
  simp only [State.readWord, State.readMapped, values]
  rfl

/-- A completed read word leaves the open transaction as it is. -/
theorem State.completeRead_txn (s : State) (a : Addr) (w : WordStart) :
    (s.completeRead a w).port.txn = s.port.txn := by
  unfold State.completeRead State.readPort
  (repeat' split) <;> simp [State.refuse_txn]

/-- What a completed read word returns stays on SPI_SDO. -/
theorem State.completeRead_sdo (s : State) (a : Addr) (w : WordStart) :
    (s.completeRead a w).port.sdo = s.port.sdo := by
  unfold State.completeRead State.readPort
  (repeat' split) <;> simp [State.refuse_eq]

/-- A word's arrival: it is the last row of its edge, and no header is under way. -/
def State.arrived (s : State) : State :=
  { s with port := { s.port with heading := false }, sl := { s.sl with place := .late } }

/-- A word that continues the open transaction leaves it open. -/
theorem State.joinTxn_continued {s : State} {t : Transaction} (ht : s.port.txn = some t) (left : 0 < t.left) :
    (s.arrive .late).joinTxn t.read t.addr = s.arrived := by
  have next : (s.arrive .late).continues t.read t.addr = true := by
    simp [State.continues, State.arrive_late, ht, left]
  rw [State.joinTxn, next, State.arrive_late]
  rfl

/-- Settles O13. -/
theorem burstsAdvanceTheAddress : Obligations.BurstsAdvanceTheAddress := by
  intro s t v ht left heard
  have hears : s.port.deaf = false := by
    simp [Port.deaf, heard, ht]
    omega
  refine ⟨fun write unfired => ?_, fun read => ?_⟩
  · have own : s.burstAddr t.addr v = t.addr := State.burstAddr_eq s t.addr v (by tauto)
    have joined := State.joinTxn_continued ht left
    rw [write] at joined
    have word : s.hostWrite t.addr v =
        (if s.port.ready then s.arrived.writeWord t.addr v else s.arrived).advanceTxn := by
      rw [State.hostWrite, if_neg (by simp [hears]), own, joined]
      rfl
    by_cases ready : s.port.ready = true
    · have unarmed : fires s.arrived.rc.resetArmed t.addr v = false := by
        rcases unfired with off | disarmed | elsewhere | quiet
        · exact absurd (ready.symm.trans off) (by decide)
        · simp [fires, State.arrived, disarmed]
        · simp [fires, elsewhere]
        · simp [fires, quiet]
      obtain ⟨txn, armed⟩ := s.arrived.writeWord_unfired t.addr v unarmed
      rw [if_pos ready] at word
      refine ⟨_, _, congrArg Host.Outcome.next (word.trans (State.advanceTxn_some (txn.trans ht))), rfl, rfl, write,
        by simp [Transaction.onward, write], fun _ => armed, rfl⟩
    · rw [if_neg ready] at word
      exact ⟨_, _, congrArg Host.Outcome.next (word.trans (State.advanceTxn_some ht)), rfl, rfl, write,
        by simp [Transaction.onward, write], fun now => absurd now ready, rfl⟩
  · have joined := State.joinTxn_continued ht left
    rw [read] at joined
    let w := t.word.getD (s.arrived.startWord t.addr)
    let taken : State := { s.arrived with port := { s.arrived.port with sdo := w.value } }
    have latched : s.arrived.latchedWord = t.word := by simp only [State.latchedWord, State.arrived, ht]
    have word : s.hostRead t.addr = (taken.completeRead t.addr w).advanceTxn := by
      rw [State.hostRead, if_neg (by simp [hears]), joined]
      simp only [latched, taken, w]
    have txn : (taken.completeRead t.addr w).port.txn = some t := (State.completeRead_txn _ _ _).trans ht
    refine ⟨_, _, congrArg Host.Outcome.next (word.trans (State.advanceTxn_some txn)), ?_, rfl, rfl, read, rfl,
      fun more => ?_, fun last => by simp [Transaction.onward, last], ?_⟩
    · refine (State.completeRead_sdo _ _ _).trans ?_
      cases start : t.word with
      | some x => simp [taken, w, start]
      | none =>
        simp only [taken, w, start, Option.getD_none]
        exact congrArg WordStart.value (s.startWord_placed t.addr)
    · exact ⟨_, if_pos ⟨read, more⟩, ((State.readWord_txn _ _ _).symm)⟩
    · intro x ready start taking here
      have popped : taken.completeRead t.addr w = taken.disarm.popLog x.element := by
        have isReady : taken.port.ready = true := ready
        simp only [State.completeRead, isReady, if_true, here, regAt_address, w, start, Option.getD_some, taking]
        rfl
      rw [popped]
      refine ⟨fun none => ?_, fun r rest some records => ?_⟩
      · rw [none]
        rfl
      · have log : taken.disarm.gd.log = r :: rest := records
        simp only [some, State.popLog, log, State.evalAlert_gd, and_self]

end Sys2Proof.Machine
end

section
/-! SUPPORT. What a word does by its register's class (sections 1.4 and 9.2), refused run commands (section 12.2) and
the resets (section 12.6). -/

namespace Sys2Proof.Machine

/-! ### Fields in a class (R8 to R10) -/

/-- A register with an Install or a Setup field is no table port, can be written and is not RC_ACTION. -/
theorem Reg.ordinary_of_guarded {r : Reg} (h : r.info.install ≠ 0#32 ∨ r.info.setup ≠ 0#32) :
    tableOf r = none ∧ readOnly r.address = false ∧ r ≠ .rcAction := by
  refine ⟨?_, ?_, ?_⟩
  · cases r <;> first | rfl | exact absurd h (by decide)
  · have stored : r.stored ||| r.info.request ||| r.info.action ≠ 0#32 := by
      intro none
      have all : ∀ i, bit r.info.install i = false ∧ bit r.info.setup i = false := fun i => by
        have := congrArg (bit · i) none
        simp [Reg.stored, bit_or, show bit 0#32 i = false by simp [bit]] at this
        exact ⟨this.1.1.1.1, this.1.1.1.2⟩
      rcases h with h | h
      · exact h (BitVec.eq_of_getLsbD_eq fun i _ => by simpa [bit] using (all i).1)
      · exact h (BitVec.eq_of_getLsbD_eq fun i _ => by simpa [bit] using (all i).2)
    simp [readOnly, regAt_address, stored]
  · rintro rfl
    exact absurd h (by decide)

/-- A word that would change a forbidden field is refused whole (R8). -/
theorem State.hostWrite_forbidden {s : State} {r : Reg} {v : Word} {why : AccessReason} (h : s.listens)
    (guarded : r.info.install ≠ 0#32 ∨ r.info.setup ≠ 0#32) (fault : s.fieldFault r v = some why) :
    exec (.registerWrite r.address v) s = .next ((s.wordDone r.address).refuse true why 0 r.address) := by
  obtain ⟨noTable, writable, other⟩ := Reg.ordinary_of_guarded guarded
  exact congrArg Host.Outcome.next
    (State.hostWrite_refused s r v why h noTable writable fault (State.burstAddr_of_ne s v other))

/-- Settles O7: the two field checks, in their order. -/
theorem forbiddenWordsAreRefused : Obligations.ForbiddenWordsAreRefused := by
  intro s r v h
  have guarded : ∀ {m : Word}, (v ^^^ s.reg r) &&& m ≠ 0#32 → m ≠ 0#32 := by
    rintro m change rfl
    exact change (by simp)
  refine ⟨fun locked change => ?_, fun allowed running change => ?_⟩
  · exact State.hostWrite_forbidden h (.inl (guarded change)) (by simp [State.fieldFault, locked, change])
  · refine State.hostWrite_forbidden h (.inr (guarded change)) ?_
    rw [State.fieldFault, if_neg fun both => both.2 (allowed both.1), if_pos ⟨running, change⟩]

/-! ### Stored words (R11) -/

/-- A state whose station pointer register holds a bit outside the 4 that a word stores. -/
def strayPointer : State := { State.reset with
  port := { Port.reset with ready := true }
  regs := [(Reg.slStationPtr.info.addr, 0x10#32)] }

/-- A word to the station pointer stores its low 4 bits and keeps the others as they stand (R14). -/
theorem exec_strayPointer : exec (.registerWrite Reg.slStationPtr.address 1#32) strayPointer =
    .next ((strayPointer.wordDone Reg.slStationPtr.address).setReg .slStationPtr 0x11#32) :=
  congrArg Host.Outcome.next
    (State.hostWrite_stored ⟨rfl, rfl, by simp [strayPointer, Port.reset]⟩ rfl (by decide)
      (State.fieldFault_free _ _ _ rfl rfl) (State.burstAddr_of_ne _ _ (by decide)) rfl)

/-- Refutes O6: nothing keeps a register of an arbitrary state to its stored bits, and a word to the station pointer
replaces its low 4 bits, where the statement has the whole register replaced. -/
theorem not_permittedWordsAreStored : ¬ Obligations.PermittedWordsAreStored := by
  intro holds
  have permits : strayPointer.permits .slStationPtr 1#32 := ⟨fun _ => by decide, fun _ => by decide⟩
  have listens : strayPointer.listens := ⟨rfl, rfl, by simp [strayPointer, Port.reset]⟩
  obtain ⟨-, -, pointer, -⟩ := holds strayPointer _ .slStationPtr 1#32 (by decide) listens permits rfl
  obtain ⟨stored, -⟩ := pointer rfl
  rw [exec_strayPointer] at stored
  have regs := congrArg State.regs (Host.Outcome.next.inj stored)
  exact absurd regs (by decide)

/-! ### Refused run commands (R167) -/

/-- A word with STOP as its only command bit. -/
theorem State.command_stop (s : State) {o : Word} (h : o &&& 13#32 = 0#32) : s.command (o ||| 2#32) = s.stop := by
  have h0 : bit o 0 = false := bit_eq_false_of_and_eq_zero h rfl
  have h2 : bit o 2 = false := bit_eq_false_of_and_eq_zero h rfl
  have h3 : bit o 3 = false := bit_eq_false_of_and_eq_zero h rfl
  simp [State.command, bit_or, h0, h2, h3, show bit 2#32 0 = false from rfl, show bit 2#32 1 = true from rfl,
    show bit 2#32 2 = false from rfl, show bit 2#32 3 = false from rfl]

/-- A word with ABORT as its only command bit. -/
theorem State.command_abort (s : State) {o : Word} (h : o &&& 11#32 = 0#32) : s.command (o ||| 4#32) = s.abort := by
  have h0 : bit o 0 = false := bit_eq_false_of_and_eq_zero h rfl
  have h1 : bit o 1 = false := bit_eq_false_of_and_eq_zero h rfl
  have h3 : bit o 3 = false := bit_eq_false_of_and_eq_zero h rfl
  simp [State.command, bit_or, h0, h1, h3, show bit 4#32 0 = false from rfl, show bit 4#32 1 = false from rfl,
    show bit 4#32 2 = true from rfl, show bit 4#32 3 = false from rfl]

/-- A word with no command bit does nothing (log 18). -/
theorem State.command_none (s : State) {o : Word} (h : o &&& 15#32 = 0#32) : s.command o = s := by
  have h0 : bit o 0 = false := bit_eq_false_of_and_eq_zero h rfl
  have h1 : bit o 1 = false := bit_eq_false_of_and_eq_zero h rfl
  have h2 : bit o 2 = false := bit_eq_false_of_and_eq_zero h rfl
  have h3 : bit o 3 = false := bit_eq_false_of_and_eq_zero h rfl
  simp [State.command, h0, h1, h2, h3]

/-- A word with START and another command bit is refused. -/
theorem State.command_several (s : State) {o : Word} (h : o &&& 14#32 ≠ 0#32) :
    s.command (o ||| 1#32) = s.refuseCommand .multipleCommands := by
  have start : bit (o ||| 1#32) 0 = true := by simp [bit_or, show bit 1#32 0 = true from rfl]
  have more : bit (o ||| 1#32) 1 = true ∨ bit (o ||| 1#32) 2 = true ∨ bit (o ||| 1#32) 3 = true := by
    by_contra none
    simp only [not_or, Bool.not_eq_true] at none
    obtain ⟨h1, h2, h3⟩ := none
    refine h (BitVec.eq_of_getLsbD_eq fun i hi => ?_)
    simp only [bit] at h1 h2 h3
    interval_cases i <;> simp_all
  unfold State.command
  rw [start]
  split <;> simp_all

/-- Start outside Halted. -/
theorem State.start_of_wrongState {s : State} (h : s.rc.state ≠ .halted) : s.start = s.commandRefused 0 1 0 := by
  have state : (s.nameCommand 0).rc.state ≠ .halted := h
  simp only [State.start]
  split <;> first | contradiction | exact State.refuseCommand_nameCommand s 0 .wrongState

/-- Stop outside Running. -/
theorem State.stop_of_wrongState {s : State} (h : s.rc.state ≠ .running) : s.stop = s.commandRefused 1 1 0 := by
  have state : (s.nameCommand 1).rc.state ≠ .running := h
  simp only [State.stop]
  split <;> first | contradiction | exact State.refuseCommand_nameCommand s 1 .wrongState

/-- Abort in Halted. -/
theorem State.abort_of_halted {s : State} (h : s.rc.state = .halted) : s.abort = s.commandRefused 2 1 0 := by
  have state : (s.nameCommand 2).rc.state = .halted := h
  simp only [State.abort, state]
  exact State.refuseCommand_nameCommand s 2 .wrongState

/-- Recover outside Faulted. -/
theorem State.recover_of_wrongState {s : State} (h : s.rc.state ≠ .faulted) : s.recover = s.commandRefused 3 1 0 := by
  have state : (s.nameCommand 3).rc.state ≠ .faulted := h
  simp only [State.recover]
  split <;> first | contradiction | exact State.refuseCommand_nameCommand s 3 .wrongState

/-- A word to RC_COMMAND, by what its command does. -/
theorem exec_of_command {s : State} {c : Instr} {o : Word} {u : State} (h : s.listens)
    (written : writtenWord s c = some (Reg.rcCommand.address, o))
    (does : (s.wordBegun Reg.rcCommand.address).command o = u) :
    exec c s = .next { u with port := (s.wordDone Reg.rcCommand.address).port } := by
  rw [exec_of_writtenWord written, State.hostWrite_command o h, does]

/-- Settles O17: the refusals of the four commands, by the run state. -/
theorem runCommandsAreRefused : Obligations.RunCommandsAreRefused := by
  rintro s d o h rfl
  refine ⟨fun only wrong => ?_, fun only wrong => ?_, fun only wrong => ?_, fun only wrong => ?_,
    fun only faulted entries => ?_, fun several => ?_, fun none => ?_⟩
  · exact exec_of_command h rfl ((State.command_start _ only).trans
      (State.start_of_wrongState (s := s.wordBegun _) wrong))
  · exact exec_of_command h rfl ((State.command_stop _ only).trans
      (State.stop_of_wrongState (s := s.wordBegun _) wrong))
  · exact exec_of_command h rfl ((State.command_abort _ only).trans
      (State.abort_of_halted (s := s.wordBegun _) wrong))
  · exact exec_of_command h rfl ((State.command_recover _ only).trans
      (State.recover_of_wrongState (s := s.wordBegun _) wrong))
  · exact exec_of_command h rfl ((State.command_recover _ only).trans
      (State.recover_of_entries (s := s.wordBegun _) faulted entries))
  · exact exec_of_command h rfl (State.command_several _ several)
  · exact exec_of_command h rfl (State.command_none _ none)

/-! ### Resets (R176, R177) -/

/-- The actions before a soft reset leave what it preserves. -/
theorem State.softReset_cleared (s : State) (v : Word) : (s.cleared v).softReset = s.softReset := by
  have kept : (s.cleared v).pending = s.pending ∧ (s.cleared v).pattern = s.pattern ∧
      (s.cleared v).route = s.route ∧ (s.cleared v).sl = s.sl ∧ (s.cleared v).pins = s.pins ∧
      (s.cleared v).lines = s.lines ∧ (s.cleared v).inputs = s.inputs ∧ (s.cleared v).freeCount = s.freeCount := by
    simp [State.cleared, State.snapshot, State.clearCounters, apply_ite State.pending, apply_ite State.pattern,
      apply_ite State.route, apply_ite State.sl, apply_ite State.pins, apply_ite State.lines,
      apply_ite State.inputs, apply_ite State.freeCount]
  obtain ⟨pending, pattern, route, sl, pins, lines, inputs, free⟩ := kept
  simp only [State.softReset, pending, pattern, route, sl, pins, lines, inputs, free, State.cleared_port]

/-- A word without the first four actions clears nothing. -/
theorem State.cleared_none (s : State) {v : Word} (h : v &&& 0xF#32 = 0#32) : s.cleared v = s := by
  have h0 : bit v 0 = false := bit_eq_false_of_and_eq_zero h rfl
  have h1 : bit v 1 = false := bit_eq_false_of_and_eq_zero h rfl
  have h2 : bit v 2 = false := bit_eq_false_of_and_eq_zero h rfl
  have h3 : bit v 3 = false := bit_eq_false_of_and_eq_zero h rfl
  simp [State.cleared, h0, h1, h2, h3]

/-- RC_ACTION is no Port: a burst at it moves on to the next address (R5). -/
theorem nextAddr_action : nextAddr Reg.rcAction.address = Reg.rcAction.address + 1#14 := by decide

/-- A burst goes on at RC_ACTION's own address, or at the next one. -/
theorem State.continues_address {s : State} {a : Addr} (h : s.continues false a = true) :
    (∃ t, s.port.txn = some t ∧ t.addr = a) := by
  obtain ⟨t, ht, -, -, ha⟩ := State.continues_write h
  exact ⟨t, ht, ha⟩

/-- Settles O3: an armed DEVICE_RESET is the soft reset of the state that its word found, another one arms it. -/
theorem resetsRestoreEveryBlock : Obligations.ResetsRestoreEveryBlock := by
  intro s o
  have asks : bit (o ||| 16#32) 4 = true := by simp [bit_or, show bit 16#32 4 = true from rfl]
  refine ⟨rfl, fun h unarmed only => ?_, fun h armed => ?_⟩
  · have word : s.hostWrite Reg.rcAction.address (o ||| 16#32) = { s.wordDone Reg.rcAction.address with
        rc := { s.rc with resetArmed := true } } := by
      have effect : ∀ x : State, x.applyWord .rcAction (o ||| 16#32) s.rc.resetArmed =
          { x with rc := { x.rc with resetArmed := true } } := fun x => by
        have action : x.applyWord .rcAction (o ||| 16#32) s.rc.resetArmed = x.action (o ||| 16#32) s.rc.resetArmed :=
          rfl
        have none : (o ||| 16#32) &&& 0xF#32 = 0#32 := by
          rw [BitVec.and_or_distrib_right, only]
          decide
        rw [action, State.action_eq, asks, if_pos rfl, State.deviceReset, unarmed, if_neg (by decide),
          State.cleared_none x none]
      exact State.hostWrite_of_effect h (by decide)
        (State.burstAddr_eq _ _ _ (.inr (.inr (.inr unarmed)))) (effect _) rfl
    refine congrArg Host.Outcome.next (word.trans ?_)
    have txn : (s.wordDone Reg.rcAction.address).port.txn = if s.continues false Reg.rcAction.address then
        s.port.txn.map fun x => { read := x.read, left := x.left - 1, word := none, addr := x.addr + 1#14 }
        else none := by
      simp only [State.wordDone]
      split
      · next goesOn =>
        obtain ⟨t, ht, ha⟩ := State.continues_address goesOn
        simp only [ht, Option.map_some, Transaction.afterWrite, ha, nextAddr_action]
      · rfl
    rw [← txn]
    rfl
  · have soft : s.hostWrite Reg.rcAction.address (o ||| 16#32) =
        (s.wordBegun (s.burstAddr Reg.rcAction.address (o ||| 16#32))).softReset := by
      rw [State.hostWrite_applied s .rcAction _ h rfl (by decide) (State.fieldFault_free _ _ _ rfl rfl)]
      have effect : ∀ x : State, x.applyWord .rcAction (o ||| 16#32) s.rc.resetArmed = x.softReset := fun x => by
        have : x.applyWord .rcAction (o ||| 16#32) s.rc.resetArmed = x.action (o ||| 16#32) s.rc.resetArmed := rfl
        rw [this, State.action_eq, asks, if_pos rfl, State.deviceReset, armed, if_pos rfl, State.softReset_cleared]
      rw [effect]
      exact State.advanceTxn_none _ rfl
    refine congrArg Host.Outcome.next (soft.trans ?_)
    have ignoring : (s.wordBegun (s.burstAddr Reg.rcAction.address (o ||| 16#32))).port.txn.isSome =
        (s.continues false Reg.rcAction.address || s.continues false (Reg.rcAction.address + 1#14)) := by
      have isSome : ∀ a, (s.wordBegun a).port.txn.isSome = s.continues false a := fun a => by
        simp only [State.wordBegun]
        split
        · next goesOn =>
          obtain ⟨t, ht, -⟩ := State.continues_address goesOn
          rw [ht, goesOn]
          rfl
        · next other => simp [other]
      rw [isSome, State.burstAddr, nextAddr_action]
      split
      · next second =>
        obtain ⟨-, -, -, -, second⟩ := second
        simp [second]
      · next first =>
        have : s.continues false (Reg.rcAction.address + 1#14) = false := by
          simpa [asks, h.1, armed] using first
        simp [this]
    rw [← ignoring]
    rfl

end Sys2Proof.Machine
end

section
/-! SUPPORT. A close of the open batch (section 10.3), said once: the destination it chooses and what it leaves;
FLUSH and
STOP. -/

namespace Sys2Proof.Machine

/-- The first entry without a veto after an entry, itself last (R155). -/
def State.nextRoute (s : State) (p : Nat) : Option Nat :=
  ((List.range s.routeCount).map fun k => (p + 1 + k) % s.routeCount).find? fun i => !s.routeVeto i

/-- Pointer and uses after an entry used `u` times has taken one more batch (R154). -/
def State.routeAfter (s : State) (p u : Nat) : Nat × Nat :=
  if s.routeShare p ≤ u + 1 then
    match s.nextRoute p with
    | some c => (c, 0)
    | none => (p, u + 1)
  else (p, u + 1)

/-- A batch closed to entry `i`, in use and used `u` times (R154, R156). -/
def State.closedTo (s : State) (flush : Bool) (n i u : Nat) : State :=
  s.closed (s.routeAfter i u).1 (s.routeAfter i u).2 false
    (routePayload (s.routeDest i) s.br.batchNo n flush false i s.br.openEpoch)

/-- A batch closed with every entry vetoed: it goes to the fallback (R155). -/
def State.closedToFallback (s : State) (flush : Bool) (n : Nat) : State :=
  s.closed s.br.pointer s.br.uses true
    (routePayload ((s.reg .brFallback).extractLsb' 0 8) s.br.batchNo n flush true s.br.pointer s.br.openEpoch)

/-- The entry in use takes one more batch: pointer and uses, and nothing else. -/
theorem State.useRoute_eq (s : State) : s.useRoute = { s with br := { s.br with
    pointer := (s.routeAfter s.br.pointer s.br.uses).1, uses := (s.routeAfter s.br.pointer s.br.uses).2 } } := by
  have next : s.nextRoute s.br.pointer = s.routeAdvance := rfl
  unfold State.useRoute State.routeAfter
  rw [next]
  dsimp only
  split
  · split <;> next found => simp only [found]
  · rfl

/-- A message that the fallback takes (R155, R156). -/
theorem State.pushRoute_exhausted (s : State) (m : List Byte) :
    (((({ (s.bump .batches) with
      br := { s.br with batchNo := s.br.batchNo + 1#8, openCount := 0 } } : State).bump .routeExhausted).raise
        .routeExhausted).pushRoute m) = s.closed s.br.pointer s.br.uses true m := by
  unfold State.pushRoute State.closed
  by_cases h : s.sl.routeQ.length < 8
  · simp [h, State.bump, State.bumpBy, State.raise, Config.routeQueue, Event.num]
    rfl
  · simp [h, State.bump, State.bumpBy, State.raise, Config.routeQueue, Event.num]
    rfl

/-- A close of the open batch, by the veto of the entry in use and the search for the next one (R154 to R156). -/
theorem State.closeBatch_eq (s : State) (flush : Bool) (n : Nat) : s.closeBatch flush n =
    if s.routeVeto s.br.pointer = true then
      (match s.nextRoute s.br.pointer with
      | some c => s.closedTo flush n c 0
      | none => s.closedToFallback flush n)
    else s.closedTo flush n s.br.pointer s.br.uses := by
  let x : State := { (s.bump .batches) with br := { s.br with batchNo := s.br.batchNo + 1#8, openCount := 0 } }
  have toEntry : ∀ c u : Nat, ({ x with br := { x.br with pointer := c, uses := u } } : State).useRoute.pushRoute
      (routePayload (s.routeDest c) s.br.batchNo n flush false c s.br.openEpoch) = s.closedTo flush n c u := by
    intro c u
    rw [State.useRoute_eq]
    exact State.pushRoute_closed s _ _ _
  unfold State.closeBatch
  dsimp only
  split
  · next veto =>
    rw [if_pos (by exact veto)]
    split
    · next absent =>
      have absent : s.nextRoute s.br.pointer = none := absent
      rw [absent]
      exact State.pushRoute_exhausted s _
    · next c found =>
      have found : s.nextRoute s.br.pointer = some c := found
      rw [found]
      exact toEntry c 0
  · next free =>
    rw [if_neg (by exact free)]
    exact toEntry s.br.pointer s.br.uses

/-- The port, and of run control all but the flags, play no part in what a close leaves. -/
theorem State.closed_within (s : State) (p : Port) {r : RunControl} {f : Word} (h : r.flags = s.rc.flags ||| f)
    (c u : Nat) (x : Bool) (m : List Byte) : ({ s with port := p, rc := r } : State).closed c u x m =
      { s.closed c u x m with port := p, rc := { r with flags := (s.closed c u x m).rc.flags ||| f } } := by
  have flags : ∀ w a : Word, w ||| f ||| a = w ||| a ||| f := fun w a => by
    rw [BitVec.or_assoc, BitVec.or_comm f, ← BitVec.or_assoc]
  unfold State.closed
  by_cases room : s.sl.routeQ.length < 8 <;> cases x <;>
    simp [room, h, State.bump, State.bumpBy, State.counter, flags]

/-- The port, and of run control all but the flags, play no part in a close; flags raised before it stay raised. -/
theorem State.closeBatch_raised (s : State) (p : Port) {r : RunControl} {f : Word} (h : r.flags = s.rc.flags ||| f)
    (flush : Bool) (n : Nat) : ({ s with port := p, rc := r } : State).closeBatch flush n =
      { s.closeBatch flush n with port := p, rc := { r with flags := (s.closeBatch flush n).rc.flags ||| f } } := by
  have veto : ({ s with port := p, rc := r } : State).routeVeto s.br.pointer = s.routeVeto s.br.pointer := rfl
  have next : ({ s with port := p, rc := r } : State).nextRoute s.br.pointer = s.nextRoute s.br.pointer := rfl
  rw [State.closeBatch_eq, State.closeBatch_eq]
  dsimp only
  rw [veto, next]
  split
  · cases s.nextRoute s.br.pointer with
    | some c => exact State.closed_within s p h _ _ _ _
    | none => exact State.closed_within s p h _ _ _ _
  · exact State.closed_within s p h _ _ _ _

theorem State.closeBatch_within (s : State) (p : Port) {r : RunControl} (h : r.flags = s.rc.flags) (flush : Bool)
    (n : Nat) : ({ s with port := p, rc := r } : State).closeBatch flush n =
      { s.closeBatch flush n with port := p, rc := { r with flags := (s.closeBatch flush n).rc.flags } } := by
  have same := State.closeBatch_raised s p (f := 0#32) (h.trans BitVec.or_zero.symm) flush n
  rwa [BitVec.or_zero] at same

/-- Of run control a close changes the flags alone. -/
theorem State.closeBatch_rc (s : State) (flush : Bool) (n : Nat) :
    (s.closeBatch flush n).rc = { s.rc with flags := (s.closeBatch flush n).rc.flags } := by
  rw [State.closeBatch_eq]
  split
  · split <;> rfl
  · rfl

/-- The port plays no part in a close. -/
theorem State.closeBatch_port (s : State) (p : Port) (flush : Bool) (n : Nat) :
    ({ s with port := p } : State).closeBatch flush n = { s.closeBatch flush n with port := p } := by
  refine (State.closeBatch_within s p (r := s.rc) rfl flush n).trans ?_
  rw [← State.closeBatch_rc]

/-- The next entry found: the first without a veto (R155). -/
theorem State.nextRoute_of_found {s : State} {p k : Nat} (hk : k < s.routeCount)
    (before : ∀ i < k, s.routeVeto ((p + 1 + i) % s.routeCount) = true)
    (free : s.routeVeto ((p + 1 + k) % s.routeCount) = false) :
    s.nextRoute p = some ((p + 1 + k) % s.routeCount) := by
  unfold State.nextRoute
  rw [List.find?_map, Option.map_eq_some_iff]
  refine ⟨k, List.find?_range_eq_some.mpr ⟨by simp [free], by simpa using hk, fun j hj => by simp [before j hj]⟩, rfl⟩

/-- No entry is found where every one has a veto (R155). -/
theorem State.nextRoute_of_vetoed {s : State} {p : Nat}
    (all : ∀ i < s.routeCount, s.routeVeto ((p + 1 + i) % s.routeCount) = true) : s.nextRoute p = none := by
  unfold State.nextRoute
  simp only [List.find?_eq_none, List.mem_map, List.mem_range]
  rintro _ ⟨i, hi, rfl⟩
  simp [all i hi]

/-- A word to BR_DEMAND with FLUSH set flushes the open batch (R157). -/
theorem exec_flush {s : State} (h : s.listens) :
    exec .flush s = .next (s.wordDone Reg.brDemand.address).flushRoute := by
  have asks : bit (s.flagWord .brDemand 0 true) 0 = true := State.bit_flagWord_self _ _ _ (by decide)
  have effect : (s.wordBegun Reg.brDemand.address).applyWord .brDemand (s.flagWord .brDemand 0 true)
      s.rc.resetArmed = (s.wordBegun Reg.brDemand.address).flushRoute := if_pos asks
  have word := State.hostWrite_of_effect h (r := .brDemand) (by decide) (State.burstAddr_of_ne s _ (by decide)) effect
    (by simp)
  refine (exec_of_flagWrite .brDemand 0 true rfl).trans (congrArg Host.Outcome.next (word.trans ?_))
  unfold State.flushRoute
  have count : (s.wordDone Reg.brDemand.address).br.openCount = (s.wordBegun Reg.brDemand.address).br.openCount := rfl
  rw [count]
  split
  · rfl
  · exact (State.closeBatch_port _ (s.wordDone Reg.brDemand.address).port _ _).symm

/-- The payload of a Batch Route message, as R156 lists it. -/
theorem routePayload_eq (dest batch : Byte) (n : Nat) (flush fallback : Bool) (i : Nat) (epoch : BitVec 4) :
    routePayload dest batch n flush fallback i epoch = [dest, batch, BitVec.ofNat 8 n,
      (if fallback then 2#8 else 0#8) ||| (if flush then 1#8 else 0#8), BitVec.ofNat 8 i, 0#4 ++ epoch] := by
  cases flush <;> cases fallback <;> rfl

/-- Settles O31: the cases of a close, by the veto and the share of the entries. -/
theorem flushClosesTheOpenBatch : Obligations.FlushClosesTheOpenBatch := by
  refine ⟨?_, fun s flush n p k j c e m => ⟨fun empty => ?_, fun batch => ?_, ?_⟩⟩
  · rintro s d h rfl
    refine ⟨fun empty => ?_, fun batch => ?_⟩
    · rw [exec_flush h, State.flushRoute, if_pos (by exact empty)]
      rfl
    · rw [exec_flush h, State.flushRoute, if_neg (by exact batch)]
      rfl
  · rw [State.flushRoute, if_pos empty]
    rfl
  · rw [State.flushRoute, if_neg batch]
  · rintro rfl rfl rfl message
    have payload : ∀ dest i, routePayload dest s.br.batchNo n flush false i s.br.openEpoch = m dest 0#8 i :=
      fun dest i => by rw [routePayload_eq, message]; rfl
    refine ⟨fun free left => ?_, fun free used hk before next => ?_, fun veto hk before next more => ?_,
      fun veto hk before next single hj skipped last => ?_, fun veto all => ?_⟩
    · have after : s.routeAfter s.br.pointer s.br.uses = (s.br.pointer, s.br.uses + 1) := if_neg (by omega)
      simp only [State.closeBatch_eq, free, Bool.false_eq_true, if_false, State.closedTo, after, payload]
    · have after : s.routeAfter s.br.pointer s.br.uses = (_, 0) :=
        (if_pos used).trans (by rw [State.nextRoute_of_found hk before next])
      simp only [State.closeBatch_eq, free, Bool.false_eq_true, if_false, State.closedTo, after, payload]
    · have after : s.routeAfter ((s.br.pointer + 1 + k) % s.routeCount) 0 = (_, 1) := if_neg (Nat.not_le.mpr more)
      simp only [State.closeBatch_eq, veto, if_true, State.nextRoute_of_found hk before next, State.closedTo, after,
        payload]
    · have after : s.routeAfter _ 0 = (_, 0) :=
        (if_pos single).trans (by rw [State.nextRoute_of_found hj skipped last])
      simp only [State.closeBatch_eq, veto, if_true, State.nextRoute_of_found hk before next, State.closedTo, after,
        payload]
    · have fallback : routePayload ((s.reg .brFallback).extractLsb' 0 8) s.br.batchNo n flush true s.br.pointer
          s.br.openEpoch = m (BitVec.ofNat 8 (s.fieldOf .brFallback 0 8)) 2#8 s.br.pointer := by
        rw [routePayload_eq, message]
        have dest : (s.reg .brFallback).extractLsb' 0 8 = BitVec.ofNat 8 (s.fieldOf .brFallback 0 8) :=
          BitVec.eq_of_toNat_eq (by simp [State.fieldOf, field])
        rw [dest]
        rfl
      simp only [State.closeBatch_eq, veto, if_true, State.nextRoute_of_vetoed all, State.closedToFallback, fallback]

/-- A close leaves a message in the route queue: its own, or those that fill it. -/
theorem State.closeBatch_not_drained (s : State) (flush : Bool) (n : Nat) :
    (s.closeBatch flush n).isDrained = false := by
  have queued : ∀ c u x m, (s.closed c u x m).isDrained = false := by
    intro c u x m
    have : (s.closed c u x m).sl.routeQ ≠ [] := by
      rw [State.closed_routeQ]
      split
      · simp
      · intro none
        simp_all
    rw [State.isDrained, List.isEmpty_eq_false_iff.mpr this, Bool.and_false]
  rw [State.closeBatch_eq]
  split
  · split <;> exact queued _ _ _ _
  · exact queued _ _ _ _

/-- An accepted Stop in Running (R169). -/
theorem State.stop_of_running {s : State} (h : s.rc.state = .running) :
    s.stop = (((s.nameCommand 1).acceptCommand.setRun .draining).flushRoute).drainedTest := by
  have state : (s.nameCommand 1).rc.state = .running := h
  simp only [State.stop, state]

/-- The STOP row at a port that listens. -/
theorem exec_stop {s : State} {o : Word} (h : s.listens) (ho : o &&& 13#32 = 0#32) : exec (.stop o) s = .next
    { (s.wordBegun Reg.rcCommand.address).stop with port := (s.wordDone Reg.rcCommand.address).port } :=
  exec_of_command h rfl (State.command_stop _ ho)

/-- The drained test in Draining (R169). -/
theorem State.drainedTest_of_draining {s : State} (h : s.rc.state = .draining) :
    s.drainedTest = { s with rc := { s.rc with
    state := if s.isDrained then .halted else .draining
    flags := if s.isDrained then s.rc.flags ||| 0x10000#32 else s.rc.flags } } := by
  unfold State.drainedTest
  cases drained : s.isDrained with
  | true => simp [h, State.raise, Event.num]
  | false => simp [← h]

/-- Settles O19: the flush of Stop, then its drained test, which a closed batch fails. -/
theorem stopFlushesAndDrains : Obligations.StopFlushesAndDrains := by
  rintro s d z o h running only rfl rfl
  have stop := State.stop_of_running (s := s.wordBegun Reg.rcCommand.address) running
  refine ⟨fun empty => ?_, fun batch => ?_⟩
  · refine (exec_stop h only).trans (congrArg Host.Outcome.next ?_)
    rw [stop, State.flushRoute, if_pos (by exact empty), State.drainedTest_of_draining (by rfl)]
    rfl
  · refine (exec_stop h only).trans (congrArg Host.Outcome.next ?_)
    rw [stop, State.flushRoute, if_neg (by exact batch),
      State.drainedTest_of_draining (by rw [State.closeBatch_rc]; rfl), State.closeBatch_not_drained]
    have within := State.closeBatch_within (s.wordDone Reg.rcCommand.address) (s.wordBegun Reg.rcCommand.address).port
      (r := { s.rc.accepted 1 with state := .draining }) rfl true s.br.openCount
    have begun : (((s.wordBegun Reg.rcCommand.address).nameCommand 1).acceptCommand.setRun .draining).closeBatch true
        (((s.wordBegun Reg.rcCommand.address).nameCommand 1).acceptCommand.setRun .draining).br.openCount = _ := within
    have port : ((s.wordDone Reg.rcCommand.address).closeBatch true s.br.openCount).port =
        (s.wordDone Reg.rcCommand.address).port := by simp
    rw [begun, ← port]
    rfl

end Sys2Proof.Machine
end

section
/-! SUPPORT. Words to the tables' data ports (sections 1.5 and 8.5). -/

namespace Sys2Proof.Machine

/-- A word to a table's data port acts on the table and its pointer, and beside it as every word does. -/
theorem exec_tableDataWrite {s : State} (t : TableId) (v : Word) (h : s.listens) :
    ∃ p, exec (.tableDataWrite t v) s = .next { (s.wordBegun (dataReg t).address).writeTablePort t v
      (dataReg t).address with port := p } ∧
      p.refused = ((s.wordBegun (dataReg t).address).writeTablePort t v (dataReg t).address).port.refused := by
  have own : s.burstAddr (dataReg t).address v = (dataReg t).address :=
    State.burstAddr_of_ne s v (by cases t <;> decide)
  have write : ((s.arrive .late).joinTxn false (dataReg t).address).writeWord (dataReg t).address v =
      (s.wordBegun (dataReg t).address).writeTablePort t v (dataReg t).address := by
    simp only [State.writeWord, State.wordBegun_eq, regAt_address]
    cases t <;> rfl
  have word : s.hostWrite (dataReg t).address v =
      ((s.wordBegun (dataReg t).address).writeTablePort t v (dataReg t).address).advanceTxn := by
    rw [State.hostWrite_ready s _ _ h, own, write]
  rw [State.advanceTxn_write s _ _ (State.writeTablePort_txn _ _ _ _)] at word
  exact ⟨_, congrArg Host.Outcome.next word, rfl⟩

/-- The pointer of a table after it has moved on (R15). -/
theorem State.pointer_advancePointer {s : State} (t : TableId) (h : tableWf regReset s.regs = true) :
    (s.advancePointer t).pointer t = (s.pointer t + 1) % tableEntries t := by
  have small : (s.pointer t + 1) % tableEntries t < tableEntries t := Nat.mod_lt _ (by cases t <;> decide)
  have fits : tableEntries t ≤ 4096 := by cases t <;> decide
  rw [State.pointer, State.advancePointer, State.reg_setReg_self s _ _ h, BitVec.toNat_ofNat,
    Nat.mod_eq_of_lt (a := (s.pointer t + 1) % tableEntries t) (by omega), Nat.mod_eq_of_lt small]

/-- A table word refused at its entry, its pointer moved on all the same (R15, R12): what the statement of O14 keeps. -/
theorem State.refused_advanced {s x : State} {t : TableId} {why : AccessReason} {a : Addr} {p : Port}
    (canonical : s.tablesCanonical = true)
    (refused : x = (((s.wordBegun a).refuse true why (s.pointer t) a).advancePointer t))
    (port : p.refused = x.port.refused) :
    ({ x with port := p } : State).pattern = s.pattern ∧ ({ x with port := p } : State).route = s.route ∧
    ({ x with port := p } : State).sl = (s.arrive .late).sl ∧
    ({ x with port := p } : State).pointer t = (s.pointer t + 1) % tableEntries t ∧
    ({ x with port := p } : State).counter .accessRefusals = s.counter .accessRefusals + 1#32 ∧
    (bit s.port.refused 31 = false → ({ x with port := p } : State).port.refused =
      refusalRecord true why (s.pointer t) a) := by
  rw [State.refuse_eq] at refused
  subst refused
  refine ⟨rfl, rfl, rfl, State.pointer_advancePointer (s := s.wordBegun a) t (State.regs_canonical canonical),
    State.counter_bump_self (s := s) (State.counters_canonical canonical) rfl, fun empty => port.trans ?_⟩
  exact if_neg (by rw [show (s.wordBegun a).port.refused = s.port.refused from rfl, empty]; decide)

theorem getD_set_self {α : Type} {l : List α} {i : Nat} {x : α} (d : α) (h : i < l.length) :
    (l.set i x).getD i d = x := by
  simp [h]

theorem getD_set_other {α : Type} {l : List α} {i k : Nat} (x d : α) (h : k ≠ i) :
    (l.set i x).getD k d = l.getD k d := by
  simp [List.getD_eq_getElem?_getD, List.getElem?_set_ne (Ne.symm h)]

/-- A station's entry after a permitted word (R130). -/
def Station.written (x : Station) (v : Word) : Station :=
  if x.state = .disabled ∧ bit v 0 = true then
    { group := groupOf (field v 1 2), state := .unknown, misses := 0, busy := 0#2, faults := 0#6, replies := x.replies }
  else if x.state ≠ .disabled ∧ bit v 0 = false then
    { group := groupOf (field v 1 2), state := .disabled, misses := 0, busy := 0#2, faults := 0#6
      replies := x.replies }
  else { x with group := groupOf (field v 1 2) }

/-- A permitted word to the station table: the entry, and the outcome of a poll that disabling discards (R130). -/
theorem State.writeStation_eq (s : State) (i : Nat) (v : Word) : s.writeStation i v = { s with sl := { s.sl with
    stations := s.sl.stations.set i ((s.station i).written v)
    discard := s.sl.discard ||
      (decide ((s.station i).state ≠ .disabled) && !bit v 0 && s.pollInProgress i) } } := by
  unfold State.writeStation Station.written
  by_cases off : (s.station i).state = .disabled <;> cases on : bit v 0
  · simp [off, State.setStation]
  · simp [off, State.setStation, Station.restart]
  · have poll : (s.setStation i (({ s.station i with group := groupOf (field v 1 2) } : Station).restart
        .disabled)).pollInProgress i = s.pollInProgress i := rfl
    simp only [off, decide_false, State.discardPoll, poll]
    cases s.pollInProgress i <;> simp [off, State.setStation, Station.restart]
  · simp [off, State.setStation]

/-- What the route table keeps of a word (R153). -/
theorem routeStored_eq (v : Word) :
    routeStored v = if field v 8 4 = 0 then (v &&& 0x8FFF#32) ||| 0x100#32 else v &&& 0x8FFF#32 := by
  have share : field (v &&& 0x8FFF#32) 8 4 = field v 8 4 := by
    refine Nat.eq_of_testBit_eq fun j => ?_
    rw [testBit_field, testBit_field, bit_and]
    by_cases hj : j < 4
    · have : bit 0x8FFF#32 (8 + j) = true := by interval_cases j <;> decide
      simp [this]
    · simp [hj]
  rw [routeStored, share]

/-- Settles O14: the tables' branches, refused and permitted. -/
theorem tableWritesStoreAndAdvance : Obligations.TableWritesStoreAndAdvance := by
  intro s v canonical h
  have regs := State.regs_canonical canonical
  refine ⟨fun off => ?_, fun on => ?_, ?_, fun locked change => ?_, fun x hx allowed stations => ?_⟩
  · obtain ⟨p, word, -⟩ := exec_tableDataWrite .pattern v h
    have written : (s.wordBegun (dataReg .pattern).address).writeTablePort .pattern v (dataReg .pattern).address =
        ({ s.wordBegun (dataReg .pattern).address with
          pattern :=
            writeTable 0#32 s.pattern (s.pointer .pattern) (v &&& 3#32) } : State).advancePointer .pattern := by
      rw [State.writeTablePort, if_neg (by exact (Bool.not_eq_true _).mpr off)]
      rfl
    rw [written] at word
    exact ⟨_, word, rfl, State.pointer_advancePointer .pattern regs, rfl, rfl, rfl⟩
  · obtain ⟨p, word, port⟩ := exec_tableDataWrite .pattern v h
    have refused : (s.wordBegun (dataReg .pattern).address).writeTablePort .pattern v (dataReg .pattern).address =
        ((s.wordBegun (dataReg .pattern).address).refuse true .tableBusy (s.pointer .pattern)
          (dataReg .pattern).address).advancePointer .pattern := by
      rw [State.writeTablePort, if_pos (by exact on)]
      rfl
    obtain ⟨pattern, -, -, pointer, count, record⟩ := State.refused_advanced canonical refused port
    exact ⟨_, word, pattern, pointer, count, record⟩
  · obtain ⟨p, word, -⟩ := exec_tableDataWrite .route v h
    refine ⟨_, word, ?_, State.pointer_advancePointer .route regs, rfl, rfl⟩
    exact congrArg (writeTable 0#32 s.route (s.pointer .route)) (routeStored_eq v)
  · obtain ⟨p, word, port⟩ := exec_tableDataWrite .station v h
    have refused : (s.wordBegun (dataReg .station).address).writeTablePort .station v (dataReg .station).address =
        ((s.wordBegun (dataReg .station).address).refuse true .installLocked (s.pointer .station)
          (dataReg .station).address).advancePointer .station := by
      have differs : s.changesStation (s.pointer .station) v = true := bne_iff_ne.mpr change
      rw [State.writeTablePort, if_pos (by exact ⟨locked, differs⟩)]
      rfl
    obtain ⟨pattern, route, sl, pointer, count, record⟩ := State.refused_advanced canonical refused port
    exact ⟨_, word, sl, pattern, route, pointer, count, record⟩
  · subst hx
    obtain ⟨p, word, -⟩ := exec_tableDataWrite .station v h
    have written : (s.wordBegun (dataReg .station).address).writeTablePort .station v (dataReg .station).address =
        ((s.wordBegun (dataReg .station).address).writeStation (s.pointer .station) v).advancePointer .station := by
      have kept : ¬ (s.port.installLock = true ∧ s.changesStation (s.pointer .station) v = true) := by
        rintro ⟨locked, differs⟩
        rcases allowed with unlocked | same
        · exact absurd (locked.symm.trans unlocked) (by decide)
        · exact bne_iff_ne.mp differs same
      rw [State.writeTablePort, if_neg (by exact kept)]
      rfl
    rw [written, State.writeStation_eq] at word
    have there : s.pointer .station < s.sl.stations.length := by
      rw [stations]
      exact Nat.mod_lt _ (by decide)
    refine ⟨_, word, ?_, fun k other => ?_, rfl, State.pointer_advancePointer .station regs, rfl, rfl, rfl⟩
    · exact getD_set_self _ there
    · exact getD_set_other _ _ other

end Sys2Proof.Machine
end

section
/-! SUPPORT. What an operation adds to one counter (R178), stage by stage; and an accepted Abort (R170), part by
part. -/

namespace Sys2Proof.Machine

/-! ### Counting -/

/-- From `s` to `t` the counter `k` moves on by `n`, and the counters stay canonical. -/
def State.counts (s t : State) (k : Ctr) (n : Nat) : Prop :=
  tableWf zeroDefault s.counters = true →
    tableWf zeroDefault t.counters = true ∧ t.counter k = s.counter k + BitVec.ofNat 32 n

section
variable {s t u : State} {k : Ctr} {m n : Nat}

theorem State.counts.of_eq (h : t.counters = s.counters) : s.counts t k 0 := fun wf =>
  ⟨h ▸ wf, by simp [State.counter, h]⟩

theorem State.counts.trans (h : s.counts t k m) (h' : t.counts u k n) : s.counts u k (m + n) := fun wf => by
  obtain ⟨wf', first⟩ := h wf
  obtain ⟨wf'', second⟩ := h' wf'
  refine ⟨wf'', ?_⟩
  rw [second, first, BitVec.ofNat_add, BitVec.add_assoc]

theorem State.counts.bumpBy (s : State) (k : Ctr) (n : Nat) : s.counts (s.bumpBy k n) k n := fun wf =>
  ⟨State.bumpBy_counters_wf s k n wf, State.counter_bumpBy_self s k k n wf rfl⟩

theorem State.counts.bumpBy_other (s : State) (c : Ctr) (n : Nat) (h : k.offset ≠ c.offset) :
    s.counts (s.bumpBy c n) k 0 := fun wf =>
  ⟨State.bumpBy_counters_wf s c n wf, by simp [State.counter_bumpBy_other s c k n h]⟩

theorem State.counts.bump_other (s : State) (c : Ctr) (h : k.offset ≠ c.offset) : s.counts (s.bump c) k 0 :=
  State.counts.bumpBy_other s c 1 h

/-- A stage that leaves the counter alone, then one that is only looked at through its counters. -/
theorem State.counts.then_eq (h : s.counts t k n) (h' : u.counters = t.counters) : s.counts u k n :=
  h.trans (State.counts.of_eq h')

theorem State.counts.foldl {α : Type} {f : State → α → State}
    (h : ∀ (s : State) (a : α), s.counts (f s a) k n) (l : List α)
    (s : State) : s.counts (l.foldl f s) k (l.length * n) := by
  induction l generalizing s with
  | nil => exact (Nat.zero_mul n).symm ▸ State.counts.of_eq rfl
  | cons a l ih =>
    have := (h s a).trans (ih (f s a))
    rwa [List.length_cons, Nat.add_mul, Nat.one_mul, Nat.add_comm]

end

/-! ### What a close of the batch does, part by part -/

/-- Of the link a flush changes the route queue alone. -/
theorem State.flushRoute_sl (s : State) : s.flushRoute.sl = { s.sl with routeQ := s.flushRoute.sl.routeQ } := by
  unfold State.flushRoute
  split
  · rfl
  · rw [State.closeBatch_eq]
    (repeat' split) <;> rfl

/-- What a flush leaves of the batches and of the route queue depends on the routing table and on them alone. -/
theorem State.flushRoute_routing {s t : State} (regs : t.regs = s.regs) (route : t.route = s.route) (br : t.br = s.br)
    (queue : t.sl.routeQ = s.sl.routeQ) :
    t.flushRoute.br = s.flushRoute.br ∧ t.flushRoute.sl.routeQ = s.flushRoute.sl.routeQ := by
  have veto : ∀ i, t.routeVeto i = s.routeVeto i := fun i => by simp [State.routeVeto, State.routeEntry, route]
  have next : ∀ i, t.nextRoute i = s.nextRoute i := fun i => by
    simp only [State.nextRoute, State.routeCount, State.fieldOf, State.reg_congr regs, veto]
  have entry : ∀ n i u, (t.closedTo true n i u).br = (s.closedTo true n i u).br ∧
      (t.closedTo true n i u).sl.routeQ = (s.closedTo true n i u).sl.routeQ := fun n i u => by
    simp only [State.closedTo, State.closed_br, State.closed_routeQ, State.routeAfter, State.routeShare,
      State.routeDest, State.routeEntry, next, br, route, queue, and_true]
    rfl
  unfold State.flushRoute
  rw [br]
  split
  · exact ⟨br, queue⟩
  · rw [State.closeBatch_eq, State.closeBatch_eq, br, veto, next]
    split
    · split
      · exact entry _ _ _
      · simp only [State.closedToFallback, State.closed_br, State.closed_routeQ, State.reg_congr regs, br, queue,
          and_self]
    · exact entry _ _ _

theorem State.closed_counts (s : State) (c u : Nat) (x : Bool) (m : List Byte) {k : Ctr}
    (h : ∀ c : Ctr, c = .batches ∨ c = .routeExhausted ∨ c = .routeLost → k.offset ≠ c.offset) :
    s.counts (s.closed c u x m) k 0 := by
  have batches := State.counts.bump_other s .batches (h _ (by simp))
  have chosen : s.counts (if x = true then (s.bump .batches).bump .routeExhausted else s.bump .batches) k 0 := by
    split
    · exact batches.trans (State.counts.bump_other _ .routeExhausted (h _ (by simp)))
    · exact batches
  have queued : s.counts (if s.sl.routeQ.length < 8 then
      (if x = true then (s.bump .batches).bump .routeExhausted else s.bump .batches)
      else (if x = true then (s.bump .batches).bump .routeExhausted else s.bump .batches).bump .routeLost) k 0 := by
    split
    · exact chosen
    · exact chosen.trans (State.counts.bump_other _ .routeLost (h _ (by simp)))
  exact queued.then_eq rfl

theorem State.flushRoute_counts (s : State) {k : Ctr} (h : ∀ c : Ctr, c = .flushEmpty ∨ c = .batches ∨
    c = .routeExhausted ∨ c = .routeLost → k.offset ≠ c.offset) : s.counts s.flushRoute k 0 := by
  have closed : ∀ c u x m, s.counts (s.closed c u x m) k 0 := fun c u x m =>
    State.closed_counts s c u x m fun c hc => h c (.inr hc)
  unfold State.flushRoute
  split
  · exact State.counts.bump_other s _ (h _ (by simp))
  · rw [State.closeBatch_eq]
    (repeat' split) <;> exact closed _ _ _ _

/-! ### The log -/

/-- A record written to the log, or lost to a full one: the log and its alert, and nothing else of the gate (R119). -/
theorem State.appendLog_gd (s : State) (r : LogRecord) : (s.appendLog r).gd = { s.gd with
    log := if s.gd.log.length < 128 then s.gd.log ++ [r] else s.gd.log, alert := (s.appendLog r).gd.alert } := by
  unfold State.appendLog
  by_cases room : s.gd.log.length < Config.log
  · have room' : s.gd.log.length < 128 := room
    rw [if_pos room, if_pos room', State.evalAlert_gd]
  · have full : ¬ s.gd.log.length < 128 := room
    rw [if_neg room, if_neg full]
    rfl

theorem State.appendLog_counts (s : State) (r : LogRecord) {k : Ctr} (h : k.offset ≠ Ctr.logLost.offset) :
    s.counts (s.appendLog r) k 0 := by
  unfold State.appendLog
  split
  · exact State.counts.of_eq (by simp)
  · exact State.counts.bump_other _ _ h

/-- The entries abandoned one after another: as many records as the log takes (R79). -/
theorem State.abandon_foldl_gd (l : List Entry) (s : State) : ∃ alert, (l.foldl State.abandon s).gd = { s.gd with
    log := s.gd.log ++ (l.map fun e => entryRecord e .none .abandoned s.lp.travel).take (128 - s.gd.log.length)
    alert := alert } := by
  induction l generalizing s with
  | nil => exact ⟨s.gd.alert, by simp⟩
  | cons e l ih =>
    obtain ⟨alert, rest⟩ := ih (s.abandon e)
    have first : (s.abandon e).gd = { s.gd with
        log := if s.gd.log.length < 128 then s.gd.log ++ [entryRecord e .none .abandoned s.lp.travel] else s.gd.log
        alert := (s.abandon e).gd.alert } := State.appendLog_gd s _
    have travel : (s.abandon e).lp.travel = s.lp.travel := by simp
    refine ⟨alert, rest.trans ?_⟩
    rw [travel, first]
    by_cases room : s.gd.log.length < 128
    · have one : 128 - s.gd.log.length = (128 - (s.gd.log.length + 1)) + 1 := by omega
      simp [room, one]
    · have full : 128 - s.gd.log.length = 0 := by omega
      simp [room, full]

theorem State.abandonAll_gd (s : State) : ∃ alert, s.abandonAll.gd = { s.gd with
    log := s.gd.log ++ (s.lg.entries.map fun e => entryRecord e .none .abandoned s.lp.travel).take
      (128 - s.gd.log.length)
    alert := alert } :=
  State.abandon_foldl_gd s.lg.entries s

/-- Abandoning empties the ledger, whose window stays (R79). -/
theorem State.abandonAll_lg (s : State) : s.abandonAll.lg = { s.lg with entries := [], high := false } := by
  have lg : (s.lg.entries.foldl State.abandon s).lg = s.lg :=
    State.foldl_leaves (p := State.lg) (fun s e => by simp) _ _
  unfold State.abandonAll
  dsimp only
  simp [lg]

/-- With no entry left Awaiting the silence watchdog stops (R109). -/
theorem State.abandonAll_vc (s : State) : s.abandonAll.vc = { s.vc with silence := none } := by
  have vc : (s.lg.entries.foldl State.abandon s).vc = s.vc :=
    State.foldl_leaves (p := State.vc) (fun s e => by simp) _ _
  unfold State.abandonAll
  dsimp only
  rw [State.refreshSilence_eq]
  simp [State.awaiting, vc]

theorem State.abandonAll_counts (s : State) : s.counts s.abandonAll .abandonCount s.lg.entries.length := by
  have one : ∀ (s : State) (e : Entry), s.counts (s.abandon e) .abandonCount 1 := fun s e =>
    (State.appendLog_counts s _ (by decide)).trans (State.counts.bumpBy _ .abandonCount 1)
  have all := State.counts.foldl one s.lg.entries s
  rw [Nat.mul_one] at all
  refine all.then_eq ?_
  unfold State.abandonAll
  simp

theorem State.abandonAll_counts_other (s : State) {k : Ctr} (lost : k.offset ≠ Ctr.logLost.offset)
    (abandoned : k.offset ≠ Ctr.abandonCount.offset) : s.counts s.abandonAll k 0 := by
  have one : ∀ (s : State) (e : Entry), s.counts (s.abandon e) k 0 := fun s e =>
    (State.appendLog_counts s _ lost).trans (State.counts.bump_other _ .abandonCount abandoned)
  have all := State.counts.foldl one s.lg.entries s
  rw [Nat.mul_zero] at all
  refine all.then_eq ?_
  unfold State.abandonAll
  simp

/-! ### The other stages of an Abort -/

/-- An Abort drops the ring, the pending edge and the run, counts them, and then cancels the references. -/
theorem State.abortSources_eq (s : State) : ∃ y : State, s.abortSources = allRefs.foldl State.refOnAbort y ∧
    y.cs = { s.cs with ring := [], sensePending := false, bracket := none } ∧
    y.counters = (if s.cs.sensePending then (s.bumpBy .sensorAbandoned s.cs.ring.length).bump .sensorIgnored
      else s.bumpBy .sensorAbandoned s.cs.ring.length).counters := by
  refine ⟨_, rfl, ?_, rfl⟩
  dsimp only
  split <;> simp

/-- The sources after an Abort: the ring, the pending edge and the run are gone, and every reference is Idle. -/
theorem State.abortSources_cs (s : State) : s.abortSources.cs = { s.cs with
    ring := [], sensePending := false, bracket := none, refA := s.abortSources.cs.refA, refB := s.abortSources.cs.refB
    refC := s.abortSources.cs.refC } ∧ ∀ g, (s.abortSources.ref g).state = .idle := by
  have one : ∀ (t : State) (g : RefGen), (t.refOnAbort g).cs = { t.cs with
      refA := (t.refOnAbort g).cs.refA, refB := (t.refOnAbort g).cs.refB, refC := (t.refOnAbort g).cs.refC } ∧
      ((t.refOnAbort g).ref g).state = .idle ∧ ∀ h, h ≠ g → (t.refOnAbort g).ref h = t.ref h := by
    intro t g
    unfold State.refOnAbort
    split
    · next idle => exact ⟨rfl, idle, fun _ _ => rfl⟩
    · refine ⟨by cases g <;> rfl, by cases g <;> rfl, fun h other => ?_⟩
      cases g <;> cases h <;> first | rfl | exact absurd rfl other
    · refine ⟨by cases g <;> rfl, by cases g <;> rfl, fun h other => ?_⟩
      cases g <;> cases h <;> first | rfl | exact absurd rfl other
  obtain ⟨y, does, own, -⟩ := s.abortSources_eq
  have does : s.abortSources = ((y.refOnAbort .a).refOnAbort .b).refOnAbort .c := does
  rw [does]
  obtain ⟨csA, idleA, -⟩ := one y .a
  obtain ⟨csB, idleB, otherB⟩ := one (y.refOnAbort .a) .b
  obtain ⟨csC, idleC, otherC⟩ := one ((y.refOnAbort .a).refOnAbort .b) .c
  refine ⟨?_, fun g => ?_⟩
  · rw [csC, csB, csA, own]
  · cases g with
    | a => rwa [otherC _ (by decide), otherB _ (by decide)]
    | b => rwa [otherC _ (by decide)]
    | c => exact idleC

theorem State.abortSources_counts (s : State) {k : Ctr} (h : ∀ c : Ctr, c = .sensorAbandoned ∨ c = .sensorIgnored ∨
    c = .refCancelled → k.offset ≠ c.offset) : s.counts s.abortSources k 0 := by
  have ring := State.counts.bumpBy_other s .sensorAbandoned s.cs.ring.length (h _ (by simp))
  have pending : s.counts (if s.cs.sensePending then
      (s.bumpBy .sensorAbandoned s.cs.ring.length).bump .sensorIgnored
      else s.bumpBy .sensorAbandoned s.cs.ring.length) k 0 := by
    split
    · exact ring.trans (State.counts.bump_other _ _ (h _ (by simp)))
    · exact ring
  have refs : ∀ (t : State) (g : RefGen), t.counts (t.refOnAbort g) k 0 := by
    intro t g
    have cancel : t.counts (t.refCancel g) k 0 := by
      have same : t.counts (t.setRef g Reference.idle) k 0 := State.counts.of_eq (by cases g <;> rfl)
      exact same.trans (State.counts.bump_other _ _ (h _ (by simp)))
    unfold State.refOnAbort
    split
    · exact State.counts.of_eq rfl
    · exact cancel
    · exact cancel
  obtain ⟨y, does, -, own⟩ := s.abortSources_eq
  rw [does]
  exact (pending.then_eq own).trans (State.counts.foldl refs allRefs y)

/-- A slot after an Abort has withdrawn it (R144, R150). -/
def Slot.withdrawn (x : Slot) : Slot :=
  if x.state = .idle then x
  else if x.state = .sending then { x with rerequest := false, openingPassed := false, anchorPassed := false }
  else { x with state := .idle, again := false, waits := false }

theorem State.forceWithdraw_eq (s : State) (i : SlotId) : s.forceWithdraw i = s.setSlot i (s.slot i).withdrawn := by
  have same : s.setSlot i (s.slot i) = s := by cases i <;> rfl
  unfold State.forceWithdraw Slot.withdrawn
  split <;> next state => simp [state, same, State.idleSlot, State.dropRerequest]

@[simp] theorem Slot.withdrawn_withdrawn (x : Slot) : x.withdrawn.withdrawn = x.withdrawn := by
  unfold Slot.withdrawn
  by_cases idle : x.state = .idle
  · simp [idle]
  · by_cases sending : x.state = .sending
    · simp [sending]
    · simp [idle, sending]

/-- Slots withdrawn one after another: of the state nothing but the slots changes. -/
theorem State.withdraw_foldl (l : List SlotId) (s : State) : l.foldl State.forceWithdraw s =
    { s with sl := { s.sl with slots := (l.foldl State.forceWithdraw s).sl.slots } } ∧
    ∀ i, (l.foldl State.forceWithdraw s).slot i = if i ∈ l then (s.slot i).withdrawn else s.slot i := by
  induction l generalizing s with
  | nil => exact ⟨rfl, fun i => by simp⟩
  | cons j l ih =>
    have slot : ∀ i, (s.forceWithdraw j).slot i = if i = j then (s.slot i).withdrawn else s.slot i := by
      intro i
      rw [State.forceWithdraw_eq]
      rcases eq_or_ne i j with rfl | other
      · rw [if_pos rfl, State.slot_setSlot_self]
      · rw [if_neg other, State.slot_setSlot_other _ _ _ _ other]
    obtain ⟨same, slots⟩ := ih (s.forceWithdraw j)
    refine ⟨?_, fun i => ?_⟩
    · rw [List.foldl_cons, same, State.forceWithdraw_eq]
      rfl
    · rw [List.foldl_cons, slots i, slot i]
      by_cases here : i = j <;> simp [here]

/-- The link with its tags, its notices and the user's request dropped (R170). -/
def State.unqueued (s : State) : State :=
  ({ s with sl := { s.sl with tagQ := [], noticeQ := [], userRequest := false } } : State).bumpBy .linkDiscards
    (s.sl.tagQ.length + s.sl.noticeQ.length)

/-- The slots that an Abort withdraws: every one but the Cycle Mark (R150). -/
def abortedSlots : List SlotId := [.fullReset, .stationReset, .refA, .refB, .refC, .user]

theorem State.abortLink_eq (s : State) : s.abortLink = abortedSlots.foldl State.forceWithdraw s.unqueued := rfl

theorem State.abortLink_sl (s : State) : s.abortLink.sl = { s.sl with
    tagQ := [], noticeQ := [], userRequest := false, slots := s.abortLink.sl.slots } :=
  congrArg State.sl (State.withdraw_foldl abortedSlots s.unqueued).1

theorem State.abortLink_slot (s : State) (i : SlotId) :
    s.abortLink.slot i = if i = .cycleMark then s.slot i else (s.slot i).withdrawn := by
  refine ((State.withdraw_foldl abortedSlots s.unqueued).2 i).trans ?_
  cases i <;> rfl

theorem State.abortLink_counts (s : State) :
    s.counts s.abortLink .linkDiscards (s.sl.tagQ.length + s.sl.noticeQ.length) ∧
      s.counts s.abortLink .abandonCount 0 := by
  have same : s.abortLink.counters = s.unqueued.counters :=
    State.foldl_leaves (p := State.counters) (f := State.forceWithdraw) (fun s i => by simp) abortedSlots s.unqueued
  exact ⟨(State.counts.bumpBy { s with sl := { s.sl with tagQ := [], noticeQ := [], userRequest := false } }
    .linkDiscards _).then_eq same, (State.counts.bumpBy_other { s with sl := { s.sl with
      tagQ := [], noticeQ := [], userRequest := false } } .linkDiscards _ (by decide)).then_eq same⟩

theorem State.abortSeq_eq (s : State) (i : SeqId) : (s.abortSeq i).seq i =
    (if (s.seq i).state = .idle then s.seq i else { state := .idle, count := 0 }) ∧
    (∀ j, j ≠ i → (s.abortSeq i).seq j = s.seq j) := by
  unfold State.abortSeq
  split
  · exact ⟨rfl, fun _ _ => rfl⟩
  · refine ⟨by cases i <;> rfl, fun j other => ?_⟩
    cases i <;> cases j <;> first | rfl | exact absurd rfl other

theorem State.abortSeq_counts (s : State) (i : SeqId) {k : Ctr} (h : k.offset ≠ Ctr.resyncAborted.offset) :
    s.counts (s.abortSeq i) k 0 := by
  have idled : s.counts (s.enterSeq i .idle) k 0 := State.counts.of_eq (by cases i <;> rfl)
  unfold State.abortSeq
  split
  · exact State.counts.of_eq rfl
  · exact idled.trans (State.counts.bump_other _ _ h)

/-! ### Abort -/

/-- From `s` to `t` run control changes in its flags alone, and not in the one of the given number. -/
def State.flagsBut (s t : State) (k : Nat) : Prop :=
  t.rc = { s.rc with flags := t.rc.flags } ∧ bit t.rc.flags k = bit s.rc.flags k

section
variable {s t u : State} {k : Nat}

theorem State.flagsBut.of_eq (h : t.rc = s.rc) : s.flagsBut t k := ⟨by rw [h], by rw [h]⟩

theorem State.flagsBut.trans (h : s.flagsBut t k) (h' : t.flagsBut u k) : s.flagsBut u k := by
  obtain ⟨rc, flag⟩ := h
  obtain ⟨rc', flag'⟩ := h'
  exact ⟨by rw [rc', rc], by rw [flag', flag]⟩

theorem State.flagsBut.foldl {α : Type} {f : State → α → State} (h : ∀ (s : State) (a : α), s.flagsBut (f s a) k)
    (l : List α) (s : State) : s.flagsBut (l.foldl f s) k := by
  induction l generalizing s with
  | nil => exact State.flagsBut.of_eq rfl
  | cons a l ih => exact (h s a).trans (ih (f s a))

end

theorem State.raise_flagsBut (s : State) {e : Event} {k : Nat} (hk : k < 32) (h : e.num ≠ k) :
    s.flagsBut (s.raise e) k := by
  refine ⟨rfl, ?_⟩
  have mask : bit (1#32 <<< e.num) k = false := by
    have low : e.num < 32 := by cases e <;> decide
    simpa [flagAt, h] using bit_flagAt true low k
  simp [State.raise, bit_or, mask]

theorem State.appendLog_flagsBut (s : State) (r : LogRecord) : s.flagsBut (s.appendLog r) 16 := by
  unfold State.appendLog State.evalAlert
  (repeat' split) <;> first | exact State.flagsBut.of_eq rfl | exact State.raise_flagsBut _ (by decide) (by decide)

theorem State.abandonAll_flagsBut (s : State) : s.flagsBut s.abandonAll 16 := by
  have one : ∀ (s : State) (e : Entry), s.flagsBut (s.abandon e) 16 := fun s e =>
    (State.appendLog_flagsBut s _).trans (State.flagsBut.of_eq rfl)
  refine (State.flagsBut.foldl one s.lg.entries s).trans (State.flagsBut.of_eq ?_)
  unfold State.abandonAll
  simp

theorem State.flushRoute_flagsBut (s : State) : s.flagsBut s.flushRoute 16 := by
  have closed : ∀ c u x m, s.flagsBut (s.closed c u x m) 16 := by
    intro c u x m
    refine ⟨rfl, ?_⟩
    have exhausted : bit (if x = true then 0x4000#32 else 0#32) 16 = false := by cases x <;> decide
    have lost : bit (if s.sl.routeQ.length < 8 then 0#32 else 0x2000#32) 16 = false := by split <;> decide
    simp only [State.closed, bit_or, exhausted, lost, Bool.or_false]
  unfold State.flushRoute
  split
  · exact State.flagsBut.of_eq rfl
  · rw [State.closeBatch_eq]
    (repeat' split) <;> exact closed _ _ _ _

/-- The ABORT row at a port that listens. -/
theorem exec_abort {s : State} {o : Word} (h : s.listens) (ho : o &&& 11#32 = 0#32) : exec (.abort o) s = .next
    { (s.wordBegun Reg.rcCommand.address).abort with port := (s.wordDone Reg.rcCommand.address).port } :=
  exec_of_command h rfl (State.command_abort _ ho)

/-- An accepted Abort (R170). -/
theorem State.abort_of_running {s : State} (h : s.rc.state ≠ .halted) :
    s.abort = (s.nameCommand 2).acceptCommand.abortRun := by
  have state : (s.nameCommand 2).rc.state ≠ .halted := h
  simp only [State.abort]
  split <;> first | contradiction | rfl

/-- The state of an Abort in which the batch is closed (R170). -/
def State.abortLogged (s : State) : State := ((s.setRun .halted).abortSources).abandonAll

theorem State.abortRun_eq (s : State) :
    s.abortRun = ((s.abortLogged.flushRoute.abortLink).abortSeq .station).abortSeq .full := rfl

section
variable (s : State)

theorem State.abortRun_rc : s.abortRun.rc = { s.rc with state := .halted, flags := s.abortRun.rc.flags } ∧
    bit s.abortRun.rc.flags 16 = bit s.rc.flags 16 := by
  have sources : (s.setRun .halted).flagsBut (s.setRun .halted).abortSources 16 := State.flagsBut.of_eq (by simp)
  have ended : s.abortLogged.flushRoute.flagsBut s.abortRun 16 :=
    State.flagsBut.of_eq (by simp [State.abortRun_eq])
  obtain ⟨rc, flag⟩ := ((sources.trans (State.abandonAll_flagsBut _)).trans (State.flushRoute_flagsBut _)).trans ended
  exact ⟨rc, flag⟩

theorem State.abortRun_cs : s.abortRun.cs = (s.setRun .halted).abortSources.cs := by
  simp [State.abortRun_eq, State.abortLogged]

theorem State.abortRun_lg : s.abortRun.lg = { s.lg with entries := [], high := false } := by
  simp [State.abortRun_eq, State.abortLogged, State.abandonAll_lg]

theorem State.abortRun_vc : s.abortRun.vc = { s.vc with silence := none } := by
  simp [State.abortRun_eq, State.abortLogged, State.abandonAll_vc]

theorem State.abortRun_gd : ∃ alert, s.abortRun.gd = { s.gd with
    log := s.gd.log ++ (s.lg.entries.map fun e => entryRecord e .none .abandoned s.lp.travel).take
      (128 - s.gd.log.length)
    alert := alert } := by
  obtain ⟨alert, gd⟩ := (s.setRun .halted).abortSources.abandonAll_gd
  refine ⟨alert, ?_⟩
  have last : s.abortRun.gd = (s.setRun .halted).abortSources.abandonAll.gd := by
    simp [State.abortRun_eq, State.abortLogged]
  rw [last, gd]
  simp

theorem State.abortRun_routing : s.abortRun.br = s.flushRoute.br ∧
    s.abortRun.sl.routeQ = s.flushRoute.sl.routeQ := by
  have before : s.abortLogged.regs = s.regs ∧ s.abortLogged.route = s.route ∧ s.abortLogged.br = s.br ∧
      s.abortLogged.sl = s.sl := by simp [State.abortLogged, State.setRun]
  obtain ⟨regs, route, br, sl⟩ := before
  obtain ⟨flushed, queue⟩ := State.flushRoute_routing (s := s) regs route br (congrArg Link.routeQ sl)
  refine ⟨?_, ?_⟩
  · simp [State.abortRun_eq, flushed]
  · have last : s.abortRun.sl = s.abortLogged.flushRoute.abortLink.sl := by simp [State.abortRun_eq]
    rw [last, State.abortLink_sl]
    exact queue

theorem State.abortRun_sl : s.abortRun.sl = { s.sl with
    tagQ := [], noticeQ := [], userRequest := false, routeQ := s.abortRun.sl.routeQ
    slots := s.abortRun.sl.slots } := by
  have last : s.abortRun.sl = s.abortLogged.flushRoute.abortLink.sl := by simp [State.abortRun_eq]
  have before : s.abortLogged.sl = s.sl := by simp [State.abortLogged, State.setRun]
  rw [last, State.abortLink_sl, State.flushRoute_sl, before]

theorem State.abortRun_slot (i : SlotId) :
    s.abortRun.slot i = if i = .cycleMark then s.slot i else (s.slot i).withdrawn := by
  have last : s.abortRun.sl = s.abortLogged.flushRoute.abortLink.sl := by simp [State.abortRun_eq]
  have before : s.abortLogged.sl = s.sl := by simp [State.abortLogged, State.setRun]
  have slots : ∀ {x y : State}, x.sl.slots = y.sl.slots → x.slot i = y.slot i := by
    intro x y h
    cases i <;> simp [State.slot, h]
  have kept : s.abortLogged.flushRoute.slot i = s.slot i := slots (by rw [State.flushRoute_sl, before])
  rw [slots (congrArg Link.slots last), State.abortLink_slot, kept]

theorem State.abortRun_sq : s.abortRun.sq = { s.sq with
    sr := if s.sq.sr.state = .idle then s.sq.sr else { state := .idle, count := 0 }
    fr := if s.sq.fr.state = .idle then s.sq.fr else { state := .idle, count := 0 } } := by
  have before : s.abortLogged.flushRoute.abortLink.sq = s.sq := by simp [State.abortLogged, State.setRun]
  rw [State.abortRun_eq]
  generalize s.abortLogged.flushRoute.abortLink = x at before
  unfold State.abortSeq
  by_cases sr : s.sq.sr.state = .idle <;> by_cases fr : s.sq.fr.state = .idle <;>
    simp [State.seq, State.enterSeq, State.setSeq, before, sr, fr]

theorem State.abortRun_counts : s.counts s.abortRun .abandonCount s.lg.entries.length ∧
    s.counts s.abortRun .linkDiscards (s.sl.tagQ.length + s.sl.noticeQ.length) := by
  have sources : (s.setRun .halted).abortSources.lg = s.lg := by simp [State.setRun]
  have queues : s.abortLogged.flushRoute.sl.tagQ.length + s.abortLogged.flushRoute.sl.noticeQ.length =
      s.sl.tagQ.length + s.sl.noticeQ.length := by
    rw [State.flushRoute_sl]
    simp [State.abortLogged, State.setRun]
  have stage : ∀ {k : Ctr} {m n : Nat}, (∀ c : Ctr, c = .sensorAbandoned ∨ c = .sensorIgnored ∨ c = .refCancelled ∨
      c = .flushEmpty ∨ c = .batches ∨ c = .routeExhausted ∨ c = .routeLost ∨ c = .resyncAborted →
        k.offset ≠ c.offset) →
      (s.setRun .halted).abortSources.counts s.abortLogged k m →
      s.abortLogged.flushRoute.counts s.abortLogged.flushRoute.abortLink k n → s.counts s.abortRun k (m + n) := by
    intro k m n other abandon link
    have first : s.counts (s.setRun .halted) k 0 := State.counts.of_eq rfl
    have second := State.abortSources_counts (s.setRun .halted) (k := k) fun c hc => other c (by tauto)
    have third := State.flushRoute_counts s.abortLogged (k := k) fun c hc => other c (by tauto)
    have fourth := (State.abortSeq_counts s.abortLogged.flushRoute.abortLink .station (other _ (by simp))).trans
      (State.abortSeq_counts _ .full (other _ (by simp)))
    have all := ((((first.trans second).trans abandon).trans third).trans link).trans fourth
    simpa only [State.abortRun_eq, Nat.zero_add, Nat.add_zero] using all
  obtain ⟨discards, kept⟩ := State.abortLink_counts s.abortLogged.flushRoute
  rw [queues] at discards
  have abandoned := State.abandonAll_counts (s.setRun .halted).abortSources
  rw [sources] at abandoned
  refine ⟨?_, ?_⟩
  · have := stage (by rintro c (rfl | rfl | rfl | rfl | rfl | rfl | rfl | rfl) <;> decide) abandoned kept
    exact this
  · have := stage (by rintro c (rfl | rfl | rfl | rfl | rfl | rfl | rfl | rfl) <;> decide)
      (State.abandonAll_counts_other (s.setRun .halted).abortSources (by decide) (by decide)) discards
    rwa [Nat.zero_add] at this

/-- Every part that an Abort leaves alone. -/
theorem State.abortRun_eq_with : s.abortRun = { s with
    cs := s.abortRun.cs, lg := s.abortRun.lg, vc := s.abortRun.vc, gd := s.abortRun.gd, sl := s.abortRun.sl
    br := s.abortRun.br, sq := s.abortRun.sq, rc := s.abortRun.rc, counters := s.abortRun.counters } := by
  have frame := s.abortRun_frame
  generalize s.abortRun = t at *
  cases t
  simp_all

end

/-- A withdrawn slot is Idle, unless its frame is under way. -/
theorem Slot.withdrawn_state (x : Slot) :
    x.withdrawn.state = if x.state = .sending then .sending else .idle := by
  unfold Slot.withdrawn
  by_cases idle : x.state = .idle
  · simp [idle]
  · by_cases sending : x.state = .sending <;> simp [idle, sending]

/-- Settles O20: each part of the state after an Abort, by the stage that makes it. -/
theorem abortClearsTheLine : Obligations.AbortClearsTheLine := by
  rintro s d z o canonical h running only rfl rfl
  have counters := State.counters_canonical canonical
  obtain ⟨b, hb⟩ : ∃ b : State, b = ((s.wordBegun Reg.rcCommand.address).nameCommand 2).acceptCommand := ⟨_, rfl⟩
  have abort : (s.wordBegun Reg.rcCommand.address).abort = b.abortRun :=
    (State.abort_of_running (by exact running)).trans (by rw [hb])
  obtain ⟨rc, flag⟩ := b.abortRun_rc
  obtain ⟨cs, refs⟩ := (b.setRun .halted).abortSources_cs
  rw [← b.abortRun_cs] at cs
  have idle : ∀ g, (b.abortRun.ref g).state = .idle := fun g => by
    have same : b.abortRun.ref g = (b.setRun .halted).abortSources.ref g := by
      cases g <;> simp only [State.ref, b.abortRun_cs]
    rw [same, refs g]
  obtain ⟨alert, gd⟩ := b.abortRun_gd
  obtain ⟨br, routeQ⟩ := b.abortRun_routing
  obtain ⟨flushed, queued⟩ := State.flushRoute_routing (s := s.wordDone Reg.rcCommand.address) (t := b)
    (by rw [hb]; rfl) (by rw [hb]; rfl) (by rw [hb]; rfl) (by rw [hb]; rfl)
  obtain ⟨abandoned, discards⟩ := b.abortRun_counts
  have lg := b.abortRun_lg
  have vc := b.abortRun_vc
  have sl := b.abortRun_sl
  have slot := b.abortRun_slot
  have sq := b.abortRun_sq
  have parts := b.abortRun_eq_with
  refine ⟨_, exec_abort h only, ?_⟩
  rw [abort]
  generalize b.abortRun = t at *
  subst hb
  refine ⟨?_, rc, flag, ?_, idle, lg, vc, ?_, sl, routeQ.trans queued, br.trans flushed, slot .cycleMark,
    fun i other => ?_, sq, (abandoned counters).2, (discards counters).2⟩
  · rw [parts]
    rfl
  · exact cs
  · rw [gd]
    rfl
  · refine (congrArg Slot.state ((slot i).trans (if_neg other))).trans ?_
    exact Slot.withdrawn_state _

end Sys2Proof.Machine
end

section
/-! SUPPORT. One flag of a register replaced (log 8): what is stored and what the setting's change does (chapters 2,
3, 6
and 8). -/

namespace Sys2Proof.Machine

/-- Some bits of a stored register replaced. -/
def State.withBits (s : State) (r : Reg) (m v : Word) : State := s.setReg r ((s.reg r &&& ~~~m) ||| v)

@[simp] theorem State.withBits_frame (s : State) (r : Reg) (m v : Word) :
    (s.withBits r m v).lp = s.lp ∧ (s.withBits r m v).sampled = s.sampled ∧ (s.withBits r m v).vc = s.vc ∧
      (s.withBits r m v).sl = s.sl ∧ (s.withBits r m v).cs = s.cs ∧ (s.withBits r m v).counters = s.counters :=
  ⟨rfl, rfl, rfl, rfl, rfl, rfl⟩

section
variable {s : State} {r : Reg} {m v : Word}

theorem State.withBits_flag (h : s.tablesCanonical = true) {j : Nat} (hj : j < 32) :
    (s.withBits r m v).flagOf r j = ((s.flagOf r j && !bit m j) || bit v j) := by
  rw [State.flagOf, State.withBits, State.reg_setReg_self s r _ (State.regs_canonical h)]
  simp [bit_or, bit_and, bit_not, hj, State.flagOf]

/-- A flag replaced. -/
theorem State.withBits_flagAt (h : s.tablesCanonical = true) {i : Nat} (hi : i < 32) (b : Bool)
    (hm : bit m i = true) : (s.withBits r m (flagAt b i)).flagOf r i = b := by
  rw [State.withBits_flag h hi, hm, bit_flagAt b hi]
  simp

/-- A flag beside the one replaced. -/
theorem State.withBits_flagAt_other (h : s.tablesCanonical = true) {i j : Nat} (hi : i < 32) (hj : j < 32) (b : Bool)
    (hm : bit m j = false) (other : i ≠ j) : (s.withBits r m (flagAt b i)).flagOf r j = s.flagOf r j := by
  rw [State.withBits_flag h hj, hm, bit_flagAt b hi]
  simp [other]

theorem State.withBits_reg {q : Reg} (h : q ≠ r) : (s.withBits r m v).reg q = s.reg q :=
  State.reg_setReg_other s r q _ h

/-- The low 16 bits replaced. -/
theorem State.withBits_half (h : s.tablesCanonical = true) {ms : BitVec 16} :
    (s.withBits r 0xFFFF#32 (ms.zeroExtend 32)).fieldOf r 0 16 = ms.toNat := by
  rw [State.fieldOf, State.withBits, State.reg_setReg_self s r _ (State.regs_canonical h)]
  have low : field ((s.reg r &&& ~~~0xFFFF#32) ||| ms.zeroExtend 32) 0 16 = ms.toNat := by
    refine Nat.eq_of_testBit_eq fun j => ?_
    rw [testBit_field]
    by_cases hj : j < 16
    · have mask : bit 0xFFFF#32 (0 + j) = true := by interval_cases j <;> decide
      have h32 : 0 + j < 32 := by omega
      have value : bit (ms.zeroExtend 32) (0 + j) = ms.toNat.testBit j := by
        simp [bit, BitVec.testBit_toNat, show j < 32 by omega]
      rw [bit_or, bit_and, bit_not _ _ h32, mask, value]
      simp [hj]
    · have large : ms.toNat.testBit j = false :=
        Nat.testBit_lt_two_pow (lt_of_lt_of_le ms.isLt (Nat.pow_le_pow_right (by decide) (by omega)))
      simp [hj, large]
  exact low

/-- The word that replaces some stored bits of a register stores those bits alone. -/
theorem State.storeWord_wordWith {x : State} {m v : Word} (stored : m &&& r.stored = m) (within : v &&& m = v)
    (reads : s.readRegister r = s.reg r) (same : x.reg r = s.reg r) :
    x.storeWord r (s.wordWith r m v) = x.withBits r m v := by
  have word : merge r.stored (s.wordWith r m v) (x.reg r) = (s.reg r &&& ~~~m) ||| v := by
    refine BitVec.eq_of_getLsbD_eq fun j hj => ?_
    change bit _ j = bit _ j
    have mask := congrArg (bit · j) stored
    have value := congrArg (bit · j) within
    simp only [bit_and] at mask value
    rw [bit_merge _ _ _ hj, State.wordWith, bit_merge _ _ _ hj, reads, same]
    simp only [bit_or, bit_and, bit_not _ _ hj]
    cases hm : bit m j <;> cases hs : bit r.stored j <;> simp_all
  rw [State.storeWord, word, State.withBits, same]

/-- A permitted command that replaces some bits of a stored register: the bits, and the effect of the change. -/
theorem exec_of_storedBits {c : Instr} (r : Reg) (m v : Word) (f : State → State) (h : s.listens)
    (ordinary : tableOf r = none ∧ r ≠ .rcAction ∧ m &&& r.stored = m ∧ r.stored ≠ 0#32) (within : v &&& m = v)
    (written : writtenWord s c = some (r.address, s.wordWith r m v)) (reads : s.readRegister r = s.reg r)
    (permitted : s.fieldFault r (s.wordWith r m v) = none)
    (effect : ∀ v, (s.wordBegun r.address).applyWord r v s.rc.resetArmed = f ((s.wordBegun r.address).storeWord r v))
    (port : (f ((s.wordBegun r.address).withBits r m v)).port = (s.wordBegun r.address).port) :
    exec c s = .next { f ((s.wordBegun r.address).withBits r m v) with
      port := (s.wordDone r.address).port } := by
  obtain ⟨noTable, other, stored, some⟩ := ordinary
  have writable : readOnly r.address = false := by
    have some : r.stored ||| r.info.request ||| r.info.action ≠ 0#32 := by
      intro none
      refine some (BitVec.eq_of_getLsbD_eq fun j _ => ?_)
      have := congrArg (bit · j) none
      simp only [bit_or, show bit 0#32 j = false by simp [bit], Bool.or_eq_false_iff] at this
      simpa [bit] using this.1.1
    simp [readOnly, regAt_address, some]
  refine (exec_of_writtenWord written).trans (congrArg Host.Outcome.next ?_)
  refine State.hostWrite_of_permitted h noTable writable permitted (State.burstAddr_of_ne s _ other) ?_ port
  rw [effect, State.storeWord_wordWith (x := s.wordBegun r.address) stored within reads rfl]

end

/-- CS_RANDOM_ENABLE set seeds the two generators (R50). -/
theorem State.changeRandom_withBits {s : State} (b : Bool) (tables : s.tablesCanonical = true) :
    (s.withBits .csRandomEnable 1#32 (flagAt b 0)).changeRandom (s.reg .csRandomEnable) =
      { s.withBits .csRandomEnable 1#32 (flagAt b 0) with cs := if b = true ∧ s.randomEnabled = false then
          { s.cs with
            sample := if s.reg .csSampleSeed = 0#32 then 1#32 else s.reg .csSampleSeed
            audit := if s.reg .csAuditSeed = 0#32 then 1#32 else s.reg .csAuditSeed }
          else s.cs } := by
  have now : (s.withBits .csRandomEnable 1#32 (flagAt b 0)).randomEnabled = b :=
    State.withBits_flagAt tables (by decide) b (by decide)
  have before : bit (s.reg .csRandomEnable) 0 = s.randomEnabled := rfl
  simp only
    [State.changeRandom, now, before, seedOf, State.withBits_reg (show Reg.csSampleSeed ≠ .csRandomEnable by decide),
    State.withBits_reg (show Reg.csAuditSeed ≠ .csRandomEnable by decide)]
  cases b <;> cases s.randomEnabled <;> rfl

/-- LP_GEN_ENABLE starts and stops the generator of the Internal source (R18). -/
theorem State.changeGenerator_withBits {s : State} (b : Bool) (tables : s.tablesCanonical = true) :
    (s.withBits .lpGenEnable 1#32 (flagAt b 0)).changeGenerator (s.reg .lpGenEnable) =
      { s.withBits .lpGenEnable 1#32 (flagAt b 0) with lp := { s.lp with genTimer :=
          if b = false then none
          else if s.genEnabled = false ∧ s.sourceInternal = true then some 0 else s.lp.genTimer } } := by
  have now : (s.withBits .lpGenEnable 1#32 (flagAt b 0)).genEnabled = b :=
    State.withBits_flagAt tables (by decide) b (by decide)
  have before : bit (s.reg .lpGenEnable) 0 = s.genEnabled := rfl
  have source : (s.withBits .lpGenEnable 1#32 (flagAt b 0)).sourceInternal = s.sourceInternal :=
    congrArg (bit · 0) (State.withBits_reg (by decide))
  simp only [State.changeGenerator, now, before, source]
  cases b <;> cases s.genEnabled <;> cases s.sourceInternal <;> rfl

/-- SOURCE replaced at LP_CFG (R19). -/
theorem State.changeLine_source {s : State} (b : Bool) (tables : s.tablesCanonical = true) :
    (s.withBits .lpCfg 1#32 (flagAt b 0)).changeLine (s.reg .lpCfg) = { s.withBits .lpCfg 1#32 (flagAt b 0) with
        lp := if b = s.sourceInternal then s.lp
          else { s.lp with
            indexPending := false, genTimer := if b = true ∧ s.genEnabled = true then some 0 else none }
        sampled := if b = true ∨ s.sourceInternal = false then s.sampled
          else { s.sampled with encStep := none, encIndex := none } } := by
  have source : bit (s.reg .lpCfg) 0 = s.sourceInternal := rfl
  have index : bit (s.reg .lpCfg) 1 = s.indexUse := rfl
  have generator : (s.withBits .lpCfg 1#32 (flagAt b 0)).genEnabled = s.genEnabled :=
    congrArg (bit · 0) (State.withBits_reg (by decide))
  have now : ∀ lp sampled,
    ({ s.withBits .lpCfg 1#32 (flagAt b 0) with lp := lp, sampled := sampled } : State).sourceInternal = b :=
    fun _ _ => State.withBits_flagAt tables (by decide) b (by decide)
  have now' : (s.withBits .lpCfg 1#32 (flagAt b 0)).sourceInternal = b := now s.lp s.sampled
  have use :
    ∀ lp sampled, ({ s.withBits .lpCfg 1#32 (flagAt b 0) with lp := lp, sampled := sampled } : State).indexUse =
      s.indexUse := fun _ _ => State.withBits_flagAt_other tables (by decide) (by decide) b (by decide) (by decide)
  have use' : (s.withBits .lpCfg 1#32 (flagAt b 0)).indexUse = s.indexUse := use s.lp s.sampled
  simp only [State.changeLine, source, index, generator, apply_ite State.indexUse, apply_ite State.sourceInternal, now,
    use, ite_self]
  cases b <;> cases s.sourceInternal <;> cases s.indexUse <;> rfl

/-- INDEX_USE replaced at LP_CFG (R19, R24, R26). -/
theorem State.changeLine_index {s : State} (b : Bool) (tables : s.tablesCanonical = true) :
    (s.withBits .lpCfg 2#32 (flagAt b 1)).changeLine (s.reg .lpCfg) = { s.withBits .lpCfg 2#32 (flagAt b 1) with
        lp := if b = s.indexUse then s.lp
          else if b = false then { s.lp with indexPending := false }
          else { s.lp with sinceIndex := if s.sourceInternal then s.lp.sinceIndex else 0 } } := by
  have source : bit (s.reg .lpCfg) 0 = s.sourceInternal := rfl
  have index : bit (s.reg .lpCfg) 1 = s.indexUse := rfl
  have now : (s.withBits .lpCfg 2#32 (flagAt b 1)).indexUse = b :=
    State.withBits_flagAt tables (by decide) b (by decide)
  have src : (s.withBits .lpCfg 2#32 (flagAt b 1)).sourceInternal = s.sourceInternal :=
    State.withBits_flagAt_other tables (by decide) (by decide) b (by decide) (by decide)
  have same : ¬ s.sourceInternal ≠ s.sourceInternal := fun h => h rfl
  simp only [State.changeLine, source, index, src, if_neg same, now]
  cases b <;> cases s.sourceInternal <;> cases s.indexUse <;> rfl

/-- LP_STALL_MS starts and stops the stall watch (R29). -/
theorem State.changeStall_withBits {s : State} (ms : BitVec 16) (tables : s.tablesCanonical = true) :
    (s.withBits .lpStallMs 0xFFFF#32 (ms.zeroExtend 32)).changeStall (s.reg .lpStallMs) =
      { s.withBits .lpStallMs 0xFFFF#32 (ms.zeroExtend 32) with
        lp := { s.lp with stallTimer :=
          if ms = 0#16 then none
          else if s.stallMs = 0 ∧ s.lp.lineMoving = true then some 0 else s.lp.stallTimer } } := by
  have now : (s.withBits .lpStallMs 0xFFFF#32 (ms.zeroExtend 32)).stallMs = ms.toNat := State.withBits_half tables
  have before : field (s.reg .lpStallMs) 0 16 = s.stallMs := rfl
  have zero : (ms.toNat = 0) = (ms = 0#16) := by simp [BitVec.toNat_eq]
  simp only [State.changeStall, now, before, zero, State.withBits_frame]
  split_ifs <;> rfl

theorem zeroExtend_and_half (ms : BitVec 16) : ms.zeroExtend 32 &&& 0xFFFF#32 = ms.zeroExtend 32 := by
  refine BitVec.eq_of_getLsbD_eq fun j hj => ?_
  change bit _ j = bit _ j
  rw [bit_and]
  by_cases low : j < 16
  · have : bit 0xFFFF#32 j = true := by interval_cases j <;> decide
    rw [this, Bool.and_true]
  · have : bit (ms.zeroExtend 32) j = false := by
      simp [bit, BitVec.getLsbD_setWidth, BitVec.getLsbD_of_ge ms j (by omega)]
    rw [this, Bool.false_and]

/-- Settles O32: the stored bits, then the effect of each setting's change. -/
theorem lineSettingsTakeEffect : Obligations.LineSettingsTakeEffect := by
  intro s b ms tables h
  have flag : ∀ i < 2, flagAt b i &&& (1#32 <<< i) = flagAt b i := fun i hi => by
    interval_cases i <;> cases b <;> decide
  have half : ms.zeroExtend 32 &&& 0xFFFF#32 = ms.zeroExtend 32 := zeroExtend_and_half ms
  refine ⟨?_, ?_, ?_, fun unlocked => ?_, fun unlocked => ?_⟩
  · have does := State.changeRandom_withBits (s := s.wordBegun Reg.csRandomEnable.address) b tables
    have port := congrArg State.port does
    have word := exec_of_storedBits (s := s) (c := .randomEnable b) .csRandomEnable 1#32 (flagAt b 0)
      (·.changeRandom (s.reg .csRandomEnable)) h (by decide) (flag 0 (by decide)) rfl rfl
      (State.fieldFault_free _ _ _ rfl rfl) (fun v => rfl) port
    exact word.trans (congrArg (fun x : State => Host.Outcome.next
        { x with port := (s.wordDone Reg.csRandomEnable.address).port }) does)
  · have does := State.changeGenerator_withBits (s := s.wordBegun Reg.lpGenEnable.address) b tables
    have port := congrArg State.port does
    have word := exec_of_storedBits (s := s) (c := .generatorEnable b) .lpGenEnable 1#32 (flagAt b 0)
      (·.changeGenerator (s.reg .lpGenEnable)) h (by decide) (flag 0 (by decide)) rfl rfl
      (State.fieldFault_free _ _ _ rfl rfl) (fun v => rfl) port
    exact word.trans (congrArg (fun x : State => Host.Outcome.next
        { x with port := (s.wordDone Reg.lpGenEnable.address).port }) does)
  · have does := State.changeStall_withBits (s := s.wordBegun Reg.lpStallMs.address) ms tables
    have port := congrArg State.port does
    have word := exec_of_storedBits (s := s) (c := .stallLimitWrite ms) .lpStallMs 0xFFFF#32 (ms.zeroExtend 32)
      (·.changeStall (s.reg .lpStallMs)) h (by decide) half rfl rfl
      (State.fieldFault_free _ _ _ rfl rfl) (fun v => rfl) port
    exact word.trans (congrArg (fun x : State => Host.Outcome.next
        { x with port := (s.wordDone Reg.lpStallMs.address).port }) does)
  · have does := State.changeLine_source (s := s.wordBegun Reg.lpCfg.address) b tables
    have port := congrArg State.port does
    have word := exec_of_storedBits (s := s) (c := .sourceChange b) .lpCfg 1#32 (flagAt b 0)
      (·.changeLine (s.reg .lpCfg)) h (by decide) (flag 0 (by decide)) rfl rfl
      (State.fieldFault_unlocked unlocked rfl) (fun v => rfl) port
    exact word.trans (congrArg (fun x : State => Host.Outcome.next
        { x with port := (s.wordDone Reg.lpCfg.address).port }) does)
  · have does := State.changeLine_index (s := s.wordBegun Reg.lpCfg.address) b tables
    have port := congrArg State.port does
    have word := exec_of_storedBits (s := s) (c := .indexUseChange b) .lpCfg 2#32 (flagAt b 1)
      (·.changeLine (s.reg .lpCfg)) h (by decide) (flag 1 (by decide)) rfl rfl
      (State.fieldFault_unlocked unlocked rfl) (fun v => rfl) port
    exact word.trans (congrArg (fun x : State => Host.Outcome.next
        { x with port := (s.wordDone Reg.lpCfg.address).port }) does)

/-! ### Settings of the Verdict Channel and of the link -/

/-- RAW set drops the packet in progress (R94). -/
theorem State.changeRaw_withBits {s : State} (b : Bool) (tables : s.tablesCanonical = true) :
    (s.withBits .vcCfg 1#32 (flagAt b 0)).changeRaw s.rawMode =
      { s.withBits .vcCfg 1#32 (flagAt b 0) with
        vc := if b = true ∧ s.rawMode = false ∧ s.vc.parser.phase ≠ .hunting then
          { s.vc with parser := Parser.cleared } else s.vc
        counters := if b = true ∧ s.rawMode = false ∧ s.vc.parser.phase ≠ .hunting then
          (s.bump .packetsCleared).counters else s.counters } := by
  have now : (s.withBits .vcCfg 1#32 (flagAt b 0)).rawMode = b := State.withBits_flagAt tables (by decide) b (by decide)
  rw [State.changeRaw, now, State.dropPacket_eq]
  simp only [State.withBits_frame]
  by_cases hunting : s.vc.parser.phase = .hunting <;> cases b <;> cases raw : s.rawMode <;> simp [hunting] <;> rfl

/-- RAW kept as it stands changes nothing further. -/
theorem State.changeRaw_same {s : State} (b : Bool) (tables : s.tablesCanonical = true) :
    (s.withBits .vcCfg 2#32 (flagAt b 1)).changeRaw s.rawMode = s.withBits .vcCfg 2#32 (flagAt b 1) := by
  have now : (s.withBits .vcCfg 2#32 (flagAt b 1)).rawMode = s.rawMode :=
    State.withBits_flagAt_other tables (by decide) (by decide) b (by decide) (by decide)
  rw [State.changeRaw, now, if_neg (by cases s.rawMode <;> simp)]

/-- The silence watchdog under a new limit (R109). -/
theorem State.refreshSilence_withBits {s : State} (ms : BitVec 16) (tables : s.tablesCanonical = true) :
    (s.withBits .vcSilenceMs 0xFFFF#32 (ms.zeroExtend 32)).refreshSilence =
      { s.withBits .vcSilenceMs 0xFFFF#32 (ms.zeroExtend 32) with
        vc := { s.vc with silence :=
          if ms ≠ 0#16 ∧ s.awaiting ≠ 0 ∧ s.vc.silent = false then some (s.vc.silence.getD 0) else none } } := by
  have now : (s.withBits .vcSilenceMs 0xFFFF#32 (ms.zeroExtend 32)).silenceMs = ms.toNat := State.withBits_half tables
  have zero : (ms.toNat = 0) = (ms = 0#16) := by simp [BitVec.toNat_eq]
  have waiting : (s.withBits .vcSilenceMs 0xFFFF#32 (ms.zeroExtend 32)).awaiting = s.awaiting := rfl
  rw [State.refreshSilence_eq, now, waiting]
  simp only [zero, State.withBits_frame]
  by_cases none : ms = 0#16 <;> by_cases idle : s.awaiting = 0 <;> cases silent : s.vc.silent <;> simp [none, idle]

/-- The channel after a Paused controller has been released: the resume character starts on an idle VC_TX or waits for a
busy one (R106). -/
def Channel.released (x : Channel) (resume : TxChar) : Channel :=
  { x with
    flowPaused := false
    tx := if x.tx = none then some resume else x.tx
    waiting := if x.tx = none then x.waiting else some .resume }

theorem Channel.released_eq (x : Channel) (resume : TxChar) : x.released resume =
    match x.tx with
    | none => { x with flowPaused := false, tx := some resume }
    | some _ => { x with flowPaused := false, waiting := some .resume } := by
  unfold Channel.released
  cases tx : x.tx <;> simp

/-- SW_FLOW cleared while Paused releases the controller (R106). -/
theorem State.changeFlow_software {s : State} (tables : s.tablesCanonical = true) :
    (s.withBits .vcFlowCfg 1#32 (flagAt false 0)).changeFlow (s.reg .vcFlowCfg) =
      { s.withBits .vcFlowCfg 1#32 (flagAt false 0) with
        vc := if s.swFlow = true ∧ s.vc.flowPaused = true then s.vc.released (s.flowTx .resume) else s.vc
        counters := if s.swFlow = true ∧ s.vc.flowPaused = true ∧ s.vc.tx = none then
          (s.bump .resumeSent).counters else s.counters } := by
  have software : bit (s.reg .vcFlowCfg) 0 = s.swFlow := rfl
  have hardware : bit (s.reg .vcFlowCfg) 1 = s.hwFlow := rfl
  have now : (s.withBits .vcFlowCfg 1#32 (flagAt false 0)).swFlow = false :=
    State.withBits_flagAt tables (by decide) false (by decide)
  have kept : (s.withBits .vcFlowCfg 1#32 (flagAt false 0)).hwFlow = s.hwFlow :=
    State.withBits_flagAt_other tables (by decide) (by decide) false (by decide) (by decide)
  have kept' : (s.withBits .vcFlowCfg 1#32 (flagAt false 0)).endPause.hwFlow = s.hwFlow := by
    refine Eq.trans ?_ kept
    exact congrArg (bit · 1) (State.reg_congr (by simp) _)
  have same : ¬ (s.hwFlow = true ∧ s.hwFlow = false) := by cases s.hwFlow <;> simp
  have chars : (s.withBits .vcFlowCfg 1#32 (flagAt false 0)).flowTx .resume = s.flowTx .resume := by
    simp only [State.flowTx, State.flowData, State.vcBitTime, State.fieldOf,
      State.withBits_reg (show Reg.vcResumeChar ≠ .vcFlowCfg by decide),
      State.withBits_reg (show Reg.vcDivisor ≠ .vcFlowCfg by decide)]
  have released : (s.withBits .vcFlowCfg 1#32 (flagAt false 0)).changeFlow (s.reg .vcFlowCfg) =
      if s.swFlow = true then (s.withBits .vcFlowCfg 1#32 (flagAt false 0)).endPause
      else s.withBits .vcFlowCfg 1#32 (flagAt false 0) := by
    simp only [State.changeFlow, software, hardware, now, and_true, apply_ite State.hwFlow, kept, kept', ite_self,
      if_neg same]
  rw [released]
  by_cases active : s.swFlow = true ∧ s.vc.flowPaused = true
  · obtain ⟨on, paused⟩ := active
    rw [if_pos on, State.endPause, if_pos (by exact paused), State.requestTx_eq]
    simp only [on, paused, true_and, and_self, if_true]
    rw [← chars]
    rfl
  · have idle : (if s.swFlow = true then (s.withBits .vcFlowCfg 1#32 (flagAt false 0)).endPause
        else s.withBits .vcFlowCfg 1#32 (flagAt false 0)) = s.withBits .vcFlowCfg 1#32 (flagAt false 0) := by
      split
      · next on =>
        have running : ¬ (s.withBits .vcFlowCfg 1#32 (flagAt false 0)).vc.flowPaused = true :=
          fun paused => active ⟨on, paused⟩
        rw [State.endPause, if_neg running]
      · rfl
    rw [idle, if_neg active, if_neg fun all => active ⟨all.1, all.2.1⟩]
    rfl

/-- HW_FLOW cleared lowers VC_STALL (R107). -/
theorem State.changeFlow_hardware {s : State} (tables : s.tablesCanonical = true) :
    (s.withBits .vcFlowCfg 2#32 (flagAt false 1)).changeFlow (s.reg .vcFlowCfg) =
      { s.withBits .vcFlowCfg 2#32 (flagAt false 1) with vc := { s.vc with stall := s.vc.stall && !s.hwFlow } } := by
  have software : bit (s.reg .vcFlowCfg) 0 = s.swFlow := rfl
  have hardware : bit (s.reg .vcFlowCfg) 1 = s.hwFlow := rfl
  have now : (s.withBits .vcFlowCfg 2#32 (flagAt false 1)).hwFlow = false :=
    State.withBits_flagAt tables (by decide) false (by decide)
  have kept : (s.withBits .vcFlowCfg 2#32 (flagAt false 1)).swFlow = s.swFlow :=
    State.withBits_flagAt_other tables (by decide) (by decide) false (by decide) (by decide)
  have same : ¬ (s.swFlow = true ∧ s.swFlow = false) := by cases s.swFlow <;> simp
  unfold State.changeFlow
  rw [software, hardware, kept, if_neg same]
  dsimp only
  rw [now]
  cases s.hwFlow
  · rw [if_neg (by simp)]
    simp only [Bool.not_false, Bool.and_true]
    rfl
  · rw [if_pos (by simp)]
    simp only [Bool.not_true, Bool.and_false]
    rfl

/-- SL_CFG.ENABLE starts and stops the poll timer (R132). -/
theorem State.changeLink_withBits {s : State} (b : Bool) (tables : s.tablesCanonical = true) :
    (s.withBits .slCfg 1#32 (flagAt b 0)).changeLink (s.reg .slCfg) = { s.withBits .slCfg 1#32 (flagAt b 0) with
        sl := if b = false then { s.sl with pollTimer := none, pollDue := false }
          else if s.linkEnabled = false then { s.sl with pollTimer := some s.pollUs }
          else s.sl } := by
  have before : bit (s.reg .slCfg) 0 = s.linkEnabled := rfl
  have now : (s.withBits .slCfg 1#32 (flagAt b 0)).linkEnabled = b :=
    State.withBits_flagAt tables (by decide) b (by decide)
  have timer : (s.withBits .slCfg 1#32 (flagAt b 0)).pollUs = s.pollUs := by
    simp only [State.pollUs, State.fieldOf, State.withBits_reg (show Reg.slPollUs ≠ .slCfg by decide)]
  simp only [State.changeLink, before, now, timer]
  cases b <;> cases s.linkEnabled <;> rfl

/-- Settles O33: the stored bits, then the effect of each setting's change. -/
theorem channelSettingsTakeEffect : Obligations.ChannelSettingsTakeEffect := by
  intro s b ms tables h
  have flag : ∀ b : Bool, ∀ i < 2, flagAt b i &&& (1#32 <<< i) = flagAt b i := fun b i hi => by
    interval_cases i <;> cases b <;> decide
  have half : ms.zeroExtend 32 &&& 0xFFFF#32 = ms.zeroExtend 32 := zeroExtend_and_half ms
  refine ⟨?_, ?_, ?_, fun halted => ?_, fun halted => ?_, ?_⟩
  · have does := State.changeRaw_withBits (s := s.wordBegun Reg.vcCfg.address) b tables
    have port := congrArg State.port does
    have word := exec_of_storedBits (s := s) (c := .rawModeChange b) .vcCfg 1#32 (flagAt b 0)
      (·.changeRaw s.rawMode) h (by decide) (flag b 0 (by decide)) rfl rfl
      (State.fieldFault_free _ _ _ rfl rfl) (fun v => rfl) port
    exact word.trans (congrArg (fun x : State => Host.Outcome.next
        { x with port := (s.wordDone Reg.vcCfg.address).port }) does)
  · have does := State.changeRaw_same (s := s.wordBegun Reg.vcCfg.address) b tables
    have port := congrArg State.port does
    have word := exec_of_storedBits (s := s) (c := .parserPause b) .vcCfg 2#32 (flagAt b 1)
      (·.changeRaw s.rawMode) h (by decide) (flag b 1 (by decide)) rfl rfl
      (State.fieldFault_free _ _ _ rfl rfl) (fun v => rfl) port
    exact word.trans (congrArg (fun x : State => Host.Outcome.next
        { x with port := (s.wordDone Reg.vcCfg.address).port }) does)
  · have does := State.refreshSilence_withBits (s := s.wordBegun Reg.vcSilenceMs.address) ms tables
    have port := congrArg State.port does
    have word := exec_of_storedBits (s := s) (c := .silenceLimitWrite ms) .vcSilenceMs 0xFFFF#32 (ms.zeroExtend 32)
      State.refreshSilence h (by decide) half rfl rfl
      (State.fieldFault_free _ _ _ rfl rfl) (fun v => rfl) port
    exact word.trans (congrArg (fun x : State => Host.Outcome.next
        { x with port := (s.wordDone Reg.vcSilenceMs.address).port }) does)
  · have does := State.changeFlow_software (s := s.wordBegun Reg.vcFlowCfg.address) tables
    have port := congrArg State.port does
    have word := exec_of_storedBits (s := s) (c := .swFlowClear) .vcFlowCfg 1#32 (flagAt false 0)
      (·.changeFlow (s.reg .vcFlowCfg)) h (by decide) (flag false 0 (by decide)) rfl rfl
      (State.fieldFault_halted halted rfl) (fun v => rfl) port
    refine (word.trans (congrArg (fun x : State => Host.Outcome.next
        { x with port := (s.wordDone Reg.vcFlowCfg.address).port }) does)).trans (congrArg Host.Outcome.next ?_)
    have bits : (s.wordDone Reg.vcFlowCfg.address).setReg .vcFlowCfg (s.reg .vcFlowCfg &&& ~~~1#32) =
        (s.wordDone Reg.vcFlowCfg.address).withBits .vcFlowCfg 1#32 (flagAt false 0) :=
      congrArg (State.setReg _ _) BitVec.or_zero.symm
    rw [bits]
    refine Eq.trans (b := { (s.wordDone Reg.vcFlowCfg.address).withBits .vcFlowCfg 1#32 (flagAt false 0) with
      vc := if s.swFlow = true ∧ s.vc.flowPaused = true then s.vc.released (s.flowTx .resume) else s.vc
      counters := if s.swFlow = true ∧ s.vc.flowPaused = true ∧ s.vc.tx = none then (s.bump .resumeSent).counters
        else s.counters }) rfl ?_
    rw [Channel.released_eq]
    rfl
  · have does := State.changeFlow_hardware (s := s.wordBegun Reg.vcFlowCfg.address) tables
    have port := congrArg State.port does
    have word := exec_of_storedBits (s := s) (c := .hwFlowClear) .vcFlowCfg 2#32 (flagAt false 1)
      (·.changeFlow (s.reg .vcFlowCfg)) h (by decide) (flag false 1 (by decide)) rfl rfl
      (State.fieldFault_halted halted rfl) (fun v => rfl) port
    refine (word.trans (congrArg (fun x : State => Host.Outcome.next
        { x with port := (s.wordDone Reg.vcFlowCfg.address).port }) does)).trans (congrArg Host.Outcome.next ?_)
    have bits : (s.wordDone Reg.vcFlowCfg.address).setReg .vcFlowCfg (s.reg .vcFlowCfg &&& ~~~2#32) =
        (s.wordDone Reg.vcFlowCfg.address).withBits .vcFlowCfg 2#32 (flagAt false 1) :=
      congrArg (State.setReg _ _) BitVec.or_zero.symm
    rw [bits]
    rfl
  · have does := State.changeLink_withBits (s := s.wordBegun Reg.slCfg.address) b tables
    have port := congrArg State.port does
    have word := exec_of_storedBits (s := s) (c := .linkEnableChange b) .slCfg 1#32 (flagAt b 0)
      (·.changeLink (s.reg .slCfg)) h (by decide) (flag b 0 (by decide)) rfl rfl
      (State.fieldFault_free _ _ _ rfl rfl) (fun v => rfl) port
    exact word.trans (congrArg (fun x : State => Host.Outcome.next
        { x with port := (s.wordDone Reg.slCfg.address).port }) does)

end Sys2Proof.Machine
end

section
/-! SUPPORT. The entry into Faulted (section 12.4) and the expiries of the timers. -/

namespace Sys2Proof.Machine

/-- A masked event outside a position event, by the run state (R172). -/
theorem State.raiseFault_of_masked {s : State} {e : Event} (masked : s.flagOf .rcFaultMask e.num = true)
    (runs : s.rc.state = .running ∨ s.rc.state = .draining) : s.raiseFault e = State.flushRoute { s with
      rc := { s.rc with
        state := .faulted, faultFirst := e.num, faultCauses := 1#32 <<< e.num
        flags := s.rc.flags ||| 1#32 <<< e.num ||| 2#32 } } := by
  have on : s.masked e = true := masked
  have enters : s.raiseFault e = (s.raise e).enterFault e [e] := by
    rcases runs with state | state <;> simp only [State.raiseFault, on, if_true, state]
  rw [enters, State.enterFault]
  simp [State.raise, Event.num, causeBit]

/-- Settles O35: the mask, then the run state, then the open batch. -/
theorem faultsAreEntered : Obligations.FaultsAreEntered := by
  rintro s z e rfl
  refine ⟨fun plain => ?_, fun masked faulted => ?_, fun masked runs empty => ?_, fun masked runs batch => ?_⟩
  · have raised : s.raiseFault e = s.raise e := by
      unfold State.raiseFault
      split
      · next on =>
        have halted := plain.resolve_left (by rw [show s.flagOf .rcFaultMask e.num = true from on]; decide)
        simp only [halted]
      · rfl
    rw [raised, State.raise]
  · have on : s.masked e = true := masked
    simp only [State.raiseFault, on, if_true, faulted, State.addCause, State.raise, causeBit]
  · rw [State.raiseFault_of_masked masked runs, State.flushRoute, if_pos (by exact empty)]
    rfl
  · rw [State.raiseFault_of_masked masked runs, State.flushRoute, if_neg (by exact batch)]
    have within := State.closeBatch_raised s s.port (f := 1#32 <<< e.num ||| 2#32) (r := { s.rc with
      state := .faulted, faultFirst := e.num, faultCauses := 1#32 <<< e.num
      flags := s.rc.flags ||| 1#32 <<< e.num ||| 2#32 }) (BitVec.or_assoc _ _ _) true s.br.openCount
    have port : (s.closeBatch true s.br.openCount).port = s.port := by simp
    refine within.trans ?_
    rw [← BitVec.or_assoc, ← port]

/-- A model after its occupancy has been judged: its hold flag between the two limits (R69). -/
theorem Model.settle_eq (m : Model) (high low : Nat) : m.settle high low =
    { m with hold := if high ≤ m.occ then true else if m.occ ≤ low then false else m.hold } := by
  unfold Model.settle
  split_ifs <;> rfl

/-- Settles O36: each expiry tests its timer, and a pulse's end its countdown. -/
theorem timersExpire : Obligations.TimersExpire := by
  intro s n x c g
  refine ⟨fun runs => ?_, fun off => ?_, fun runs => ?_, fun off => ?_, fun runs => ?_, fun off => ?_, rfl, rfl, rfl,
    rfl, fun idle => ?_, fun busy alone => ?_, fun busy next => ?_, fun last => ?_, fun other => ?_, fun last => ?_,
    fun other => ?_, fun off => ?_, fun runs => ?_⟩
  · exact congrArg Host.Outcome.next (if_pos (Option.isSome_iff_exists.mpr ⟨n, runs⟩))
  · exact congrArg Host.Outcome.next (if_neg (by simp [off]))
  · exact congrArg Host.Outcome.next (if_pos (Option.isSome_iff_exists.mpr ⟨n, runs⟩))
  · exact congrArg Host.Outcome.next (if_neg (by simp [off]))
  · exact congrArg Host.Outcome.next (if_pos (Option.isSome_iff_exists.mpr ⟨n, runs⟩))
  · exact congrArg Host.Outcome.next (if_neg (by simp [State.arrive_late, off]))
  · have idle' : (s.arrive .txEnd).vc.tx = none := by simp [idle]
    exact congrArg Host.Outcome.next (by simp only [State.completeTx, idle'])
  · have busy' : (s.arrive .txEnd).vc.tx = some x := by simp [busy]
    have alone' : (s.arrive .txEnd).vc.waiting = none := by simp [alone]
    refine congrArg Host.Outcome.next ?_
    simp only [State.completeTx, busy', alone']
    simp [alone]
  · have busy' : (s.arrive .txEnd).vc.tx = some x := by simp [busy]
    have next' : (s.arrive .txEnd).vc.waiting = some c := by simp [next]
    refine congrArg Host.Outcome.next ?_
    simp only [State.completeTx, busy', next', State.startTx_eq]
    rw [State.arrive_eq]
    cases c <;> rfl
  · refine congrArg Host.Outcome.next ((if_pos ?_).trans ?_)
    · simpa using last
    · simp
  · exact congrArg Host.Outcome.next (if_neg (by simpa using other))
  · refine congrArg Host.Outcome.next ((if_pos ?_).trans ?_)
    · simpa using last
    · simp
  · exact congrArg Host.Outcome.next (if_neg (by simpa using other))
  · have off' : ((s.arrive .late).model g).drain = none := by cases g <;> exact off
    exact congrArg Host.Outcome.next (if_neg (by simp [off']))
  · have runs' : ((s.arrive .late).model g).drain = some n := by cases g <;> exact runs
    refine ⟨_, congrArg Host.Outcome.next (if_pos (by simp [runs'])), ?_⟩
    rw [State.drainModel, Model.settle_eq]
    refine ⟨by cases g <;> rfl, fun h other => ?_, by cases g <;> rfl⟩
    cases g <;> cases h <;> first | rfl | exact absurd rfl other

end Sys2Proof.Machine
end

section
/-! SUPPORT. The Station Link (chapter 8): frame ends, Spacing and the poll transaction. -/

namespace Sys2Proof.Machine

/-! ### Frame ends (R124, R129, R143) -/

/-- Slots that have their part of a frame end one after another. -/
theorem Slots.ended_foldl (l : List SlotId) (x : Slots) (i : SlotId) (nodup : l.Nodup) :
    (l.foldl Slots.ended x).at i = if i ∈ l then (x.at i).ended else x.at i := by
  induction l generalizing x with
  | nil => simp
  | cons j l ih =>
    obtain ⟨fresh, rest⟩ := List.nodup_cons.mp nodup
    have slot : (x.ended j).at i = if i = j then (x.at i).ended else x.at i := by
      rw [Slots.ended]
      rcases eq_or_ne i j with rfl | other
      · rw [if_pos rfl]
        cases i <;> rfl
      · rw [if_neg other]
        cases i <;> cases j <;> first | rfl | exact absurd rfl other
    rw [List.foldl_cons, ih _ rest, slot]
    rcases eq_or_ne i j with rfl | other
    · simp [fresh]
    · simp [other]

theorem State.endFrame_slot (s : State) (i : SlotId) : s.endFrame.slot i = (s.slot i).ended := by
  rw [State.slot_eq_at, State.slot_eq_at, State.endFrame_eq]
  exact (Slots.ended_foldl allSlots s.sl.slots i (by decide)).trans (if_pos (mem_allSlots i))

/-- The frame in progress is a Poll (R128). -/
theorem State.sendingPoll_eq (s : State) : s.sendingPoll = decide (s.sl.frame.map Frame.kind = some 9#4) := by
  unfold State.sendingPoll
  cases frame : s.sl.frame with
  | none => rfl
  | some f => simp [beq_eq_decide]

/-- Settles O51: the frame end and the end of Spacing, by the state of the link. -/
theorem framesAndSpacingEnd : Obligations.FramesAndSpacingEnd := by
  intro s i
  refine ⟨fun off => ?_, fun sending => ?_, fun off => ?_, fun spacing => ?_⟩
  · exact congrArg Host.Outcome.next (if_neg (by simpa using off))
  · have poll : (s.arrive .linkEnd).sendingPoll = decide (s.sl.frame.map Frame.kind = some 9#4) := by
      rw [State.sendingPoll_eq]
      simp [State.arrive_eq]
    have slot : (s.arrive .linkEnd).slot i = s.slot i := by
      rw [State.slot_eq_at, State.slot_eq_at, State.arrive_slots]
    have ended := (s.arrive .linkEnd).endFrame_slot i
    refine ⟨_, congrArg Host.Outcome.next (if_pos (by simpa using sending)), ?_, fun isPoll => ?_, fun other => ?_,
      fun off => ?_, fun sends => ?_⟩
    · rw [State.endFrame_eq, State.arrive_eq]
      rfl
    · rw [State.endFrame_eq, poll, isPoll]
      simp only [decide_true, if_true, true_and, and_true]
      rw [State.arrive_eq]
      rfl
    · rw [State.endFrame_eq, poll, decide_eq_false other]
      simp only [Bool.false_eq_true, if_false, true_and]
      rw [State.arrive_eq]
      exact ⟨rfl, rfl⟩
    · rw [ended, slot, Slot.ended, if_neg off]
    · rw [ended, slot, Slot.ended, if_pos sends]
      cases (s.slot i).rerequest <;> simp
  · exact congrArg Host.Outcome.next (if_neg (by simpa using off))
  · exact congrArg Host.Outcome.next (if_pos (by simpa using spacing))

/-! ### The poll transaction (R131, R134, R135) -/

theorem State.endTransaction_eq (s : State) : s.endTransaction = s.pollOver := rfl

/-- A station after a miss: what the charge stores (R131). -/
theorem missState_missed (x : Station) (retry : Nat) :
    ({ x with state := missState retry (min 15 (x.misses + 1)) x.state, misses := min 15 (x.misses + 1) } : Station) =
      x.missed retry := by
  unfold Station.missed missState
  cases x.state <;> rfl

/-- The state after a miss has been charged to the polled station, before its loss is noted (R131, R134). -/
def State.missCharged (s : State) (reason : Nat) : State :=
  { s with
    sl := { s.sl with
      missReason := reason
      stations := s.sl.stations.set (s.sl.polled - 1) ((s.station (s.sl.polled - 1)).missed s.retry) }
    counters := (s.bump .misses).counters }

/-- A poll transaction ends with a miss (R130, R134). -/
theorem State.endWithMiss_eq (s : State) (reason : Nat) : s.endWithMiss reason =
    (if s.sl.discard = true then s else (s.missCharged reason).noteLoss (s.station (s.sl.polled - 1)).state
      ((s.station (s.sl.polled - 1)).missed s.retry).state).pollOver := by
  unfold State.endWithMiss
  rw [State.endTransaction_eq]
  split
  · rfl
  · have missed := missState_missed (s.station (s.sl.polled - 1)) s.retry
    have charged : ((s.setMissReason reason).setStation (s.sl.polled - 1) { s.station (s.sl.polled - 1) with
        state := missState s.retry (min 15 ((s.station (s.sl.polled - 1)).misses + 1))
          (s.station (s.sl.polled - 1)).state
        misses := min 15 ((s.station (s.sl.polled - 1)).misses + 1) }).bump .misses = s.missCharged reason := by
      rw [missed]
      rfl
    rw [← charged, ← congrArg Station.state missed]
    rfl

/-- The first fault that a reply shows, over the characters as numbers (R135). -/
theorem replyFault_eq (p : Nat) (sent : Byte) (h a b k : LineChar) : replyFault p sent h a b k =
    if h.marker = false ∨ h.stop = false ∨ h.data.toNat / 16 ≠ 10 then some 3
    else if h.data.toNat % 16 ≠ p then some 4
    else if a.marker = true ∨ a.stop = false ∨ b.marker = true ∨ b.stop = false ∨ k.marker = true ∨
      k.stop = false then some 5
    else if (h.data.toNat + a.data.toNat + b.data.toNat + k.data.toNat) % 256 ≠ 0 then some 6
    else if b.data ≠ sent then some 7 else none := by
  have kind : h.data.extractLsb' 4 4 ≠ 10#4 ↔ h.data.toNat / 16 ≠ 10 := by
    simp only [ne_eq, BitVec.toNat_eq, BitVec.extractLsb'_toNat, BitVec.toNat_ofNat, Nat.shiftRight_eq_div_pow]
    omega
  have addr : (h.data.extractLsb' 0 4 : BitVec 4).toNat = h.data.toNat % 16 := by simp
  have shape : ([a, b, k].any fun x => x.marker || !x.stop) = true ↔ a.marker = true ∨ a.stop = false ∨
      b.marker = true ∨ b.stop = false ∨ k.marker = true ∨ k.stop = false := by
    simp [or_assoc]
  have sum : byteSum [h.data, a.data, b.data, k.data] ≠ 0#8 ↔
      (h.data.toNat + a.data.toNat + b.data.toNat + k.data.toNat) % 256 ≠ 0 := by
    simp [byteSum, BitVec.toNat_eq]
  simp only [replyFault, kind, addr, shape, sum]

/-- A character completed on LINK_RX while the part does not send (R90, R125). -/
def State.heard (s : State) (k : LineChar) : State :=
  { s with sl := { s.sl with rx := { last := some k.stop, char := none } } }

/-- The rows that name a character completed on LINK_RX (log 13). -/
theorem exec_linkCharacter {c : Instr} {k : LineChar} (o : State)
    (h : c = .statusReply k ∨ c = .replyCharacter k ∨ c = .unsolicitedCharacter k) : exec c o =
      .next ((o.arrive (if o.sl.link = .reply then .linkEnd else .linkChar)).linkCharacter k) := by
  rcases h with rfl | rfl | rfl <;> rfl

section
variable {s : State} {k h a b : LineChar}

theorem State.linkCharacter_sending (off : s.sl.link = .sending) : s.linkCharacter k = s := if_pos off

theorem State.linkCharacter_heard (on : s.sl.link ≠ .sending) : s.linkCharacter k = (s.heard k).linkTake k := if_neg on

theorem State.linkCharacter_unsolicited (out : s.sl.link = .idle ∨ s.sl.link = .spacing) :
    s.linkCharacter k = (s.heard k).unsolicited := by
  rw [State.linkCharacter_heard (by rcases out with link | link <;> simp [link])]
  rcases out with link | link
  · have link' : (s.heard k).sl.link = .idle := link
    simp only [State.linkTake, link']
  · have link' : (s.heard k).sl.link = .spacing := link
    simp only [State.linkTake, link']

theorem State.linkCharacter_reply (reply : s.sl.link = .reply) : s.linkCharacter k = (s.heard k).replyTake k := by
  have link' : (s.heard k).sl.link = .reply := reply
  rw [State.linkCharacter_heard (by simp [reply])]
  simp only [State.linkTake, link']

theorem State.replyTake_early (early : s.sl.reply.length < 3) :
    s.replyTake k = { s with sl := { s.sl with reply := s.sl.reply ++ [k], left := 11 * s.sl.bitTime } } := by
  unfold State.replyTake
  split
  · next h a b l all => exact absurd early (by simp [all])
  · rfl

theorem State.replyTake_last (all : s.sl.reply = [h, a, b]) : s.replyTake k = s.judgeReply h a b k := by
  simp only [State.replyTake, all]

end

/-- A station after a good reply with its levels (R131, R135). -/
def Station.credited (x : Station) (payload : Byte) : Station :=
  { group := x.group, state := .present, misses := 0, busy := payload.extractLsb' 6 2
    faults := payload.extractLsb' 0 6, replies := x.replies + 1#8 }

/-- A good reply (R131, R135). -/
theorem State.creditReply_eq (s : State) (payload : Byte) : s.creditReply payload =
    { s with
      sl := { s.sl with
        stations := s.sl.stations.set (s.sl.polled - 1) ((s.station (s.sl.polled - 1)).credited payload) }
      counters := (s.bump .linkReplies).counters
      rc := { s.rc with
        flags :=
          if (s.station (s.sl.polled - 1)).state = .absent then s.rc.flags ||| 0x20000#32 else s.rc.flags } } := by
  unfold State.creditReply State.polledIndex
  dsimp only
  split <;> rfl

/-- Settles O53: the link's state, then the place in the reply, then the first fault. -/
theorem statusRepliesAreJudged : Obligations.StatusRepliesAreJudged := by
  rintro o s u c h a b k x p sent rfl
  refine ⟨replyFault_eq p sent h a b k, ?_⟩
  rintro row rfl
  rw [exec_linkCharacter o row]
  generalize o.arrive (if o.sl.link = .reply then .linkEnd else .linkChar) = s
  refine ⟨fun sending => ?_, fun out => ?_, fun reply early => ?_, fun reply all discard => ?_,
    fun reply all counts good hx => ?_⟩
  · rw [State.linkCharacter_sending sending]
  · rw [State.linkCharacter_unsolicited out]
    rfl
  · rw [State.linkCharacter_reply reply, State.replyTake_early (s := s.heard k) early]
    rfl
  · rw [State.linkCharacter_reply reply, State.replyTake_last (s := s.heard k) all, State.judgeReply,
      if_pos (by exact discard)]
    rfl
  · rw [State.linkCharacter_reply reply, State.replyTake_last (s := s.heard k) all, State.judgeReply,
      if_neg (by rw [show (s.heard k).sl.discard = s.sl.discard from rfl, counts]; decide)]
    have good' : replyFault (s.heard k).sl.polled (s.heard k).sl.pollSent h a b k = none := good
    subst hx
    simp only [good', State.creditReply_eq]
    rfl

/-- What a miss charged beside LINK_COLLISION leaves, the loss of the station noted (R131). -/
theorem State.noteLoss_missed (y : State) (x : Station) (retry : Nat) :
    ((x.missed retry).state ≠ .absent ∨ x.state = .absent → y.noteLoss x.state (x.missed retry).state = y) ∧
    ((x.missed retry).state = .absent → x.state = .unknown →
      y.noteLoss x.state (x.missed retry).state = y.bump .unknownToAbsent) ∧
    ((x.missed retry).state = .absent → x.state = .present ∨ x.state = .suspect →
      y.noteLoss x.state (x.missed retry).state = y.raiseFault .stationLost) := by
  refine ⟨fun kept => ?_, fun absent unknown => ?_, fun absent known => ?_⟩
  · unfold State.noteLoss
    split
    · next absent => rw [kept.resolve_left (· absent)]
    · rfl
  · simp only [State.noteLoss, absent, if_true, unknown]
  · rcases known with state | state <;> simp only [State.noteLoss, absent, if_true, state]

/-- Settles O52: the row or the count ends the transaction, and the miss is charged where it is not discarded. -/
theorem pollMissesAreCharged : Obligations.PollMissesAreCharged := by
  rintro o s u y c m h a b k x z rfl
  have awaited : ∀ s : State, s.replyAwaited = true ↔ s.sl.link = .reply ∧ s.sl.rx.char = none := fun s => by
    simp [State.replyAwaited]
  generalize hs : o.arrive .linkEnd = s
  have rows : exec .replyTimeout o = .next (if s.replyAwaited = true ∧ s.sl.reply = [] then s.endWithMiss 1 else s) ∧
      exec .shortReply o = .next (if s.replyAwaited = true ∧ s.sl.reply ≠ [] then s.endWithMiss 2 else s) := by
    subst hs
    exact ⟨rfl, rfl⟩
  obtain ⟨timeout, short⟩ := rows
  refine ⟨fun off => ?_, fun reply quiet out => ?_, fun off => ?_, fun cases reply => ?_⟩
  · have off : ¬ s.replyAwaited = true := by
      rw [awaited]
      rintro ⟨reply, quiet⟩
      exact off.elim (· reply) (· quiet)
    rw [timeout, short, if_neg (fun both => off both.1), if_neg (fun both => off both.1)]
    exact ⟨rfl, rfl⟩
  · have on : s.replyAwaited = true := (awaited s).mpr ⟨reply, quiet⟩
    have expires : s.replyAwaited = true ∧ s.sl.left = 0 := ⟨on, out⟩
    rw [State.replyExpiry, if_pos expires]
    by_cases none : s.sl.reply = []
    · rw [if_pos none, timeout, if_pos ⟨on, none⟩, none]
      rfl
    · rw [if_neg none, short, if_pos ⟨on, none⟩]
      simp [none]
  · refine if_neg ?_
    rw [awaited]
    rintro ⟨⟨reply, quiet⟩, out⟩
    exact off.elim (· reply) (Or.elim · (· quiet) (· out))
  · have ends : (u = s ∨ u = s.heard k) ∧ (s.sl.discard = true → exec c o = .next u.pollOver) ∧
        (s.sl.discard = false →
          exec c o = .next ((if m = 4 then u.bump .linkCollision else u).endWithMiss m)) := by
      rcases cases with ⟨rfl, none, rfl, quiet, rfl⟩ | ⟨rfl, some, rfl, quiet, rfl⟩ | ⟨row, all, fault, rfl⟩
      · have on : u.replyAwaited = true := (awaited u).mpr ⟨reply, quiet⟩
        rw [timeout, if_pos ⟨on, none⟩]
        refine ⟨.inl rfl, fun discard => ?_, fun counts => rfl⟩
        rw [State.endWithMiss_eq, if_pos discard]
      · have on : u.replyAwaited = true := (awaited u).mpr ⟨reply, quiet⟩
        rw [short, if_pos ⟨on, some⟩]
        refine ⟨.inl rfl, fun discard => ?_, fun counts => rfl⟩
        rw [State.endWithMiss_eq, if_pos discard]
      · have link : o.sl.link = .reply := by
          rw [← reply, ← hs, State.arrive_link]
        have taken : exec c o = .next ((s.heard k).judgeReply h a b k) := by
          rw [exec_linkCharacter o row, if_pos link, hs, State.linkCharacter_reply reply,
            State.replyTake_last (s := s.heard k) all]
        have fault' : replyFault (s.heard k).sl.polled (s.heard k).sl.pollSent h a b k = Option.some m := fault
        refine ⟨.inr rfl, fun discard => ?_, fun counts => ?_⟩
        · rw [taken, State.judgeReply, if_pos (by exact discard)]
          rfl
        · rw [taken, State.judgeReply,
            if_neg (by rw [show (s.heard k).sl.discard = s.sl.discard from rfl, counts]; decide)]
          simp only [fault']
          rfl
    obtain ⟨hu, discarded, counted⟩ := ends
    refine ⟨discarded, ?_⟩
    rintro counts rfl rfl rfl
    have charged : (if m = 4 then u.bump .linkCollision else u).missCharged m = { u with
        sl := { u.sl with
          missReason := m
          stations := s.sl.stations.set (s.sl.polled - 1) ((s.station (s.sl.polled - 1)).missed s.retry) }
        counters := ((if m = 4 then s.bump .linkCollision else s).bump .misses).counters } := by
      rcases hu with rfl | rfl <;> split <;> rfl
    have polled : (if m = 4 then u.bump .linkCollision else u).sl.discard = false ∧
        (if m = 4 then u.bump .linkCollision else u).station
          ((if m = 4 then u.bump .linkCollision else u).sl.polled - 1) = s.station (s.sl.polled - 1) ∧
        (if m = 4 then u.bump .linkCollision else u).retry = s.retry := by
      rcases hu with rfl | rfl <;> split <;> exact ⟨counts, rfl, rfl⟩
    obtain ⟨counts', station, retry⟩ := polled
    have word := counted counts
    rw [State.endWithMiss_eq, counts', if_neg (by decide), station, retry, charged] at word
    obtain ⟨kept, unknown, lost⟩ := State.noteLoss_missed { u with
        sl := { u.sl with
          missReason := m
          stations := s.sl.stations.set (s.sl.polled - 1) ((s.station (s.sl.polled - 1)).missed s.retry) }
        counters := ((if m = 4 then s.bump .linkCollision else s).bump .misses).counters }
      (s.station (s.sl.polled - 1)) s.retry
    refine ⟨fun h => ?_, fun absent h => ?_, fun absent h => ?_⟩
    · rw [word, kept h]
    · rw [word, unknown absent h]
      rfl
    · rw [word, lost absent h]

end Sys2Proof.Machine
end

section
/-! SUPPORT. Steps of a position event and the rows that are those steps (log 3): what a step does does not depend on
where a row stands among the rows of its edge (log 29). The slots' steps (R141, R142). -/

namespace Sys2Proof.Machine

/-! ### Where a row stands -/

/-- A state at another place among the rows of an edge, with other frames startable before it (log 29). -/
def State.placed (s : State) (p : Place) (e : Startable) : State :=
  { s with sl := { s.sl with place := p, earlier := e } }

/-- An operation that leaves the place of the row alone and does not depend on it. -/
def Steady (f : State → State) : Prop := ∀ (s : State) (p : Place) (e : Startable), f (s.placed p e) = (f s).placed p e

theorem Steady.id : Steady fun s => s := fun _ _ _ => rfl

theorem Steady.comp {f g : State → State} (hf : Steady f) (hg : Steady g) : Steady fun s => g (f s) := fun s p e =>
  (congrArg g (hf s p e)).trans (hg (f s) p e)

theorem Steady.ite {f g : State → State} {c : State → Prop} [∀ s, Decidable (c s)]
    (hc : ∀ (s : State) (p : Place) (e : Startable), c (s.placed p e) ↔ c s) (hf : Steady f) (hg : Steady g) :
    Steady fun s => if c s then f s else g s := fun s p e => by
  dsimp only
  by_cases h : c s
  · rw [if_pos h, if_pos ((hc s p e).mpr h), hf]
  · rw [if_neg h, if_neg fun h' => h ((hc s p e).mp h'), hg]

theorem Steady.foldl {α : Type} {f : State → α → State} (hf : ∀ a, Steady (f · a)) (l : List α) :
    Steady fun s => l.foldl f s := fun s p e => by
  induction l generalizing s with
  | nil => rfl
  | cons a l ih => exact (congrArg (l.foldl f) (hf a s p e)).trans (ih (f s a))

/-- What stands startable when a row of a place arrives. -/
def State.earlierAt (s : State) (p : Place) : Startable := (s.arrive p).sl.earlier

theorem State.arrive_eq_placed (s : State) (p : Place) : s.arrive p = s.placed p (s.earlierAt p) := by
  unfold State.earlierAt
  rw [State.arrive_eq]
  rfl

/-- A row performed inside an event whose place does not matter (logs 3 and 29). -/
theorem State.row_of_steady {s : State} {c : Instr} {f : State → State} {p : Place} (hf : Steady f)
    (row : exec c s = .next (f (s.arrive p))) : s.row c = f s := by
  have restored := hf s s.sl.place s.sl.earlier
  rw [State.row_of_next row, State.arrive_eq_placed, hf]
  exact restored.symm

/-- A row performed as a row, whose place does not matter. -/
theorem State.exec_of_steady {s : State} {c : Instr} {f : State → State} {p : Place} (hf : Steady f)
    (row : exec c s = .next (f (s.arrive p))) : exec c s = .next ((f s).placed p (s.earlierAt p)) := by
  rw [row, State.arrive_eq_placed, hf]

/-! ### The steps of the slots -/

theorem Steady.openingArrives (i : SlotId) : Steady (·.openingArrives i) := fun s p e => by
  have slot : (s.placed p e).slot i = s.slot i := rfl
  have link : (s.placed p e).linkEnabled = s.linkEnabled := rfl
  simp only [State.openingArrives, slot, link]
  cases (s.slot i).state <;> (dsimp only; try split) <;> rfl

theorem Steady.yieldSlot (i : SlotId) : Steady (·.yieldSlot i) := fun _ _ _ => rfl

theorem Steady.yieldIfDue (i : SlotId) : Steady (·.yieldIfDue i) :=
  Steady.ite (c := fun s => (s.slot i).state = .due) (fun _ _ _ => Iff.rfl) (Steady.yieldSlot i) Steady.id

theorem Steady.lateStartCheck : Steady State.lateStartCheck := fun s p e => by
  have link : (s.placed p e).sl.link = s.sl.link := rfl
  simp only [State.lateStartCheck, link]
  cases s.sl.link <;> rfl

theorem Steady.becomeDue (i : SlotId) : Steady (·.becomeDue i) := by
  have due : Steady fun s : State => s.setSlot i { s.slot i with state := .due } := fun _ _ _ => rfl
  refine due.comp (Steady.ite (c := fun s => (higherSlots i).any s.blocks = true) (fun _ _ _ => Iff.rfl)
    (Steady.yieldSlot i) (Steady.lateStartCheck.comp (Steady.foldl Steady.yieldIfDue _)))

theorem Steady.anchorArrives (i : SlotId) : Steady (·.anchorArrives i) := fun s p e => by
  have slot : (s.placed p e).slot i = s.slot i := rfl
  have due := Steady.becomeDue i s p e
  simp only [State.anchorArrives, slot, due]
  cases (s.slot i).state <;> (dsimp only; try split) <;> rfl

/-- The two steps of a slot in the slot pass, each under its condition. -/
def State.openingStep (i : SlotId) (s : State) : State :=
  if s.lp.cycleIndex = s.slotOpening i then s.openingArrives i else s

def State.anchorStep (i : SlotId) (s : State) : State :=
  if s.lp.cycleIndex = s.slotAnchor i then s.anchorArrives i else s

theorem Steady.openingStep (i : SlotId) : Steady (State.openingStep i) :=
  Steady.ite (c := fun s => s.lp.cycleIndex = s.slotOpening i)
    (fun _ _ _ => Iff.rfl) (Steady.openingArrives i) Steady.id

theorem Steady.anchorStep (i : SlotId) : Steady (State.anchorStep i) :=
  Steady.ite (c := fun s => s.lp.cycleIndex = s.slotAnchor i) (fun _ _ _ => Iff.rfl) (Steady.anchorArrives i) Steady.id

/-- The slot pass performs the two rows of each slot in turn (R141). -/
theorem State.slotPass_eq (s : State) : s.slotPass =
    allSlots.foldl (fun x i => (x.row (.slotGuardOpening i)).row (.slotAnchor i)) s := by
  have pass : ∀ (x : State) (i : SlotId), (x.row (.slotGuardOpening i)).row (.slotAnchor i) = x.passSlot i := by
    intro x i
    rw [State.row_of_steady (c := .slotGuardOpening i) (Steady.openingStep i) (p := .step) rfl,
      State.row_of_steady (c := .slotAnchor i) (Steady.anchorStep i) (p := .step) rfl]
    rfl
  simp only [pass]
  rfl

/-! ### Yielding (R142) -/

/-- Slots that yield one after another change the slots and the counters alone. -/
theorem State.yieldAll_eq (l : List SlotId) (u : State) : l.foldl State.yieldIfDue u = { u with
    sl := { u.sl with slots := (l.foldl State.yieldIfDue u).sl.slots }
    counters := (l.foldl State.yieldIfDue u).counters } := by
  induction l generalizing u with
  | nil => rfl
  | cons j l ih =>
    have one : u.yieldIfDue j = { u with
        sl := { u.sl with slots := (u.yieldIfDue j).sl.slots }, counters := (u.yieldIfDue j).counters } := by
      unfold State.yieldIfDue
      split <;> rfl
    rw [List.foldl_cons, ih, one]

/-- The yields counted. -/
theorem State.yieldAll_counts (l : List SlotId) (nodup : l.Nodup) (u : State) :
    u.counts (l.foldl State.yieldIfDue u) .yields (l.countP fun k => (u.slot k).state == .due) := by
  induction l generalizing u with
  | nil => exact State.counts.of_eq rfl
  | cons j l ih =>
    obtain ⟨fresh, rest⟩ := List.nodup_cons.mp nodup
    have others : (l.countP fun k => ((u.yieldIfDue j).slot k).state == .due) =
        l.countP fun k => (u.slot k).state == .due := by
      refine List.countP_congr fun k hk => ?_
      have : k ≠ j := fun same => fresh (same ▸ hk)
      unfold State.yieldIfDue
      split
      · rw [show ((u.yieldSlot j).slot k) = u.slot k from State.slot_setSlot_other u j k _ this]
      · rfl
    have one : u.counts (u.yieldIfDue j) .yields (if (u.slot j).state = .due then 1 else 0) := by
      unfold State.yieldIfDue
      split
      · exact State.counts.bumpBy (u.setSlot j _) .yields 1
      · exact State.counts.of_eq rfl
    have all := one.trans (ih rest (u.yieldIfDue j))
    rw [others, Nat.add_comm] at all
    rw [List.countP_cons]
    simpa using all

theorem State.yieldAll_counts_other (l : List SlotId) (u : State) {k : Ctr} (h : k.offset ≠ Ctr.yields.offset) :
    u.counts (l.foldl State.yieldIfDue u) k 0 := by
  have one : ∀ (u : State) (j : SlotId), u.counts (u.yieldIfDue j) k 0 := by
    intro u j
    unfold State.yieldIfDue
    split
    · exact State.counts.bump_other (u.setSlot j _) .yields h
    · exact State.counts.of_eq rfl
  have all := State.counts.foldl one l u
  rwa [Nat.mul_zero] at all

/-- A Guarding slot that becomes Due with none in its way: it is Due, the Due ones of lower priority yield, and a
link in
use is a late start (R142). -/
theorem State.becomeDue_of_free {s : State} {i : SlotId} (wf : tableWf zeroDefault s.counters = true)
    (free : ∀ k ∈ higherSlots i,
      (s.slot k).state ≠ .guarding ∧ (s.slot k).state ≠ .due ∧ (s.slot k).state ≠ .sending) :
    s.becomeDue i = { s with
      sl := { s.sl with slots := (s.becomeDue i).sl.slots }, counters := (s.becomeDue i).counters
      rc := { s.rc with flags :=
        if s.sl.link = .sending ∨ s.sl.link = .reply then s.rc.flags ||| 0x2000#32 else s.rc.flags } } ∧
    (s.becomeDue i).slot i = { s.slot i with state := .due } ∧
    (∀ j ∈ higherSlots i, (s.becomeDue i).slot j = s.slot j) ∧
    (∀ j ∈ lowerSlots i, (s.becomeDue i).slot j =
      if (s.slot j).state = .due then { s.slot j with state := .armed, again := true, waits := false } else s.slot j) ∧
    (s.becomeDue i).counter .lateStart = s.counter .lateStart +
      (if s.sl.link = .sending ∨ s.sl.link = .reply then 1#32 else 0#32) ∧
    (s.becomeDue i).counter .yields = s.counter .yields +
      BitVec.ofNat 32 ((lowerSlots i).countP fun k => (s.slot k).state == .due) := by
  let due := s.setSlot i { s.slot i with state := .due }
  have unblocked : (higherSlots i).any due.blocks = false := by
    refine List.any_eq_false.mpr fun k hk => ?_
    have other : k ≠ i := fun same => not_mem_higherSlots i (same ▸ hk)
    obtain ⟨guarding, isDue, sending⟩ := free k hk
    have slot : due.slot k = s.slot k := State.slot_setSlot_other _ _ _ _ other
    simp only [State.blocks, slot]
    cases state : (s.slot k).state <;> simp_all
  have does : s.becomeDue i = (lowerSlots i).foldl State.yieldIfDue due.lateStartCheck := by
    rw [State.becomeDue]
    exact if_neg (by rw [unblocked]; decide)
  have late : due.lateStartCheck = { due with
      counters := if s.sl.link = .sending ∨ s.sl.link = .reply then (s.bump .lateStart).counters else s.counters
      rc := { s.rc with flags :=
        if s.sl.link = .sending ∨ s.sl.link = .reply then s.rc.flags ||| 0x2000#32 else s.rc.flags } } := by
    have link : due.sl.link = s.sl.link := rfl
    simp only [State.lateStartCheck, link]
    cases s.sl.link <;> rfl
  have slots : ∀ j, due.lateStartCheck.slot j = due.slot j := fun j => by
    rw [late]
    cases j <;> rfl
  have lateCount : s.counts due.lateStartCheck .lateStart
      (if s.sl.link = .sending ∨ s.sl.link = .reply then 1 else 0) := by
    rw [late]
    split
    · exact (State.counts.bumpBy s .lateStart 1).then_eq rfl
    · exact State.counts.of_eq rfl
  have lateYields : s.counts due.lateStartCheck .yields 0 := by
    rw [late]
    split
    · exact (State.counts.bump_other s .lateStart (by decide)).then_eq rfl
    · exact State.counts.of_eq rfl
  have selfNotLower : i ∉ lowerSlots i := fun low => not_mem_higherSlots i ((mem_lowerSlots_iff i i).mp low)
  have lowerNe : ∀ j ∈ lowerSlots i, j ≠ i := fun j hj same => selfNotLower (same ▸ hj)
  have lowerSlot : ∀ j ∈ lowerSlots i, due.lateStartCheck.slot j = s.slot j := fun j hj => by
    rw [slots]
    exact State.slot_setSlot_other _ _ _ _ (lowerNe j hj)
  have yielding : ((lowerSlots i).countP fun k => (due.lateStartCheck.slot k).state == .due) =
      (lowerSlots i).countP fun k => (s.slot k).state == .due :=
    List.countP_congr fun j hj => by rw [lowerSlot j hj]
  have lateAll := lateCount.trans (State.yieldAll_counts_other (lowerSlots i) due.lateStartCheck (by decide))
  have yieldsAll := lateYields.trans (State.yieldAll_counts (lowerSlots i) (by cases i <;> decide) due.lateStartCheck)
  rw [yielding, Nat.zero_add] at yieldsAll
  rw [does]
  refine ⟨?_, ?_, fun j hj => ?_, fun j hj => ?_, ?_, (yieldsAll wf).2⟩
  · rw [State.yieldAll_eq, late]
    rfl
  · rw [State.yieldAll_slot, if_neg selfNotLower, slots]
    exact State.slot_setSlot_self _ _ _
  · have notLower : j ∉ lowerSlots i := by cases i <;> cases j <;> first | decide | exact absurd hj (by decide)
    rw [State.yieldAll_slot, if_neg notLower, slots]
    exact State.slot_setSlot_other _ _ _ _ fun same => not_mem_higherSlots i (same ▸ hj)
  · rw [State.yieldAll_slot, if_pos hj, lowerSlot j hj]
    rfl
  · refine (lateAll wf).2.trans (congrArg (s.counter .lateStart + ·) ?_)
    split <;> rfl

/-- A Guarding slot that becomes Due with one of higher priority in its way yields at once (R142). -/
theorem State.becomeDue_of_blocked {s : State} {i : SlotId} (blocked : ((higherSlots i).any fun k =>
    (s.slot k).state == .guarding || (s.slot k).state == .due || (s.slot k).state == .sending) = true) :
    s.becomeDue i = { s with
      counters := (s.bump .yields).counters
      sl := { s.sl with
        slots := s.sl.slots.put i { s.slot i with state := .armed, again := true, waits := false } } } := by
  have inWay : (higherSlots i).any (s.setSlot i { s.slot i with state := .due }).blocks = true := by
    obtain ⟨k, hk, state⟩ := List.any_eq_true.mp blocked
    have other : k ≠ i := fun same => not_mem_higherSlots i (same ▸ hk)
    refine List.any_eq_true.mpr ⟨k, hk, ?_⟩
    simp only [State.blocks, State.slot_setSlot_other _ _ _ _ other]
    cases here : (s.slot k).state <;> simp_all
  have yields : s.becomeDue i = (s.setSlot i { s.slot i with state := .due }).yieldSlot i := by
    rw [State.becomeDue]
    exact if_pos inWay
  rw [yields, State.yieldSlot, State.slot_setSlot_self, State.setSlot_setSlot]
  rfl

/-- Settles O54: the condition of each row, then the state of the slot. -/
theorem slotsFollowTheCycleIndex : Obligations.SlotsFollowTheCycleIndex := by
  refine ⟨State.slotPass_eq, fun s i j tables => ?_⟩
  have opening := State.exec_of_steady (c := .slotGuardOpening i) (s := s) (Steady.openingStep i) (p := .step) rfl
  have anchor := State.exec_of_steady (c := .slotAnchor i) (s := s) (Steady.anchorStep i) (p := .step) rfl
  rw [opening, anchor, State.arrive_eq_placed]
  refine ⟨fun off => ?_, fun off => ?_, fun here => ⟨fun guards => ?_, fun sending mark link => ?_, fun stays => ?_⟩,
    fun here => ⟨fun stays => ?_, fun armed again => ?_, fun due => ?_, fun sending passed => ?_,
      fun guarding blocked => ?_, fun guarding free => ?_⟩⟩
  · rw [State.openingStep, if_neg off]
  · rw [State.anchorStep, if_neg off]
  · rw [State.openingStep, if_pos here]
    rcases guards with armed | ⟨idle, rfl, link⟩
    · simp only [State.openingArrives, armed]
      rfl
    · simp only [State.openingArrives, idle, link, and_self, if_true]
      rfl
  · subst mark
    rw [State.openingStep, if_pos here]
    simp only [State.openingArrives, sending, link, and_self, if_true]
    rfl
  · have kept : s.openingArrives i = s := by
      have notMark : (s.slot i).state ≠ .guarding → (s.slot i).state ≠ .due →
          ¬ (i = .cycleMark ∧ s.linkEnabled = true) := by
        rintro notGuarding notDue ⟨mark, link⟩
        rcases stays with guarding | due | ⟨-, notMark | off⟩
        · exact notGuarding guarding
        · exact notDue due
        · exact notMark mark
        · exact absurd (link.symm.trans off) (by decide)
      have notArmed : (s.slot i).state ≠ .armed := by
        rintro armed
        rcases stays with guarding | due | ⟨notArmed, -⟩ <;> simp_all
      unfold State.openingArrives
      split
      · next armed => exact absurd armed notArmed
      · next idle => exact if_neg (notMark (by simp [idle]) (by simp [idle]))
      · next sending => exact if_neg (notMark (by simp [sending]) (by simp [sending]))
      · rfl
      · rfl
    rw [State.openingStep, if_pos here, kept]
  · have kept : s.anchorArrives i = s := by
      rcases stays with idle | ⟨armed, first⟩ | ⟨sending, unopened⟩
      · simp only [State.anchorArrives, idle]
      · simp only [State.anchorArrives, armed, first, Bool.false_eq_true, if_false]
      · simp only [State.anchorArrives, sending, unopened, Bool.false_eq_true, if_false]
    rw [State.anchorStep, if_pos here, kept]
  · rw [State.anchorStep, if_pos here]
    simp only [State.anchorArrives, armed, again, if_true]
    rfl
  · rw [State.anchorStep, if_pos here]
    simp only [State.anchorArrives, due]
    rfl
  · rw [State.anchorStep, if_pos here]
    simp only [State.anchorArrives, sending, passed, if_true]
    rfl
  · rw [State.anchorStep, if_pos here]
    simp only [State.anchorArrives, guarding]
    rw [State.becomeDue_of_blocked blocked]
    rfl
  · rw [State.anchorStep, if_pos here]
    simp only [State.anchorArrives, guarding]
    obtain ⟨parts, own, higher, lower, late, yields⟩ :=
      State.becomeDue_of_free (State.counters_canonical tables) free
    generalize s.becomeDue i = t at *
    refine ⟨_, rfl, ?_, own, higher j, lower j, late, yields⟩
    rw [parts]
    rfl

end Sys2Proof.Machine
end

section
/-! SUPPORT. The resync sequences (chapter 11): the ends of their states and of a drain, their starts, and the
reaction of
the reference generators to a start (R47). -/

namespace Sys2Proof.Machine

/-! ### Rows whose place does not matter -/

theorem Steady.bump (k : Ctr) : Steady (·.bump k) := fun _ _ _ => rfl

theorem Steady.requestSlot (i : SlotId) : Steady (·.requestSlot i) := fun s p e => by
  have slot : (s.placed p e).slot i = s.slot i := rfl
  simp only [State.requestSlot, slot]
  cases (s.slot i).state <;> rfl

theorem Steady.forceWithdraw (i : SlotId) : Steady (·.forceWithdraw i) := fun s p e => by
  have slot : (s.placed p e).slot i = s.slot i := rfl
  simp only [State.forceWithdraw, slot]
  cases (s.slot i).state <;> rfl

theorem Steady.enterSeq (i : SeqId) (x : SeqState) : Steady (·.enterSeq i x) := fun _ _ _ => by cases i <;> rfl

theorem Steady.setSeqDemand (i : SeqId) (b : Bool) : Steady (·.setSeqDemand i b) := fun _ _ _ => by cases i <;> rfl

theorem Steady.enterSignalling (i : SeqId) : Steady (·.enterSignalling i) :=
  (Steady.enterSeq i .signalling).comp (Steady.requestSlot (seqSlot i))

theorem Steady.judgeQuiesce (i : SeqId) : Steady (·.judgeQuiesce i) :=
  Steady.ite (c := fun s => s.seqQuiet i = true) (fun _ _ _ => by cases i <;> exact Iff.rfl) (Steady.enterSignalling i)
    (Steady.ite (c := fun s => s.seqQuiesce i + s.seqExtra i ≤ (s.seq i).count)
      (fun _ _ _ => by cases i <;> exact Iff.rfl)
      ((Steady.bump .forcedResync).comp (Steady.enterSignalling i)) Steady.id)

theorem Steady.judgeRecover (i : SeqId) : Steady (·.judgeRecover i) :=
  Steady.ite (c := fun s => s.seqRecover i ≤ (s.seq i).count) (fun _ _ _ => by cases i <;> exact Iff.rfl)
    (Steady.enterSeq i .idle) Steady.id

/-- The row QUIESCE_END of a sequence, wherever it stands. -/
def State.quiesceStep (i : SeqId) (s : State) : State := if (s.seq i).state = .quiescing then s.judgeQuiesce i else s

/-- The row RECOVER_END of a sequence, wherever it stands. -/
def State.recoverStep (i : SeqId) (s : State) : State := if (s.seq i).state = .recovering then s.judgeRecover i else s

theorem Steady.quiesceStep (i : SeqId) : Steady (State.quiesceStep i) :=
  Steady.ite (c := fun s => (s.seq i).state = .quiescing)
    (fun _ _ _ => by cases i <;> exact Iff.rfl) (Steady.judgeQuiesce i)
    Steady.id

theorem Steady.recoverStep (i : SeqId) : Steady (State.recoverStep i) :=
  Steady.ite (c := fun s => (s.seq i).state = .recovering)
    (fun _ _ _ => by cases i <;> exact Iff.rfl) (Steady.judgeRecover i)
    Steady.id

theorem Steady.drainedTest : Steady State.drainedTest := fun s p e => by
  unfold State.drainedTest
  have drained : (s.placed p e).isDrained = s.isDrained := rfl
  rw [drained]
  by_cases h : s.rc.state = .draining ∧ s.isDrained = true
  · rw [if_pos h, if_pos (by exact h)]
    rfl
  · rw [if_neg h, if_neg (by exact h)]

/-! ### A sequence on its own -/

theorem State.seq_requestSlot (s : State) (i : SlotId) (j : SeqId) : (s.requestSlot i).seq j = s.seq j := by
  cases j <;> simp [State.seq]

theorem State.judgeQuiesce_not_recovering {s : State} {i : SeqId} (h : (s.seq i).state = .quiescing) :
    ((s.judgeQuiesce i).seq i).state ≠ .recovering := by
  have signalling : ∀ x : State, ((x.enterSignalling i).seq i).state ≠ .recovering := fun x => by
    rw [State.enterSignalling, State.seq_requestSlot, State.enterSeq, State.seq_setSeq_self]
    decide
  unfold State.judgeQuiesce
  split
  · exact signalling _
  · split
    · exact signalling _
    · rw [h]; decide

/-- A sequence's work at step 5 is its two rows after the count (R162 to R164). -/
theorem State.seqWork_eq (s : State) (i : SeqId) :
    s.seqWork i = ((s.countSeq i).row (.quiesceEnd i)).row (.recoverEnd i) := by
  rw [State.row_of_steady (c := .quiesceEnd i) (Steady.quiesceStep i) (p := .step) rfl,
    State.row_of_steady (c := .recoverEnd i) (Steady.recoverStep i) (p := .step) rfl]
  unfold State.seqWork State.quiesceStep State.recoverStep
  dsimp only
  cases state : ((s.countSeq i).seq i).state with
  | quiescing => simp [State.judgeQuiesce_not_recovering state]
  | idle => simp [state]
  | signalling => simp [state]
  | recovering => simp [state]

/-- The parts that a request to a slot changes. -/
theorem State.requestSlot_eq (s : State) (i : SlotId) : s.requestSlot i = { s with
    sl := { s.sl with slots := (s.requestSlot i).sl.slots }, counters := (s.requestSlot i).counters } := by
  unfold State.requestSlot
  split <;> rfl

/-- The three answers to a request (R140). -/
theorem State.requestSlot_of_idle {s : State} {i : SlotId} (h : (s.slot i).state = .idle) :
    s.requestSlot i = s.setSlot i { s.slot i with state := .armed } := by
  simp only [State.requestSlot, h]

theorem State.requestSlot_of_sending {s : State} {i : SlotId} (h : (s.slot i).state = .sending) :
    s.requestSlot i = s.setSlot i { s.slot i with rerequest := true } := by
  simp only [State.requestSlot, h]

theorem State.requestSlot_of_waiting {s : State} {i : SlotId} (idle : (s.slot i).state ≠ .idle)
    (sending : (s.slot i).state ≠ .sending) : s.requestSlot i = s.bump .requestMerged := by
  cases h : (s.slot i).state <;> simp_all [State.requestSlot]

/-- A sequence that enters Signalling, by the state of its slot (R163). -/
theorem State.enterSignalling_spec (s : State) (i : SeqId) :
    s.enterSignalling i = { s with
      sq := { s.sq with sr := (s.enterSignalling i).sq.sr, fr := (s.enterSignalling i).sq.fr }
      sl := { s.sl with slots := (s.enterSignalling i).sl.slots }
      counters := (s.enterSignalling i).counters } ∧
    (s.enterSignalling i).seq i = { state := .signalling, count := 0 } ∧
    (∀ j, j ≠ i → (s.enterSignalling i).seq j = s.seq j) ∧
    ((s.slot (seqSlot i)).state = .idle →
      (s.enterSignalling i).sl.slots = s.sl.slots.put (seqSlot i) { s.slot (seqSlot i) with state := .armed } ∧
      (s.enterSignalling i).counters = s.counters) ∧
    ((s.slot (seqSlot i)).state = .sending →
      (s.enterSignalling i).sl.slots = s.sl.slots.put (seqSlot i) { s.slot (seqSlot i) with rerequest := true } ∧
      (s.enterSignalling i).counters = s.counters) ∧
    ((s.slot (seqSlot i)).state ≠ .idle → (s.slot (seqSlot i)).state ≠ .sending →
      (s.enterSignalling i).sl.slots = s.sl.slots ∧
      (s.enterSignalling i).counters = (s.bump .requestMerged).counters) := by
  have entered : s.enterSeq i .signalling = { s with
      sq := { s.sq with sr := (s.enterSeq i .signalling).sq.sr, fr := (s.enterSeq i .signalling).sq.fr } } := by
    cases i <;> rfl
  have slot : (s.enterSeq i .signalling).slot (seqSlot i) = s.slot (seqSlot i) := by cases i <;> rfl
  refine ⟨?_, ?_, fun j other => ?_, fun idle => ?_, fun sending => ?_, fun idle sending => ?_⟩
  · rw [State.enterSignalling, State.requestSlot_eq, entered]
  · rw [State.enterSignalling, State.seq_requestSlot]
    exact State.seq_setSeq_self _ _ _
  · rw [State.enterSignalling, State.seq_requestSlot]
    exact State.seq_setSeq_other _ _ _ _ other
  · rw [State.enterSignalling, State.requestSlot_of_idle (by rw [slot]; exact idle), slot, entered]
    exact ⟨rfl, rfl⟩
  · rw [State.enterSignalling, State.requestSlot_of_sending (by rw [slot]; exact sending), slot, entered]
    exact ⟨rfl, rfl⟩
  · rw [State.enterSignalling,
      State.requestSlot_of_waiting (by rw [slot]; exact idle) (by rw [slot]; exact sending), entered]
    exact ⟨rfl, rfl⟩

/-- The two registers of the sequences, field by field (section 11.1). -/
theorem State.sqStatus_fields (s : State) : field (s.readRegister .sqStatus) 0 2 = s.sq.sr.state.code ∧
    field (s.readRegister .sqStatus) 2 2 = s.sq.fr.state.code ∧
    field (s.readRegister .sqStatus) 16 16 = s.sq.srCount.toNat ∧
    field (s.readRegister .sqPositions) 0 16 = min 65535 s.sq.sr.count ∧
    field (s.readRegister .sqPositions) 16 16 = min 65535 s.sq.fr.count := by
  have code : ∀ x : SeqState, x.code < 4 := fun x => by cases x <;> decide
  have sr := code s.sq.sr.state
  have fr := code s.sq.fr.state
  have count := s.sq.srCount.isLt
  simp (disch := omega) [State.readRegister_sqStatus, State.sqStatus, State.readRegister_sqPositions,
    State.sqPositions, field_or, field_place,
    field_place_above, field_place_below]

/-- Settles O56: each row's condition, then what the sequence and its slot become. -/
theorem sequencesAndDrainsEnd : Obligations.SequencesAndDrainsEnd := by
  refine ⟨fun s t i count others rest => ?_, State.sqStatus_fields, fun s i quiet is => ?_⟩
  · have counted : t = s.countSeq i := by
      rw [rest]
      cases i with
      | station =>
        have full := others .full (by decide)
        simp only [State.seq] at count full
        rw [count, full]; rfl
      | full =>
        have station := others .station (by decide)
        simp only [State.seq] at count station
        rw [count, station]; rfl
    rw [counted, State.seqWork_eq]
  have quiesce := State.exec_of_steady (c := .quiesceEnd i) (s := s) (Steady.quiesceStep i) (p := .step) rfl
  have recover := State.exec_of_steady (c := .recoverEnd i) (s := s) (Steady.recoverStep i) (p := .step) rfl
  have drained := State.exec_of_steady (c := .runDrained) (s := s) Steady.drainedTest (p := .step) rfl
  have isQuiet : s.seqQuiet i = quiet := by
    rw [is]
    cases i <;> simp [State.seqQuiet, State.modelsEmpty, allGroups, inMask, groupBit]
  rw [quiesce, recover, drained, State.arrive_eq_placed]
  refine ⟨fun stays => ?_, fun quiescing ends => ?_, fun stays => ?_, fun recovering ends => ?_,
    fun draining lg ring sense tags routes => ?_, fun stays => ?_⟩
  · have kept : State.quiesceStep i s = s := by
      unfold State.quiesceStep
      split
      · next quiescing =>
        rcases stays with other | ⟨loud, early⟩
        · exact absurd quiescing other
        · rw [State.judgeQuiesce, isQuiet, loud, if_neg (by decide), if_neg (by omega)]
      · rfl
    rw [kept]
  · have enters : State.quiesceStep i s = (if quiet then s else s.bump .forcedResync).enterSignalling i := by
      rw [State.quiesceStep, if_pos quiescing, State.judgeQuiesce, isQuiet]
      cases quiet with
      | true => rfl
      | false =>
        have late : s.seqQuiesce i + s.seqExtra i ≤ (s.seq i).count := ends.resolve_left (by decide)
        rw [if_neg (by decide), if_pos late]
        rfl
    obtain ⟨b, hb⟩ : ∃ b, b = if quiet then s else s.bump .forcedResync := ⟨_, rfl⟩
    have before : b = { s with counters := b.counters } := by
      rw [hb]
      split <;> rfl
    have counters : b.counters = if quiet then s.counters else (s.bump .forcedResync).counters := by
      rw [hb]
      split <;> rfl
    have slot : b.slot (seqSlot i) = s.slot (seqSlot i) := by rw [before]; cases i <;> rfl
    have seq : ∀ j, b.seq j = s.seq j := fun j => by rw [before]; cases j <;> rfl
    have slots : b.sl = s.sl := by rw [before]
    obtain ⟨parts, own, others, idle, sending, waiting⟩ := b.enterSignalling_spec i
    rw [slot, slots] at idle sending waiting
    rw [enters, ← hb]
    generalize b.enterSignalling i = t at *
    refine ⟨_, rfl, ?_, ?_, fun j other => ?_, fun h => ?_, fun h => ?_, fun h h' => ?_⟩
    · rw [parts, before]
      rfl
    · exact Eq.trans (by cases i <;> rfl) own
    · exact Eq.trans (by cases j <;> rfl) ((others j other).trans (seq j))
    · exact ⟨(idle h).1, (idle h).2.trans counters⟩
    · exact ⟨(sending h).1, (sending h).2.trans counters⟩
    · exact ⟨(waiting h h').1, (waiting h h').2.trans (by rw [hb])⟩
  · have kept : State.recoverStep i s = s := by
      unfold State.recoverStep
      split
      · next recovering =>
        have early : (s.seq i).count < s.seqRecover i := stays.resolve_left (fun h => h recovering)
        rw [State.judgeRecover, if_neg (by omega)]
      · rfl
    rw [kept]
  · have enters : State.recoverStep i s = s.enterSeq i .idle := by
      rw [State.recoverStep, if_pos recovering, State.judgeRecover, if_pos ends]
    rw [enters]
    refine ⟨_, rfl, ?_, ?_, fun j other => ?_⟩
    · cases i <;> rfl
    · cases i <;> rfl
    · cases i <;> cases j <;> first | exact absurd rfl other | rfl
  · have all : s.rc.state = .draining ∧ s.isDrained = true := by
      simp [State.isDrained, draining, lg, ring, sense, tags, routes]
    rw [State.drainedTest, if_pos all]
    rfl
  · have kept : s.drainedTest = s := by
      refine if_neg ?_
      rintro ⟨draining, drained⟩
      simp [State.isDrained] at drained
      simp [draining, drained] at stays
    rw [kept]

/-! ### The starts (R160) and the reference generators (R47) -/

/-- A reference generator and its slot when a sequence leaves Idle (R47). -/
def Reference.onSequence (x : Reference) (y : Slot) : Reference × Slot :=
  match x.state with
  | .idle => (x, y)
  | .pending => (Reference.idle, y)
  | .requested =>
    match y.state with
    | .armed => (Reference.idle, { y with state := .idle, again := false, waits := false })
    | .guarding => (Reference.idle, { y with state := .idle, again := false, waits := false })
    | .due => ({ x with cancelled := true }, y)
    | .idle => (x, y)
    | .sending => (x, y)

/-- A generator's reaction: its own state and its slot, and of the rest nothing but a count. -/
theorem State.refOnSequence_eq (s : State) (g : RefGen) : s.refOnSequence g =
    { (s.setRef g ((s.ref g).onSequence (s.slot (refSlot g))).1).setSlot (refSlot g)
        ((s.ref g).onSequence (s.slot (refSlot g))).2 with counters := (s.refOnSequence g).counters } := by
  have sameSlot : ∀ x : State, x.setSlot (refSlot g) (x.slot (refSlot g)) = x := fun x => by cases g <;> rfl
  have sameRef : s.setRef g (s.ref g) = s := by cases g <;> rfl
  have slotOf : ∀ x, (s.setRef g x).slot (refSlot g) = s.slot (refSlot g) := fun x => by cases g <;> rfl
  have kept : ∀ x, (s.setRef g x).setSlot (refSlot g) (s.slot (refSlot g)) = s.setRef g x := fun x => by
    rw [← slotOf x, sameSlot]
  simp only [State.refOnSequence, State.refWithdraw]
  cases refState : (s.ref g).state with
  | idle => simp only [Reference.onSequence, refState, sameRef, sameSlot]
  | pending =>
    simp only [Reference.onSequence, refState, kept]
    rfl
  | requested =>
    cases slotState : (s.slot (refSlot g)).state <;>
      simp only [Reference.onSequence, refState, slotState, kept, sameRef, sameSlot] <;> cases g <;> rfl

theorem State.refOnSequence_spec (s : State) (g : RefGen) :
    s.refOnSequence g = { s with
      cs := { s.cs with
        refA := (s.refOnSequence g).cs.refA, refB := (s.refOnSequence g).cs.refB, refC := (s.refOnSequence g).cs.refC }
      sl := { s.sl with slots := (s.refOnSequence g).sl.slots }
      counters := (s.refOnSequence g).counters } ∧
    (∀ h, (s.refOnSequence g).ref h = if h = g then ((s.ref g).onSequence (s.slot (refSlot g))).1 else s.ref h) ∧
    ∀ i, (s.refOnSequence g).slot i =
      if i = refSlot g then ((s.ref g).onSequence (s.slot (refSlot g))).2 else s.slot i := by
  have does := s.refOnSequence_eq g
  generalize (s.ref g).onSequence (s.slot (refSlot g)) = after at *
  generalize s.refOnSequence g = t at *
  refine ⟨?_, fun h => ?_, fun i => ?_⟩
  · rw [does]
    cases g <;> rfl
  · rw [does]
    cases g <;> cases h <;> rfl
  · rw [does]
    cases g <;> cases i <;> rfl

/-- The generators' reactions one after another: each as if it were alone (R47). -/
theorem State.refsOnSequence_spec (s : State) :
    s.refsOnSequence = { s with
      cs := { s.cs with
        refA := s.refsOnSequence.cs.refA, refB := s.refsOnSequence.cs.refB, refC := s.refsOnSequence.cs.refC }
      sl := { s.sl with slots := s.refsOnSequence.sl.slots }
      counters := s.refsOnSequence.counters } ∧
    (∀ g, s.refsOnSequence.ref g = ((s.ref g).onSequence (s.slot (refSlot g))).1 ∧
      s.refsOnSequence.slot (refSlot g) = ((s.ref g).onSequence (s.slot (refSlot g))).2) ∧
    ∀ i, (∀ g, i ≠ refSlot g) → s.refsOnSequence.slot i = s.slot i := by
  obtain ⟨partsA, refA, slotA⟩ := s.refOnSequence_spec .a
  obtain ⟨partsB, refB, slotB⟩ := (s.refOnSequence .a).refOnSequence_spec .b
  obtain ⟨partsC, refC, slotC⟩ := ((s.refOnSequence .a).refOnSequence .b).refOnSequence_spec .c
  have all : s.refsOnSequence = ((s.refOnSequence .a).refOnSequence .b).refOnSequence .c := rfl
  rw [all]
  refine ⟨?_, fun g => ?_, fun i other => ?_⟩
  · rw [partsC, partsB, partsA]
  · rw [refC, slotC, refB, slotB, refB, slotB, refA, slotA, refA, slotA, refA, slotA]
    cases g <;> exact ⟨rfl, rfl⟩
  · rw [slotC, if_neg (other .c), slotB, if_neg (other .b), slotA, if_neg (other .a)]

theorem State.refsOnSequence_counts (s : State) {k : Ctr} (h : k.offset ≠ Ctr.refCancelled.offset) :
    s.counts s.refsOnSequence k 0 := by
  have one : ∀ (s : State) (g : RefGen), s.counts (s.refOnSequence g) k 0 := fun s g => by
    have cancel : ∀ x : State, x.counters = s.counters → s.counts (x.refCancel g) k 0 := fun x same => by
      have counted := State.counts.bump_other (x.setRef g Reference.idle) .refCancelled h
      exact (State.counts.of_eq (t := x.setRef g Reference.idle) (by cases g <;> exact same)).trans counted
    unfold State.refOnSequence State.refWithdraw
    split
    · exact State.counts.of_eq rfl
    · split
      · exact cancel _ rfl
      · exact cancel _ rfl
      · exact State.counts.of_eq (by cases g <;> rfl)
      · exact State.counts.of_eq rfl
      · exact State.counts.of_eq rfl
    · exact cancel _ rfl
  have all := State.counts.foldl one allRefs s
  rwa [Nat.mul_zero] at all

theorem Steady.refOnSequence (g : RefGen) : Steady (·.refOnSequence g) := fun s p e => by
  have ref : (s.placed p e).ref g = s.ref g := by cases g <;> rfl
  have slot : (s.placed p e).slot (refSlot g) = s.slot (refSlot g) := rfl
  simp only [State.refOnSequence, State.refWithdraw, ref, slot]
  cases (s.ref g).state with
  | idle => rfl
  | pending => cases g <;> rfl
  | requested => cases (s.slot (refSlot g)).state <;> cases g <;> rfl

theorem Steady.refsOnSequence : Steady State.refsOnSequence := Steady.foldl Steady.refOnSequence allRefs

theorem Steady.preempt : Steady State.preempt :=
  Steady.ite (c := fun s => s.sq.sr.state = .idle) (fun _ _ _ => Iff.rfl) Steady.id
    (((Steady.enterSeq .station .idle).comp (Steady.bump .srPreempted)).comp (Steady.forceWithdraw .stationReset))

theorem Steady.startFull : Steady State.startFull :=
  ((((Steady.setSeqDemand .full false).comp Steady.preempt).comp (Steady.enterSeq .full .quiescing)).comp
    (Steady.bump .frStarts)).comp Steady.refsOnSequence

theorem Steady.startStation : Steady State.startStation :=
  (((Steady.setSeqDemand .station false).comp (Steady.enterSeq .station .quiescing)).comp
    (Steady.bump .srStarts)).comp Steady.refsOnSequence

theorem Steady.closed (c u : Nat) (x : Bool) (m : List Byte) : Steady (·.closed c u x m) := fun s p e => by
  by_cases room : s.sl.routeQ.length < 8
  · have room' : (s.placed p e).sl.routeQ.length < 8 := room
    cases x <;> simp only [State.closed, room, room', if_true] <;> rfl
  · have room' : ¬ (s.placed p e).sl.routeQ.length < 8 := room
    cases x <;> simp only [State.closed, room, room', if_false] <;> rfl

theorem Steady.flushRoute : Steady State.flushRoute := fun s p e => by
  unfold State.flushRoute
  have count : (s.placed p e).br = s.br := rfl
  have next : ∀ i, (s.placed p e).nextRoute i = s.nextRoute i := fun _ => rfl
  have veto : ∀ i, (s.placed p e).routeVeto i = s.routeVeto i := fun _ => rfl
  rw [count]
  split
  · rfl
  · rw [State.closeBatch_eq, State.closeBatch_eq, count, next, veto]
    split
    · split
      · exact Steady.closed _ _ _ _ s p e
      · exact Steady.closed _ _ _ _ s p e
    · exact Steady.closed _ _ _ _ s p e

/-- The parts that a flush changes; the open batch is empty after it. -/
theorem State.flushRoute_spec (s : State) : s.flushRoute = { s with
      br := s.flushRoute.br, sl := { s.sl with routeQ := s.flushRoute.sl.routeQ }, counters := s.flushRoute.counters
      rc := { s.rc with flags := s.flushRoute.rc.flags } } ∧
    s.flushRoute.br.openCount = 0 := by
  unfold State.flushRoute
  split
  · next empty => exact ⟨rfl, empty⟩
  · rw [State.closeBatch_eq]
    split
    · split <;> exact ⟨rfl, rfl⟩
    · exact ⟨rfl, rfl⟩

/-- A Full Resync at its start, before the generators react (R160, R161). -/
def State.fullBegun (s : State) : State :=
  ((s.setSeqDemand .full false).preempt.enterSeq .full .quiescing).bump .frStarts

/-- The Station Resync of a Full Resync that starts ended (R161). -/
def State.preempted (s : State) : State := (s.setSeqDemand .full false).enterSeq .station .idle

/-- A Station Resync at its start, before the generators react (R160). -/
def State.stationBegun (s : State) : State :=
  ((s.setSeqDemand .station false).enterSeq .station .quiescing).bump .srStarts

/-- The parts that the start of a Full Resync changes, the preempted Station Resync and its slot among them. -/
theorem State.fullBegun_spec (s : State) : s.fullBegun = { s with
      sq := { s.sq with
        demandFr := false, fr := { state := .quiescing, count := 0 }
        sr := if s.sq.sr.state = .idle then s.sq.sr else { state := .idle, count := 0 } }
      sl := { s.sl with slots := s.fullBegun.sl.slots }, counters := s.fullBegun.counters } ∧
    (∀ i, s.fullBegun.slot i = if i = .stationReset ∧ s.sq.sr.state ≠ .idle then (s.slot i).withdrawn else s.slot i) ∧
    s.counts s.fullBegun .frStarts 1 ∧
    s.counts s.fullBegun .srPreempted (if s.sq.sr.state = .idle then 0 else 1) := by
  by_cases idle : s.sq.sr.state = .idle
  · have does : s.fullBegun = ((s.setSeqDemand .full false).enterSeq .full .quiescing).bump .frStarts := by
      rw [State.fullBegun, State.preempt, if_pos (by exact idle)]
    rw [does, if_pos idle, if_pos idle]
    refine ⟨rfl, fun i => ?_, ?_, ?_⟩
    · rw [if_neg fun h => h.2 idle]
      cases i <;> rfl
    · exact State.counts.bumpBy ((s.setSeqDemand .full false).enterSeq .full .quiescing) .frStarts 1
    · exact State.counts.bump_other ((s.setSeqDemand .full false).enterSeq .full .quiescing) .frStarts (by decide)
  · have does : s.fullBegun = ((((s.preempted.bump .srPreempted).setSlot .stationReset
        (s.slot .stationReset).withdrawn).enterSeq .full .quiescing).bump .frStarts) := by
      rw [State.fullBegun, State.preempt, if_neg (by exact idle), State.forceWithdraw_eq]
      rfl
    have first := State.counts.bumpBy s.preempted .srPreempted 1
    have other := State.counts.bump_other s.preempted .srPreempted (k := .frStarts) (by decide)
    rw [does, if_neg idle, if_neg idle]
    obtain ⟨c, hc⟩ : ∃ c, s.preempted.bump .srPreempted = { s.preempted with counters := c } := ⟨_, rfl⟩
    rw [show s.preempted.bumpBy .srPreempted 1 = _ from hc] at first
    rw [hc] at other ⊢
    refine ⟨?_, fun i => ?_, ?_, ?_⟩
    · simp only [State.bump, State.bumpBy, State.setSlot, State.enterSeq, State.setSeq, State.preempted,
        State.setSeqDemand]
    · have same : ∀ x : State, x.sl = s.sl → (((x.setSlot .stationReset (s.slot .stationReset).withdrawn).enterSeq .full
          .quiescing).bump .frStarts).slot i =
          if i = .stationReset ∧ s.sq.sr.state ≠ .idle then (s.slot i).withdrawn else s.slot i := by
        intro x hx
        by_cases here : i = .stationReset
        · rw [if_pos ⟨here, idle⟩, here]
          rfl
        · rw [if_neg fun h => here h.1]
          exact (State.slot_setSlot_other x _ i _ here).trans (by cases i <;> simp only [State.slot, hx])
      exact same _ rfl
    · exact State.counts.trans (m := 0) (t := { s.preempted with counters := c }) other
        (State.counts.bumpBy _ .frStarts 1)
    · exact State.counts.trans (n := 0) (t := { s.preempted with counters := c }) first
        (State.counts.bump_other _ .frStarts (by decide))

theorem State.stationBegun_spec (s : State) : s.stationBegun = { s with
      sq := { s.sq with demandSr := false, sr := { state := .quiescing, count := 0 } }
      counters := s.stationBegun.counters } ∧ s.counts s.stationBegun .srStarts 1 :=
  ⟨rfl, State.counts.bumpBy ((s.setSeqDemand .station false).enterSeq .station .quiescing) .srStarts 1⟩

/-- The start tests, read as conditions (R160). -/
theorem State.fullStarts_iff (s : State) : s.fullStarts = true ↔ s.sq.demandFr = true ∧ s.sq.fr.state = .idle ∧
    s.lp.cycleIndex = s.seqStart .full ∧ (s.rc.state = .halted ∨ s.rc.state = .running) := by
  simp [State.fullStarts, State.seqsMayStart, and_assoc]

theorem State.stationStarts_iff (s : State) : s.stationStarts = true ↔ s.sq.demandSr = true ∧ s.sq.sr.state = .idle ∧
    s.sq.fr.state = .idle ∧ s.lp.cycleIndex = s.seqStart .station ∧ (s.rc.state = .halted ∨ s.rc.state = .running) := by
  simp [State.stationStarts, State.seqsMayStart, and_assoc]

/-- A generator's reaction, state by state (R47). -/
theorem Reference.onSequence_pending {x : Reference} {y : Slot} (h : x.state = .pending) :
    x.onSequence y = (Reference.idle, y) := by
  simp only [Reference.onSequence, h]

theorem Reference.onSequence_withdrawn {x : Reference} {y : Slot} (h : x.state = .requested)
    (slot : y.state = .armed ∨ y.state = .guarding) :
    x.onSequence y = (Reference.idle, { y with state := .idle, again := false, waits := false }) := by
  rcases slot with slot | slot <;> simp only [Reference.onSequence, h, slot]

theorem Reference.onSequence_due {x : Reference} {y : Slot} (h : x.state = .requested) (slot : y.state = .due) :
    x.onSequence y = ({ x with cancelled := true }, y) := by
  simp only [Reference.onSequence, h, slot]

/-- The row FULL_RESYNC_START, wherever it stands. -/
def State.fullStep (s : State) : State := if s.fullStarts = true then s.startFull.flushRoute else s

/-- The row STATION_RESYNC_START, wherever it stands. -/
def State.stationStep (s : State) : State := if s.stationStarts = true then s.startStation else s

theorem Steady.fullStep : Steady State.fullStep :=
  Steady.ite (c := fun s => s.fullStarts = true)
    (fun _ _ _ => Iff.rfl) (Steady.startFull.comp Steady.flushRoute) Steady.id

theorem Steady.stationStep : Steady State.stationStep :=
  Steady.ite (c := fun s => s.stationStarts = true) (fun _ _ _ => Iff.rfl) Steady.startStation Steady.id

/-- Settles O55: the conditions of the starts, then the stages of a start. -/
theorem sequencesStart : Obligations.SequencesStart := by
  refine ⟨fun s t full =>
    ⟨fun set here due => ?_, fun stays => ?_, fun is => ⟨fun notFull => ?_, fun isFull after => ?_⟩⟩,
    fun s g tables => ?_⟩
  · exact if_pos ⟨set, here, due⟩
  · refine if_neg ?_
    rintro ⟨set, here, due⟩
    rcases stays with zero | off | odd
    · exact set zero
    · exact off here
    · exact odd due
  · have no : s.fullStarts = false := by
      rw [← notFull, is]
      rfl
    rw [State.row_of_steady (c := .stationResyncStart) Steady.stationStep (p := .step) rfl]
    simp only [State.seqStarts, no, Bool.false_eq_true, if_false]
    rfl
  · have yes : s.fullStarts = true := by
      rw [← isFull, is]
      rfl
    obtain ⟨parts, -, -, -⟩ := s.fullBegun_spec
    obtain ⟨reacted, -, -⟩ := s.fullBegun.refsOnSequence_spec
    have started : s.startFull = s.fullBegun.refsOnSequence := rfl
    rw [parts] at reacted
    have only : t = s.startFull := by
      have busy : s.startFull.stationStarts = false := by
        have state : s.startFull.sq.fr.state = .quiescing := by rw [started, parts, reacted]
        refine Bool.eq_false_iff.mpr fun h => ?_
        obtain ⟨-, -, idle, -⟩ := (State.stationStarts_iff _).mp h
        exact absurd (state.symm.trans idle) (by decide)
      rw [after]
      simp only [State.seqStarts, yes, busy, if_true, Bool.false_eq_true, if_false]
    rw [State.row_of_steady (c := .fullResyncStart) Steady.fullStep (p := .step) rfl, State.fullStep, if_pos yes, only,
      started]
    refine ⟨rfl, ?_, ?_, ?_⟩ <;> rw [parts, reacted]
  have fullRow := State.exec_of_steady (c := .fullResyncStart) (s := s) Steady.fullStep (p := .step) rfl
  have stationRow := State.exec_of_steady (c := .stationResyncStart) (s := s) Steady.stationStep (p := .step) rfl
  have counters := State.counters_canonical tables
  rw [fullRow, stationRow, State.arrive_eq_placed]
  refine ⟨fun stays => ?_, fun stays => ?_, fun demand idle here may => ?_, fun demand idle fullIdle here may => ?_⟩
  · have no : ¬ s.fullStarts = true := fun h => by
      obtain ⟨demand, idle, here, may⟩ := s.fullStarts_iff.mp h
      simp [demand, idle, here] at stays
      rcases may with may | may <;> simp [may] at stays
    rw [State.fullStep, if_neg no]
  · have no : ¬ s.stationStarts = true := fun h => by
      obtain ⟨demand, idle, fullIdle, here, may⟩ := s.stationStarts_iff.mp h
      simp [demand, idle, fullIdle, here] at stays
      rcases may with may | may <;> simp [may] at stays
    rw [State.stationStep, if_neg no]
  · obtain ⟨begun, slot, starts, preempts⟩ := s.fullBegun_spec
    obtain ⟨reacted, refs, others⟩ := s.fullBegun.refsOnSequence_spec
    obtain ⟨flushed, empty⟩ := s.fullBegun.refsOnSequence.flushRoute_spec
    have count : ∀ {k : Ctr} {n : Nat}, k = .frStarts ∨ k = .srPreempted → s.counts s.fullBegun k n →
        s.fullBegun.refsOnSequence.flushRoute.counter k = s.counter k + BitVec.ofNat 32 n := by
      intro k n hk begun
      have reacts : s.fullBegun.counts s.fullBegun.refsOnSequence k 0 :=
        State.refsOnSequence_counts _ (by rcases hk with rfl | rfl <;> decide)
      have flush : s.fullBegun.refsOnSequence.counts s.fullBegun.refsOnSequence.flushRoute k 0 :=
        State.flushRoute_counts _ fun c hc => by
          rcases hk with rfl | rfl <;> rcases hc with rfl | rfl | rfl | rfl <;> decide
      exact (((begun.trans reacts).trans flush) counters).2
    have frCount := count (.inl rfl) starts
    have srCount := count (.inr rfl) preempts
    have refSame : s.fullBegun.ref g = s.ref g := by rw [begun]; cases g <;> rfl
    have slotSame : s.fullBegun.slot (refSlot g) = s.slot (refSlot g) := by
      rw [slot, if_neg fun h => by cases g <;> exact absurd h.1 (by decide)]
    obtain ⟨ref, ownSlot⟩ := refs g
    rw [refSame, slotSame] at ref ownSlot
    have station := others .stationReset fun h => by cases h <;> decide
    rw [slot] at station
    have enters : State.fullStep s = s.fullBegun.refsOnSequence.flushRoute :=
      if_pos (s.fullStarts_iff.mpr ⟨demand, idle, here, may⟩)
    rw [enters]
    have slots : s.fullBegun.refsOnSequence.flushRoute.sl.slots = s.fullBegun.refsOnSequence.sl.slots := by rw [flushed]
    have cs : s.fullBegun.refsOnSequence.flushRoute.cs = s.fullBegun.refsOnSequence.cs := by rw [flushed]
    generalize s.fullBegun.refsOnSequence.flushRoute = t at *
    generalize s.fullBegun.refsOnSequence = r at *
    generalize s.fullBegun = b at *
    have slotOf : ∀ i, (t.placed .step (s.earlierAt .step)).slot i = r.slot i := fun i =>
  by
      cases i <;> simp only [State.slot, State.placed, slots]
    have refOf : (t.placed .step (s.earlierAt .step)).ref g = r.ref g := by
      cases g <;> simp only [State.ref, State.placed, cs]
    refine ⟨_, rfl, ?_, empty, frCount, ?_, fun active notSending => ?_, fun pending => ?_,
      fun requested state => ?_, fun requested due => ?_⟩
    · rw [flushed, reacted, begun]
      rfl
    · refine srCount.trans (congrArg (s.counter .srPreempted + ·) ?_)
      split <;> rfl
    · rw [slotOf, station, if_pos ⟨rfl, active⟩, Slot.withdrawn_state, if_neg notSending]
    · rw [refOf, ref, Reference.onSequence_pending pending]
    · rw [refOf, slotOf, ref, ownSlot, Reference.onSequence_withdrawn requested state]
      exact ⟨rfl, rfl⟩
    · rw [refOf, slotOf, ref, ownSlot, Reference.onSequence_due requested due]
      exact ⟨rfl, rfl⟩
  · obtain ⟨begun, starts⟩ := s.stationBegun_spec
    obtain ⟨reacted, refs, -⟩ := s.stationBegun.refsOnSequence_spec
    have reacts : s.stationBegun.counts s.stationBegun.refsOnSequence .srStarts 0 :=
      State.refsOnSequence_counts _ (by decide)
    have srCount := ((starts.trans reacts) counters).2
    have refSame : s.stationBegun.ref g = s.ref g := by rw [begun]; cases g <;> rfl
    have slotSame : s.stationBegun.slot (refSlot g) = s.slot (refSlot g) := by rw [begun]; cases g <;> rfl
    obtain ⟨ref, slot⟩ := refs g
    rw [refSame, slotSame] at ref slot
    have enters : State.stationStep s = s.stationBegun.refsOnSequence :=
      if_pos (s.stationStarts_iff.mpr ⟨demand, idle, fullIdle, here, may⟩)
    rw [enters]
    generalize s.stationBegun.refsOnSequence = r at *
    generalize s.stationBegun = b at *
    have refOf : (r.placed .step (s.earlierAt .step)).ref g = r.ref g := by cases g <;> rfl
    refine ⟨_, rfl, ?_, srCount, fun pending => ?_, fun requested state => ?_, fun requested due => ?_⟩
    · rw [reacted, begun]
      rfl
    · rw [refOf, ref, Reference.onSequence_pending pending]
    · rw [refOf, ref, Reference.onSequence_withdrawn requested state]
      exact ⟨rfl, (congrArg Slot.state slot).trans (by rw [Reference.onSequence_withdrawn requested state])⟩
    · rw [refOf, ref, Reference.onSequence_due requested due]
      exact ⟨rfl, slot.trans (by rw [Reference.onSequence_due requested due])⟩

end Sys2Proof.Machine
end

section
/-! SUPPORT. The selection of the next frame (R146): which frame starts, and what its start leaves. -/

namespace Sys2Proof.Machine

/-! ### Frames -/

/-- A frame's start, said with the drained test that follows it (R169). -/
theorem State.startFrame_eq (s : State) (f : Frame) : s.startFrame f = (s.frameBegun f).drainedTest := rfl

theorem allSlots_split (i : SlotId) : allSlots = higherSlots i ++ i :: lowerSlots i := by cases i <;> rfl

/-- FRAME_SELECTION is the selection among what was startable at the edge before (log 29). -/
theorem exec_frameSelection (o : State) : exec .frameSelection o =
    .next ((o.arrive .selection).select (o.arrive .selection).sl.earlier).closeEdge := rfl

section
variable {s : State} {e : Startable}

/-- The Due slot of highest priority that may start is the one that starts (R146, line 1). -/
theorem State.select_slot {i : SlotId} (idle : s.sl.link = .idle) (enabled : s.linkEnabled = true)
    (due : (s.slot i).state = .due) (now : (s.slot i).waits = false) (old : i ∈ e.slots)
    (first : ∀ j ∈ higherSlots i, (s.slot j).state ≠ .due ∨ (s.slot j).waits = true ∨ j ∉ e.slots) :
    s.select e = s.startSlot i := by
  have found : allSlots.find? (s.startable e) = some i := by
    refine List.find?_eq_some_iff_append.mpr ⟨by simp [State.startable, State.dueNow, due, now, old], higherSlots i,
      lowerSlots i, allSlots_split i, fun j hj => ?_⟩
    rcases first j hj with h | h | h <;> simp [State.startable, State.dueNow, h]
  rw [State.select, if_pos ⟨idle, enabled⟩, found]

/-- Where no slot may start, the free frames follow unless a slot keeps the link (R146, line 2). -/
theorem State.select_free (idle : s.sl.link = .idle) (enabled : s.linkEnabled = true)
    (none : ∀ i ∈ e.slots, (s.slot i).state ≠ .due ∨ (s.slot i).waits = true) :
    s.select e = if allSlots.any s.guards = true then s else s.startFree e := by
  have absent : allSlots.find? (s.startable e) = .none := by
    refine List.find?_eq_none.mpr fun j _ => ?_
    have := none j
    simp only [State.startable, State.dueNow, Bool.and_eq_true, beq_iff_eq, List.contains_eq_mem, decide_eq_true_eq,
      Bool.not_eq_true']
    rintro ⟨⟨due, now⟩, old⟩
    rcases this old with h | h
    · exact h due
    · exact absurd (now.symm.trans h) (by decide)
  rw [State.select, if_pos ⟨idle, enabled⟩, absent]

end

/-! ### The frames of the slots -/

/-- Every model of a mask cleared at once (R71). -/
theorem State.clearModels_eq (s : State) (mask : BitVec 4) : s.clearModels mask = { s with ad := { s.ad with
    modelA := if inMask mask .a = true then Model.empty else s.ad.modelA
    modelB := if inMask mask .b = true then Model.empty else s.ad.modelB
    modelC := if inMask mask .c = true then Model.empty else s.ad.modelC
    modelD := if inMask mask .d = true then Model.empty else s.ad.modelD } } := by
  have one : ∀ (x : State) (g : Group), (if inMask mask g = true then x.clearModel g else x) =
      x.setModel g (if inMask mask g = true then Model.empty else x.model g) := fun x g => by
    split
    · rfl
    · cases g <;> rfl
  simp only [State.clearModels, allGroups, List.foldl, one]
  rfl

/-- A sequence in Signalling goes on to Recovering (R163). -/
theorem State.recoverFrom_eq (s : State) (i : SeqId) : s.recoverFrom i =
    s.setSeq i (if (s.seq i).state = SeqState.signalling then { state := .recovering, count := 0 } else s.seq i) := by
  unfold State.recoverFrom
  split
  · rfl
  · cases i <;> rfl

/-- The two reset frames (R147, R163). -/
theorem State.startFullReset_eq (s : State) : s.startFullReset = ({ s with
      ad := { s.ad with
        nextId := 0#24, epoch := s.ad.epoch + 1#4
        modelA := Model.empty, modelB := Model.empty, modelC := Model.empty, modelD := Model.empty }
      rc := { s.rc with countRestart := false }
      lg := { s.lg with window := [] }
      sq := { s.sq with
        fr :=
          if s.sq.fr.state = SeqState.signalling then { state := .recovering, count := 0 } else s.sq.fr } }).startFrame
    { kind := 2#4, addr := 0#4, payload := [0#4 ++ (s.ad.epoch + 1#4), 0#8] } := by
  simp only [State.startFullReset, State.recoverFrom_eq, State.clearModels_eq]
  rfl

theorem State.startStationReset_eq (s : State) : s.startStationReset = ({ s with
      ad := { s.ad with
        modelA := if inMask s.srGroups .a = true then Model.empty else s.ad.modelA
        modelB := if inMask s.srGroups .b = true then Model.empty else s.ad.modelB
        modelC := if inMask s.srGroups .c = true then Model.empty else s.ad.modelC
        modelD := if inMask s.srGroups .d = true then Model.empty else s.ad.modelD }
      sq := { s.sq with
        srCount := s.sq.srCount + 1#16
        sr :=
          if s.sq.sr.state = SeqState.signalling then { state := .recovering, count := 0 } else s.sq.sr } }).startFrame
    { kind := 3#4, addr := 0#4, payload := [0#4 ++ s.srGroups, (s.sq.srCount + 1#16).extractLsb' 0 8] } := by
  simp only [State.startStationReset, State.recoverFrom_eq, State.clearModels_eq]
  rfl

/-- Settles O49: the slot selected, then the effects of its frame's start. -/
theorem anchoredFramesStart : Obligations.AnchoredFramesStart := by
  rintro o s d i g hs idle enabled due now old first rfl
  have selected := exec_frameSelection o
  rw [← hs, State.select_slot idle enabled due now old first] at selected
  rw [selected]
  clear selected hs
  refine ⟨?_, ?_, ?_, ?_, ?_, ?_⟩
  · rintro rfl keep
    have kept : (s.sendSlot .cycleMark).rc.countRestart = false := keep
    simp only [State.startSlot, State.startMark, kept, Bool.false_eq_true, if_false, State.startFrame_eq]
    rfl
  · rintro rfl restart
    have restarts : (s.sendSlot .cycleMark).rc.countRestart = true := restart
    simp only [State.startSlot, State.startMark, restarts, if_true, State.startFrame_eq]
    rfl
  · rintro rfl
    simp only [State.startSlot, State.startFullReset_eq, State.startFrame_eq]
    rfl
  · rintro rfl
    simp only [State.startSlot, State.startStationReset_eq, State.startFrame_eq]
    rfl
  · rintro rfl requested
    have own : (s.sendSlot (refSlot g)).ref g = s.ref g := by cases g <;> rfl
    have starts : s.startSlot (refSlot g) = (s.sendSlot (refSlot g)).startPrepare g := by cases g <;> rfl
    rw [starts, State.startPrepare, State.prepare, own, if_pos requested]
    refine ⟨fun keep sr fr => ?_, fun cancel => ?_⟩
    · have quiet : ¬ ((s.ref g).cancelled = true ∨ (s.sendSlot (refSlot g)).seqActive = true) := by
        have quiet : (s.sendSlot (refSlot g)).seqActive = s.seqActive := rfl
        simp [State.seqActive, keep, sr, fr]
      rw [if_neg quiet]
      cases g <;> rfl
    · have active : (s.ref g).cancelled = true ∨ (s.sendSlot (refSlot g)).seqActive = true := by
        have active : (s.sendSlot (refSlot g)).seqActive = s.seqActive := rfl
        rw [active]
        simpa [State.seqActive] using cancel
      rw [if_pos active]
      cases g <;> rfl
  · rintro rfl
    rfl

/-! ### Free frames (R146, lines 3 to 7) -/

section
variable {s : State} {e : Startable} {m : List Byte} {rest : List (List Byte)}

theorem State.startFree_route (queue : s.sl.routeQ = m :: rest) (old : e.route = true) : s.startFree e =
    ({ s with sl := { s.sl with routeQ := rest } }).startFrame { kind := 6#4, addr := 0#4, payload := m } := by
  simp only [State.startFree, queue, old]

theorem State.startFree_tag (route : s.sl.routeQ = [] ∨ e.route = false) (queue : s.sl.tagQ = m :: rest)
    (old : e.tag = true) : s.startFree e =
      ({ s with sl := { s.sl with tagQ := rest } }).startFrame { kind := 7#4, addr := 0#4, payload := m } := by
  unfold State.startFree
  split
  · next waiting old => rcases route with h | h <;> simp_all
  · simp only [queue, old]

theorem State.startFree_notice (route : s.sl.routeQ = [] ∨ e.route = false) (tag : s.sl.tagQ = [] ∨ e.tag = false)
    (queue : s.sl.noticeQ = m :: rest) (old : e.notice = true) : s.startFree e =
      ({ s with sl := { s.sl with noticeQ := rest } }).startFrame { kind := 8#4, addr := 0#4, payload := m } := by
  unfold State.startFree
  split
  · next waiting old => rcases route with h | h <;> simp_all
  · split
    · next waiting old => rcases tag with h | h <;> simp_all
    · simp only [queue, old]

theorem State.startFree_poll (route : s.sl.routeQ = [] ∨ e.route = false) (tag : s.sl.tagQ = [] ∨ e.tag = false)
    (notice : s.sl.noticeQ = [] ∨ e.notice = false) :
    s.startFree e = if s.sl.pollDue = true then s.takePoll else s := by
  unfold State.startFree
  split
  · next waiting old => rcases route with h | h <;> simp_all
  · split
    · next waiting old => rcases tag with h | h <;> simp_all
    · split
      · next waiting old => rcases notice with h | h <;> simp_all
      · rfl

end

/-! ### The address of a poll (R133) -/

/-- A search upwards from `k` finds the first number that will do. -/
theorem find_upwards {p : Nat → Bool} {k n a : Nat} (low : k ≤ a) (high : a < n + k) (good : p a = true)
    (before : ∀ b < a, k ≤ b → p b = false) : ((List.range n).map (· + k)).find? p = some a := by
  rw [List.find?_map, Option.map_eq_some_iff]
  refine ⟨a - k, List.find?_range_eq_some.mpr ⟨?_, ?_, fun j hj => ?_⟩, ?_⟩
  · simpa [Nat.sub_add_cancel low] using good
  · exact List.mem_range.mpr (by omega)
  · simpa using before (j + k) (by omega) (by omega)
  · omega

theorem find_upwards_none {p : Nat → Bool} {k n : Nat} (bad : ∀ b < n + k, k ≤ b → p b = false) :
    ((List.range n).map (· + k)).find? p = none := by
  simp only [List.find?_eq_none, List.mem_map, List.mem_range]
  rintro _ ⟨j, hj, rfl⟩
  simp [bad (j + k) (by omega) (by omega)]

/-- An address found in the turn under way. -/
theorem State.pollSearch_thisTurn {s : State} {a : Nat} (low : s.sl.lastPolled < a) (high : a ≤ 15)
    (good : s.pollable s.sl.turn a = true) (before : ∀ b < a, s.sl.lastPolled < b → s.pollable s.sl.turn b = false) :
    s.pollSearch = some (a, s.sl.turn) := by
  have found : ((List.range (15 - s.sl.lastPolled)).map (· + s.sl.lastPolled + 1)).find? (s.pollable s.sl.turn) =
      some a := find_upwards (k := s.sl.lastPolled + 1) low (by omega) good before
  rw [State.pollSearch, found]

/-- The search of the next turn, where the turn under way has no address left. -/
theorem State.pollSearch_nextTurn {s : State}
    (done : ∀ b < 16, s.sl.lastPolled < b → s.pollable s.sl.turn b = false) :
    s.pollSearch = (((List.range s.sl.lastPolled).map (· + 1)).find? (s.pollable ((s.sl.turn + 1) % 16))).map
      fun a => (a, (s.sl.turn + 1) % 16) := by
  have absent : ((List.range (15 - s.sl.lastPolled)).map (· + s.sl.lastPolled + 1)).find? (s.pollable s.sl.turn) =
      none := find_upwards_none (k := s.sl.lastPolled + 1) fun b hb low => done b (by omega) low
  rw [State.pollSearch, absent]

/-- Settles O50: the place of the row, what is startable, then the sources of a frame in their order. -/
theorem freeFramesStartInOrder : Obligations.FreeFramesStartInOrder := by
  rintro o s m rest a turn hs
  have selection := exec_frameSelection o
  rw [← hs] at selection
  rw [selection]
  refine ⟨fun p => o.arrive_eq p, fun p q => ?_, fun stays => ?_, rfl, fun i => ?_, ?_, ?_, ?_, fun k b => ?_,
    fun idle enabled => ⟨?_, ?_⟩⟩
  · cases p <;> cases q <;> decide
  · have kept : s.select s.sl.earlier = s := by
      refine if_neg ?_
      rintro ⟨idle, enabled⟩
      rcases stays with busy | off
      · exact busy idle
      · exact absurd (enabled.symm.trans off) (by decide)
    rw [kept]
  · simp [State.startableNow, State.dueNow, mem_allSlots]
  · simp [State.startableNow]
  · simp [State.startableNow]
  · simp [State.startableNow]
  · unfold State.pollable
    cases (s.station (b - 1)).state <;> simp
  · rintro ⟨i, guards⟩ notNow
    have keeps : allSlots.any s.guards = true :=
      List.any_eq_true.mpr ⟨i, mem_allSlots i, by simpa [State.guards] using guards⟩
    rw [State.select_free idle enabled notNow, if_pos keeps]
  · intro free
    have clear : ¬ allSlots.any s.guards = true := by
      intro keeps
      obtain ⟨i, -, guards⟩ := List.any_eq_true.mp keeps
      simp [State.guards, free i] at guards
    rw [State.select_free idle enabled fun i _ => .inl (free i).1, if_neg clear]
    refine ⟨fun queue old => ?_, fun route queue old => ?_, fun route tag queue old => ?_,
      fun route tag notice => ⟨fun none => ?_, fun poll => ⟨fun address => ?_, fun this next => ?_⟩⟩⟩
    · rw [State.startFree_route queue old]
      rfl
    · rw [State.startFree_tag route queue old]
      rfl
    · rw [State.startFree_notice route tag queue old]
      rfl
    · rw [State.startFree_poll route tag notice, none]
      rfl
    · have search : s.pollSearch = some (a, turn) := by
        rcases address with ⟨low, high, rfl, good, before⟩ | ⟨low, high, rfl, good, done, before⟩
        · exact State.pollSearch_thisTurn low high good before
        · rw [State.pollSearch_nextTurn done, find_upwards low (by omega) good before]
          rfl
      have search' : ({ s with sl := { s.sl with pollDue := false } } : State).pollSearch = some (a, turn) := search
      rw [State.startFree_poll route tag notice, if_pos poll]
      simp only [State.takePoll, search']
      rfl
    · have search : s.pollSearch = .none := by
        rw [State.pollSearch_nextTurn this, find_upwards_none fun b hb low => next b (by omega) low]
        rfl
      have search' : ({ s with sl := { s.sl with pollDue := false } } : State).pollSearch = .none := search
      rw [State.startFree_poll route tag notice, if_pos poll]
      simp only [State.takePoll, search']
      rfl

end Sys2Proof.Machine
end

section
/-! SUPPORT. The inputs of the line (sections 2.2, 2.3, 2.5 and 3.2) and steps 1 and 2 of a position event (R23 to
R27). -/

namespace Sys2Proof.Machine

/-! ### Steps and edges -/

section
variable {s : State}

/-- A position offered to the accumulator (R21). -/
theorem State.offerPosition_of_room (h : s.lp.acc < 4) :
    s.offerPosition = { s with lp := { s.lp with acc := s.lp.acc + 1 } } := if_pos h

theorem State.offerPosition_of_full (h : 4 ≤ s.lp.acc) :
    s.offerPosition = (s.bump .stepOverrun).raiseFault .lineAnomaly := if_neg (Nat.not_lt.mpr h)

/-- A forward step, by the debt it settles against (R20). -/
theorem State.forwardStep_of_debt (h : 1 < s.lp.debt) :
    s.forwardStep = { s with lp := { s.lp with debt := s.lp.debt - 1 } } := by
  rw [State.forwardStep, if_neg (by omega), if_neg (by omega)]

theorem State.forwardStep_of_last (h : s.lp.debt = 1) :
    s.forwardStep = { s with lp := { s.lp with debt := 0, reverseSat := false } } := by
  rw [State.forwardStep, if_neg (by omega), if_pos h]

theorem State.forwardStep_of_none (h : s.lp.debt = 0) : s.forwardStep = s.offerPosition := if_pos h

/-- SENSE is taken in neither Halted nor Draining, and only with the intake on (R34). -/
theorem State.intakeOpen_eq : s.intakeOpen = (s.senseIntake && (s.rc.state == .running || s.rc.state == .faulted)) :=
    rfl

end

/-- Settles O34: the source, then the debt and the accumulator; the intake, then its span. -/
theorem recognisedInputsAreSettled : Obligations.RecognisedInputsAreSettled := by
  intro s f n
  have encoder : ∀ f, exec (.encoderStep f) s = .next ((s.arrive .encoder).takeStep f) := fun _ => rfl
  have index : exec .indexEdge s = .next (s.arrive .index).takeIndexEdge := rfl
  have generator : exec .generatorStep s = .next (
      if (s.arrive .generator).lp.genTimer.isSome = true then
        ({ s.arrive .generator with lp := { (s.arrive .generator).lp with genTimer := some 0 } } : State).forwardStep
      else s.arrive .generator) := rfl
  have sense : exec .senseEdge s = .next (s.arrive .sense).takeSense := rfl
  simp only [encoder, index, generator, sense]
  simp only [State.arrive_eq_placed]
  generalize s.earlierAt .encoder = atEncoder
  generalize s.earlierAt .index = atIndex
  generalize s.earlierAt .generator = atGenerator
  generalize s.earlierAt .sense = atSense
  refine ⟨fun internal => ⟨?_, ?_⟩, fun external => ?_, fun timer => ?_, fun timer => ?_, fun closed => ?_,
    fun on runs => ?_⟩
  · rw [State.takeStep, if_pos (by exact internal)]
  · rw [State.takeIndexEdge, if_neg]
    rintro ⟨off, -⟩
    exact absurd (internal.symm.trans off) (by decide)
  · have notInternal : ¬ (s.placed .encoder atEncoder).sourceInternal = true := by
      rw [show (s.placed .encoder atEncoder).sourceInternal = false from external]
      decide
    simp only [State.takeStep, if_neg notInternal, if_true, Bool.false_eq_true, if_false]
    refine ⟨fun low => ?_, fun high => ?_, fun saturated => ?_, fun some => ?_, fun one => ?_, fun none room => ?_,
      fun none full => ?_, ?_⟩
    · rw [State.reverseStep, if_pos (by exact low)]
      rfl
    · have notLow : ¬ s.lp.debt < 65534 := by omega
      rw [State.reverseStep, if_neg (by exact notLow), if_pos (by exact high)]
      rfl
    · have notLow : ¬ s.lp.debt < 65534 := by omega
      have notHigh : ¬ s.lp.debt = 65534 := by omega
      rw [State.reverseStep, if_neg (by exact notLow), if_neg (by exact notHigh)]
    · rw [State.forwardStep_of_debt (by exact some)]
      rfl
    · rw [State.forwardStep_of_last (by exact one)]
      rfl
    · rw [State.forwardStep_of_none (by exact none), State.offerPosition_of_room (by exact room)]
      rfl
    · rw [State.forwardStep_of_none (by exact none), State.offerPosition_of_full (by exact full)]
      rfl
    · by_cases use : s.indexUse = true
      · rw [State.takeIndexEdge, if_pos ⟨by exact external, by exact use⟩, use, Bool.or_true]
        rfl
      · have noUse : s.indexUse = false := Bool.eq_false_iff.mpr use
        rw [State.takeIndexEdge, if_neg fun h => use (by exact h.2), noUse, Bool.or_false]
        rfl
  · have runs : (s.placed .generator atGenerator).lp.genTimer.isSome = true :=
      (congrArg Option.isSome timer).trans rfl
    rw [if_pos runs]
    refine ⟨fun some => ?_, fun one => ?_, fun none room => ?_, fun none full => ?_⟩
    · rw [State.forwardStep_of_debt (by exact some)]
      rfl
    · rw [State.forwardStep_of_last (by exact one)]
      rfl
    · rw [State.forwardStep_of_none (by exact none), State.offerPosition_of_room (by exact room)]
      rfl
    · rw [State.forwardStep_of_none (by exact none), State.offerPosition_of_full (by exact full)]
      rfl
  · have stopped : ¬ (s.placed .generator atGenerator).lp.genTimer.isSome = true := by
      rw [show (s.placed .generator atGenerator).lp.genTimer = none from timer]
      decide
    rw [if_neg stopped]
  · have shut : ¬ (s.placed .sense atSense).intakeOpen = true := by
      have same : (s.placed .sense atSense).intakeOpen = s.intakeOpen := rfl
      rw [same, State.intakeOpen_eq]
      rcases closed with off | state | state <;> simp [*]
    rw [State.takeSense, if_neg shut]
    rfl
  · have opened : (s.placed .sense atSense).intakeOpen = true := by
      have same : (s.placed .sense atSense).intakeOpen = s.intakeOpen := rfl
      rw [same, State.intakeOpen_eq]
      rcases runs with state | state <;> simp [*]
    rw [State.takeSense, if_pos opened]
    by_cases bounce : s.cs.debounce < s.debounceSpan ∨ s.cs.sensePending = true
    · rw [if_pos bounce, if_pos (by exact bounce)]
      rfl
    · rw [if_neg bounce, if_neg (by exact bounce)]
      rfl

/-! ### Steps 1 and 2 -/

section
variable {s : State}

theorem State.stepOne_within (h : s.lp.cycleIndex + 1 < s.cycleLen) : s.stepOne = { s with
    lp := { s.lp with
      travel := s.lp.travel + 1#32, lineMoving := true, cycleIndex := s.lp.cycleIndex + 1
      stallTimer := if s.stallMs = 0 then none else some 0 }
    counters := (s.bump .positionEvents).counters } := by
  have stays : ¬ decide (s.cycleLen ≤ s.lp.cycleIndex + 1) = true := by simpa using h
  rw [State.stepOne, State.advanceIndex, if_neg (by exact stays)]
  rfl

theorem State.stepOne_wrapping (h : s.cycleLen ≤ s.lp.cycleIndex + 1) : s.stepOne = { s with
    lp := { s.lp with
      travel := s.lp.travel + 1#32, lineMoving := true, cycleIndex := 0, cycleNumber := s.lp.cycleNumber + 1#16
      stallTimer := if s.stallMs = 0 then none else some 0 }
    counters := ((s.bump .positionEvents).bump .cycleStarts).counters } := by
  have wraps : decide (s.cycleLen ≤ s.lp.cycleIndex + 1) = true := by simpa using h
  rw [State.stepOne, State.advanceIndex, if_pos (by exact wraps)]
  rfl

/-- The offset of a mismatch is the difference reduced into the cycle, as a signed number (R25). -/
theorem phaseOffsetOf_eq {p index expected : Nat} (hp : 0 < p) (small : p ≤ 65536) :
    phaseOffsetOf p index expected = BitVec.ofInt 16
      (if (p / 2 : Nat) < ((index : Int) - expected) % p then ((index : Int) - expected) % p - p
        else ((index : Int) - expected) % p) := by
  obtain ⟨d, hd⟩ : ∃ d, d = (index + p - expected % p) % p := ⟨_, rfl⟩
  have reduced : ((index : Int) - expected) % p = d := by
    have below := Nat.mod_lt expected hp
    have quotient := Nat.div_add_mod expected p
    have shifted : ((index + p - expected % p : Nat) : Int) =
        ((index : Int) - expected) + p * ((expected / p : Nat) + 1 : Int) := by
      have cast : (expected : Int) = p * (expected / p : Nat) + (expected % p : Nat) := by exact_mod_cast quotient.symm
      rw [Nat.cast_sub (by omega), Nat.cast_add, mul_add, mul_one, cast]
      simp only [Int.natCast_ediv, Int.natCast_emod]
      ring_nf
    rw [hd, Int.natCast_emod, shifted, Int.add_mul_emod_self_left]
  rw [reduced, phaseOffsetOf, ← hd]
  by_cases high : p / 2 < d
  · rw [if_pos high, if_pos (by exact_mod_cast high)]
    refine BitVec.eq_of_toNat_eq ?_
    rw [BitVec.toNat_ofNat, BitVec.toNat_ofInt]
    omega
  · rw [if_neg high, if_neg (by exact_mod_cast high)]
    rfl

/-- The uses of a length and a tolerance keep the count of positions without an index below its largest value. -/
theorem State.cycleLen_bounds (s : State) : 16 ≤ s.cycleLen ∧ s.cycleLen ≤ 4096 := by
  unfold State.cycleLen clampTo
  omega

theorem State.indexTol_lt (s : State) : s.indexTol < 4096 := by
  unfold State.indexTol State.fieldOf field
  exact BitVec.isLt _

/-- A count that is no missing index, and one that is (R26). -/
theorem State.countSince_eq (s : State) : s.countSince =
    if s.incSince.lp.sinceIndex = s.cycleLen + s.indexTol then { s.incSince with
      lp := { s.incSince.lp with sinceIndex := 0, phaseKind := .missing, phaseOffset := 0#16 }
      counters := (s.bump .phaseErrors).counters
      rc := s.noted .phaseError } else s.incSince := by
  obtain ⟨a, b, counted⟩ : ∃ a b, s.incSince = { s with lp := a, freeCount := b } := by
    unfold State.incSince
    split <;> exact ⟨_, _, rfl⟩
  rw [State.countSince, counted]
  split
  · next gone =>
    rw [if_pos (by exact gone), State.declareMissing, State.phaseError, State.raiseInEvent_eq]
    rfl
  · next more => rw [if_neg (by exact more)]

/-- A pending index taken (R25). -/
def State.indexTaken (s : State) : State := { s with lp := { s.lp with indexPending := false, sinceIndex := 0 } }

/-- A pending index taken at another than the expected value: the mismatch is recorded (R25). -/
def State.mismatched (s : State) : State := { s with
  lp := { s.lp with
    indexPending := false, sinceIndex := 0, phaseKind := .mismatch
    phaseOffset := phaseOffsetOf s.cycleLen s.lp.cycleIndex s.expectedIndex }
  counters := (s.bump .phaseErrors).counters
  rc := s.noted .phaseError }

/-- A pending index at the expected value, and at another one (R25, R27). -/
theorem State.checkIndex_of_expected (h : s.lp.cycleIndex = s.expectedIndex) :
    s.checkIndex = s.indexTaken := if_pos h

theorem State.checkIndex_of_mismatch (h : s.lp.cycleIndex ≠ s.expectedIndex) :
    s.checkIndex = if s.realigns = true then s.mismatched.realign else s.mismatched := by
  have error : s.indexTaken.phaseError .mismatch (phaseOffsetOf s.cycleLen s.lp.cycleIndex s.expectedIndex) =
      s.mismatched := by
    rw [State.phaseError, State.raiseInEvent_eq]
    rfl
  have unfolded : s.checkIndex = if s.lp.cycleIndex = s.expectedIndex then s.indexTaken else
      (fun x : State => if x.realigns = true then x.realign else x)
        (s.indexTaken.phaseError .mismatch (phaseOffsetOf s.cycleLen s.lp.cycleIndex s.expectedIndex)) := rfl
  rw [unfolded, if_neg h, error]
  rfl

end

/-! ### The occurrence tests of the reference generators (R45) -/

section
variable {s : State} {g : RefGen}

theorem State.refTest_of_none (h : s.refOccurs g = false) : s.refTest g = s := by
  rw [State.refTest, if_neg (by rw [h]; decide)]

theorem State.refTest_of_busy (occurs : s.refOccurs g = true)
    (busy : (s.ref g).state ≠ .idle ∨ s.seqActive = true) : s.refTest g = s.bump .refSkipped := by
  rw [State.refTest, if_pos occurs, if_neg]
  rintro ⟨idle, quiet⟩
  rcases busy with h | h
  · exact h idle
  · exact absurd (h.symm.trans quiet) (by decide)

theorem State.refTest_of_idle (occurs : s.refOccurs g = true) (idle : (s.ref g).state = .idle)
    (quiet : s.seqActive = false) : s.refTest g =
      ((s.requestSlot (refSlot g)).setRef g { s.ref g with state := .requested, cancelled := false }).setRefRequest g
        false := by
  rw [State.refTest, if_pos occurs, if_pos ⟨idle, quiet⟩]

end

/-- What a generator's test reads stands alike in two states. -/
structure State.AlikeAt (s x : State) (g : RefGen) : Prop where
  ref : x.ref g = s.ref g
  request : x.refRequest g = s.refRequest g
  slot : x.slot (refSlot g) = s.slot (refSlot g)
  occurs : x.refOccurs g = s.refOccurs g
  active : x.seqActive = s.seqActive

theorem State.AlikeAt.trans {s x y : State} {g : RefGen} (h : s.AlikeAt x g) (h' : x.AlikeAt y g) : s.AlikeAt y g :=
  ⟨h'.ref.trans h.ref, h'.request.trans h.request, h'.slot.trans h.slot, h'.occurs.trans h.occurs,
    h'.active.trans h.active⟩

/-- The test of one generator leaves the others alone. -/
theorem State.refTest_other (s : State) {g h : RefGen} (other : h ≠ g) : s.AlikeAt (s.refTest g) h := by
  have request : ∀ (x : State) (i : SlotId) (j : SlotId), j ≠ i → (x.requestSlot i).slot j = x.slot j := by
    intro x i j other
    unfold State.requestSlot
    split
    · exact State.slot_setSlot_other _ _ _ _ other
    · rfl
    · rfl
    · rfl
    · exact State.slot_setSlot_other _ _ _ _ other
  have slots : refSlot h ≠ refSlot g := by cases g <;> cases h <;> first | exact absurd rfl other | decide
  unfold State.refTest
  split
  · split
    · have slot := request s (refSlot g) (refSlot h) slots
      rw [State.requestSlot_eq] at slot ⊢
      refine ⟨?_, ?_, Eq.trans ?_ slot, ?_, ?_⟩ <;> cases g <;> cases h <;> first | exact absurd rfl other | rfl
    · exact ⟨by cases h <;> rfl, by cases h <;> rfl, rfl, by cases h <;> rfl, rfl⟩
  · exact ⟨rfl, rfl, rfl, rfl, rfl⟩

/-- An occurrence that is served: the generator is Requested, and its slot is asked for the frame. -/
theorem State.refTest_served {s : State} {g : RefGen} (occurs : s.refOccurs g = true) (idle : (s.ref g).state = .idle)
    (quiet : s.seqActive = false) : s.refTest g = { s with
      cs := { s.cs with
        refA := (s.refTest g).cs.refA, refB := (s.refTest g).cs.refB, refC := (s.refTest g).cs.refC
        reqRefA := (s.refTest g).cs.reqRefA, reqRefB := (s.refTest g).cs.reqRefB, reqRefC := (s.refTest g).cs.reqRefC }
      sl := { s.sl with slots := (s.refTest g).sl.slots }
      counters := (s.refTest g).counters } ∧
    (s.refTest g).ref g = { s.ref g with state := .requested, cancelled := false } ∧
    (s.refTest g).refRequest g = false ∧
    (s.refTest g).sl.slots = (s.requestSlot (refSlot g)).sl.slots ∧
    (s.refTest g).counters = (s.requestSlot (refSlot g)).counters := by
  rw [State.refTest_of_idle occurs idle quiet, State.requestSlot_eq]
  refine ⟨?_, ?_, ?_, ?_, ?_⟩ <;> cases g <;> rfl

theorem Steady.refTest (g : RefGen) : Steady (·.refTest g) :=
  Steady.ite (c := fun s => s.refOccurs g = true) (fun _ _ _ => by cases g <;> exact Iff.rfl)
    (Steady.ite (c := fun s => (s.ref g).state = .idle ∧ s.seqActive = false)
      (fun _ _ _ => by cases g <;> exact Iff.rfl)
      (fun s p e => by
        have requested := Steady.requestSlot (refSlot g) s p e
        dsimp only at requested ⊢
        rw [requested]
        cases g <;> rfl)
      (Steady.bump .refSkipped))
    Steady.id

/-- The row CYCLE_START, wherever it stands. -/
def State.cycleStep (s : State) : State := if s.wraps = true then allRefs.foldl State.refTest s.advanceIndex else s

theorem Steady.advanceIndex : Steady State.advanceIndex :=
  Steady.ite (c := fun s => s.wraps = true) (fun _ _ _ => Iff.rfl) (fun _ _ _ => rfl) (fun _ _ _ => rfl)

theorem Steady.cycleStep : Steady State.cycleStep :=
  Steady.ite (c := fun s => s.wraps = true) (fun _ _ _ => Iff.rfl)
    (Steady.advanceIndex.comp (Steady.foldl Steady.refTest allRefs)) Steady.id

/-- The state in which the tests of a cycle start are made (R23). -/
theorem State.advanceIndex_wrapping {s : State} (h : s.cycleLen ≤ s.lp.cycleIndex + 1) : s.advanceIndex = { s with
    lp := { s.lp with cycleIndex := 0, cycleNumber := s.lp.cycleNumber + 1#16 }
    counters := (s.bump .cycleStarts).counters } := by
  have wraps : s.wraps = true := by simpa [State.wraps] using h
  rw [State.advanceIndex, if_pos wraps]
  rfl

/-- The parts that a test may change. -/
theorem State.refTest_parts (s : State) (g : RefGen) : s.refTest g = { s with
    cs := { s.cs with
      refA := (s.refTest g).cs.refA, refB := (s.refTest g).cs.refB, refC := (s.refTest g).cs.refC
      reqRefA := (s.refTest g).cs.reqRefA, reqRefB := (s.refTest g).cs.reqRefB, reqRefC := (s.refTest g).cs.reqRefC }
    sl := { s.sl with slots := (s.refTest g).sl.slots }
    counters := (s.refTest g).counters } := by
  by_cases occurs : s.refOccurs g = true
  · by_cases serve : (s.ref g).state = .idle ∧ s.seqActive = false
    · exact (State.refTest_served occurs serve.1 serve.2).1
    · rw [State.refTest_of_busy occurs (by rw [← Bool.not_eq_false]; tauto)]
      rfl
  · rw [State.refTest_of_none (Bool.eq_false_iff.mpr occurs)]

/-- The three tests of a cycle start (R45). -/
def State.refTests (s : State) : State := allRefs.foldl State.refTest s

theorem State.refTests_parts (s : State) : s.refTests = { s with
    cs := { s.cs with
      refA := s.refTests.cs.refA, refB := s.refTests.cs.refB, refC := s.refTests.cs.refC
      reqRefA := s.refTests.cs.reqRefA, reqRefB := s.refTests.cs.reqRefB, reqRefC := s.refTests.cs.reqRefC }
    sl := { s.sl with slots := s.refTests.sl.slots }
    counters := s.refTests.counters } := by
  have all : s.refTests = ((s.refTest .a).refTest .b).refTest .c := rfl
  rw [all, State.refTest_parts _ .c, State.refTest_parts _ .b, State.refTest_parts _ .a]

/-- Among the three tests each generator's goes as if it were alone. -/
theorem State.refTests_alone (s : State) (g : RefGen) :
    ∃ x, s.AlikeAt x g ∧ (x.refTest g).AlikeAt s.refTests g := by
  have same : ∀ x : State, x.AlikeAt x g := fun _ => ⟨rfl, rfl, rfl, rfl, rfl⟩
  cases g with
  | a => exact ⟨s, same s, ((s.refTest .a).refTest_other (by decide)).trans (State.refTest_other _ (by decide))⟩
  | b => exact ⟨s.refTest .a, s.refTest_other (by decide), State.refTest_other _ (by decide)⟩
  | c =>
    exact ⟨(s.refTest .a).refTest .b, (s.refTest_other (by decide)).trans (State.refTest_other _ (by decide)), same _⟩

/-- The occurrences skipped (R45). -/
theorem State.refTest_skips (s : State) (g : RefGen) : s.counts (s.refTest g) .refSkipped
    (if (s.refOccurs g && ((s.ref g).state != .idle || s.seqActive)) = true then 1 else 0) := by
  by_cases occurs : s.refOccurs g = true
  · by_cases serve : (s.ref g).state = .idle ∧ s.seqActive = false
    · rw [if_neg (by simp [occurs, serve])]
      obtain ⟨-, -, -, -, counters⟩ := State.refTest_served occurs serve.1 serve.2
      refine State.counts.then_eq (t := s.requestSlot (refSlot g)) ?_ counters
      unfold State.requestSlot
      split <;> first | exact State.counts.of_eq rfl | exact State.counts.bump_other _ _ (by decide)
    · have busy : (s.ref g).state ≠ .idle ∨ s.seqActive = true := by
        rw [← Bool.not_eq_false]
        tauto
      rw [if_pos (by simpa [occurs] using busy), State.refTest_of_busy occurs busy]
      exact State.counts.bumpBy s .refSkipped 1
  · rw [if_neg (by simp [occurs]), State.refTest_of_none (Bool.eq_false_iff.mpr occurs)]
    exact State.counts.of_eq rfl

theorem State.refTests_skips (s : State) : s.counts s.refTests .refSkipped
    ([RefGen.a, .b, .c].countP fun g => s.refOccurs g && ((s.ref g).state != .idle || s.seqActive)) := by
  have b : s.AlikeAt (s.refTest .a) .b := s.refTest_other (by decide)
  have c : s.AlikeAt ((s.refTest .a).refTest .b) .c :=
    (s.refTest_other (by decide)).trans (State.refTest_other _ (by decide))
  have first := s.refTest_skips .a
  have second := (s.refTest .a).refTest_skips .b
  have third := ((s.refTest .a).refTest .b).refTest_skips .c
  rw [b.occurs, b.ref, b.active] at second
  rw [c.occurs, c.ref, c.active] at third
  have all := (first.trans second).trans third
  have sum : ([RefGen.a, .b, .c].countP fun g => s.refOccurs g && ((s.ref g).state != .idle || s.seqActive)) =
      (if (s.refOccurs .a && ((s.ref .a).state != .idle || s.seqActive)) = true then 1 else 0) +
        (if (s.refOccurs .b && ((s.ref .b).state != .idle || s.seqActive)) = true then 1 else 0) +
        (if (s.refOccurs .c && ((s.ref .c).state != .idle || s.seqActive)) = true then 1 else 0) := by
    simp only [List.countP_cons, List.countP_nil]
    omega
  rw [sum]
  exact all

theorem State.refTests_counts (s : State) {k : Ctr} (skipped : k.offset ≠ Ctr.refSkipped.offset)
    (merged : k.offset ≠ Ctr.requestMerged.offset) : s.counts s.refTests k 0 := by
  have one : ∀ (x : State) (g : RefGen), x.counts (x.refTest g) k 0 := fun x g => by
    by_cases occurs : x.refOccurs g = true
    · by_cases serve : (x.ref g).state = .idle ∧ x.seqActive = false
      · obtain ⟨-, -, -, -, counters⟩ := State.refTest_served occurs serve.1 serve.2
        refine State.counts.then_eq (t := x.requestSlot (refSlot g)) ?_ counters
        unfold State.requestSlot
        split <;> first | exact State.counts.of_eq rfl | exact State.counts.bump_other _ _ merged
      · rw [State.refTest_of_busy occurs (by rw [← Bool.not_eq_false]; tauto)]
        exact State.counts.bump_other _ _ skipped
    · rw [State.refTest_of_none (Bool.eq_false_iff.mpr occurs)]
      exact State.counts.of_eq rfl
  have all := State.counts.foldl one allRefs s
  rwa [Nat.mul_zero] at all

/-- What the tests leave of one generator and its slot (R45). -/
theorem State.refTests_at (s : State) (g : RefGen) :
    (s.refOccurs g = false ∨ (s.ref g).state ≠ .idle ∨ s.seqActive = true → s.refTests.ref g = s.ref g ∧
      s.refTests.refRequest g = s.refRequest g ∧ s.refTests.slot (refSlot g) = s.slot (refSlot g)) ∧
    (s.refOccurs g = true → (s.ref g).state = .idle → s.seqActive = false →
      s.refTests.ref g = { s.ref g with state := .requested, cancelled := false } ∧ s.refTests.refRequest g = false ∧
      ((s.slot (refSlot g)).state = .idle → (s.refTests.slot (refSlot g)).state = .armed)) := by
  obtain ⟨x, before, after⟩ := s.refTests_alone g
  rw [after.ref, after.request, after.slot, ← before.ref, ← before.request, ← before.slot, ← before.occurs,
    ← before.active]
  refine ⟨fun stays => ?_, fun occurs idle quiet => ?_⟩
  · by_cases occurs : x.refOccurs g = true
    · have busy := stays.resolve_left (by rw [occurs]; decide)
      rw [State.refTest_of_busy occurs busy]
      exact ⟨by cases g <;> rfl, by cases g <;> rfl, rfl⟩
    · rw [State.refTest_of_none (Bool.eq_false_iff.mpr occurs)]
      exact ⟨rfl, rfl, rfl⟩
  · obtain ⟨-, ref, request, slots, -⟩ := State.refTest_served occurs idle quiet
    refine ⟨ref, request, fun idle => ?_⟩
    have slot : (x.refTest g).slot (refSlot g) = (x.requestSlot (refSlot g)).slot (refSlot g) := by
      cases g <;> simp only [State.slot, refSlot, slots]
    rw [slot, State.requestSlot_of_idle idle, State.slot_setSlot_self]

/-- One event raised inside a position event, and settled at once, enters as outside of one (R172). -/
theorem State.settleFaults_of_raised {s : State} {e : Event} (h : s.rc.deferred = []) :
    ({ s with rc := s.noted e } : State).settleFaults = s.raiseFault e := by
  rw [← State.raiseInEvent_eq]
  unfold State.raiseInEvent State.raiseFault
  have none : ∀ x : State, x.rc.deferred = [] → x.settleFaults = x := fun x hx => by
    simp only [State.settleFaults, hx]
  have one : ({ s.raise e with rc := { (s.raise e).rc with deferred := s.rc.deferred ++ [e] } } : State).settleFaults =
      (s.raise e).enterFault e [e] := by
    have emptied : ({ (s.raise e).rc with deferred := [] } : RunControl) = (s.raise e).rc := by
      rw [← h]
      rfl
    simp only [State.settleFaults, h, List.nil_append, emptied]
  split
  · cases s.rc.state with
    | running => exact one
    | draining => exact one
    | faulted => exact none _ h
    | halted => exact none _ h
  · exact none _ h

/-- Settles O37: the advance, the check of an index, and the tests of the reference generators. -/
theorem cycleStartsAndMissingIndices : Obligations.CycleStartsAndMissingIndices := by
  refine ⟨fun s x y start off d => ⟨State.stepOne_within, State.stepOne_wrapping, ?_, ?_⟩, ?_, ?_⟩
  · rintro hy
    have counted : s.incSince = y := hy.symm
    subst counted
    clear hy
    refine ⟨fun internal => ?_, fun external unused => ?_, fun external used absent => ?_⟩
    · rw [State.stepTwo, if_pos internal]
    · rw [State.stepTwo, external, unused]
      rfl
    · rw [State.stepTwo, external, used, absent]
      exact s.countSince_eq
  · intro external used pending
    have two : s.stepTwo start = s.checkIndex := by
      rw [State.stepTwo, external, used, pending]
      rfl
    rw [two]
    refine ⟨State.checkIndex_of_expected, fun off len hd hoff hx => ?_⟩
    have recorded : s.mismatched = x := by
      obtain ⟨-, high⟩ := s.cycleLen_bounds
      rw [hx, hoff, hd, State.mismatched, phaseOffsetOf_eq len (by omega)]
    rw [State.checkIndex_of_mismatch off, recorded]
    have expected : x.expectedIndex = s.expectedIndex := by rw [hx]; rfl
    refine ⟨fun free => ?_, fun realigns elsewhere => ?_, fun realigns zero => ?_⟩
    · rw [free]
      rfl
    · rw [if_pos realigns, State.realign, expected, if_neg (by exact elsewhere)]
    · have number : x.lp.cycleNumber = s.lp.cycleNumber := by rw [hx]
      rw [if_pos realigns, State.realign, expected, if_pos (by exact zero), zero, State.countCycle, ← number]
      rfl
  · rintro s t g occurs rfl
    refine ⟨fun wraps => ?_, fun is => ?_⟩
    · have wrapped : s.wraps = true := by simpa [State.wraps] using wraps
      rw [State.row_of_steady (c := .cycleStart) Steady.cycleStep (p := .step) rfl, State.cycleStep, if_pos wrapped,
        State.advanceIndex_wrapping wraps]
      rfl
    · have test : s.refOccurs g = occurs := is.symm
      refine ⟨fun no => ?_, fun yes busy => ?_, fun yes idle sr fr => ?_⟩
      · exact State.refTest_of_none (test.trans no)
      · rw [State.refTest_of_busy (test.trans yes) (by simpa [State.seqActive] using busy)]
        rfl
      · obtain ⟨parts, ref, request, slots, counters⟩ :=
          State.refTest_served (test.trans yes) idle (by simp [State.seqActive, sr, fr])
        refine ⟨parts, ref, request, fun h other => ⟨(s.refTest_other other).ref, (s.refTest_other other).request⟩,
          fun idle => ?_, fun sending => ?_, fun idle sending => ?_⟩
        · rw [counters, slots, State.requestSlot_of_idle idle]
          exact ⟨rfl, rfl⟩
        · rw [counters, slots, State.requestSlot_of_sending sending]
          exact ⟨rfl, rfl⟩
        · rw [counters, slots, State.requestSlot_of_waiting idle sending]
          exact ⟨rfl, rfl⟩
  · intro s g occurs tables
    have row := State.exec_of_steady (c := .cycleStart) (s := s) Steady.cycleStep (p := .step) rfl
    have missing : exec .missingIndex s = .next (if s.indexGoesMissing = true then
        (s.arrive .step).countSince.settleFaults else s.arrive .step) := by
      show Host.Outcome.next (if (s.arrive .step).indexGoesMissing = true then _ else _) = _
      rw [State.arrive_eq_placed]
      rfl
    rw [row, missing, State.arrive_eq_placed]
    refine ⟨fun within => ?_, fun wraps is => ?_, fun stays => ?_, fun external used absent last clear => ?_⟩
    · have stays : ¬ s.wraps = true := by simpa [State.wraps] using within
      rw [State.cycleStep, if_neg stays]
    · have wrapped : s.wraps = true := by simpa [State.wraps] using wraps
      have tests : s.cycleStep = s.advanceIndex.refTests := by
        rw [State.cycleStep, if_pos wrapped]
        rfl
      rw [tests, State.advanceIndex_wrapping wraps]
      obtain ⟨b, hb⟩ : ∃ b : State, b = { s with
        lp := { s.lp with cycleIndex := 0, cycleNumber := s.lp.cycleNumber + 1#16 }
        counters := (s.bump .cycleStarts).counters } := ⟨_, rfl⟩
      rw [← hb]
      have active : b.seqActive = s.seqActive := by rw [hb]; rfl
      have ref : ∀ h, b.ref h = s.ref h := fun h => by rw [hb]; cases h <;> rfl
      have request : ∀ h, b.refRequest h = s.refRequest h := fun h => by rw [hb]; cases h <;> rfl
      have slot : b.slot (refSlot g) = s.slot (refSlot g) := by rw [hb]; rfl
      have occursAt : ∀ h, b.refOccurs h =
          ((s.refEnabled h && (s.lp.cycleNumber + 1#16).toNat % s.periodOf (refCfg h) == 0) || s.refRequest h) :=
        fun h => by rw [hb]; cases h <;> rfl
      have occurs_eq : b.refOccurs g = occurs := (occursAt g).trans is.symm
      have starts : s.counts b .cycleStarts 1 := by
        rw [hb]
        exact (State.counts.bumpBy s .cycleStarts 1).then_eq rfl
      have skips : s.counts b .refSkipped 0 := by
        rw [hb]
        exact (State.counts.bump_other s .cycleStarts (by decide)).then_eq rfl
      have wf := State.counters_canonical tables
      have startCount := ((starts.trans (b.refTests_counts (by decide) (by decide))) wf).2
      have skipCount := ((skips.trans b.refTests_skips) wf).2
      obtain ⟨keeps, serves⟩ := b.refTests_at g
      simp only [occurs_eq, active, ref, request, slot] at keeps serves
      have parts := b.refTests_parts
      generalize b.refTests = r at *
      have refOf : (r.placed .step (s.earlierAt .step)).ref g = r.ref g := by cases g <;> rfl
      have requestOf : (r.placed .step (s.earlierAt .step)).refRequest g = r.refRequest g := by cases g <;> rfl
      have slotOf : (r.placed .step (s.earlierAt .step)).slot (refSlot g) = r.slot (refSlot g) := rfl
      refine ⟨_, rfl, ?_, startCount, ?_, fun no => ?_, fun yes idle sr fr => ?_, fun yes busy => ?_⟩
      · rw [parts, hb]
        rfl
      · refine skipCount.trans ?_
        simp only [Nat.zero_add, occursAt, ref, active]
        simp only [State.seqActive, Bool.or_assoc]
      · rw [refOf, requestOf, slotOf]
        exact keeps (.inl no)
      · rw [refOf, requestOf, slotOf]
        exact serves yes idle (by simp [State.seqActive, sr, fr])
      · rw [refOf, requestOf, slotOf]
        exact keeps (.inr (by simpa [State.seqActive] using busy))
    · have not : ¬ s.indexGoesMissing = true := by
        simp only [State.indexGoesMissing, Bool.and_eq_true, Bool.not_eq_true', beq_iff_eq]
        rintro ⟨⟨⟨external, used⟩, absent⟩, last⟩
        simp [external, used, absent, last] at stays
      rw [if_neg not]
    · have goes : s.indexGoesMissing = true := by simp [State.indexGoesMissing, external, used, absent, last]
      have low : s.lp.sinceIndex < 8191 := by
        have := s.cycleLen_bounds
        have := s.indexTol_lt
        omega
      have counted : (s.placed .step (s.earlierAt .step)).incSince =
          { s.placed .step (s.earlierAt .step) with lp := { s.lp with sinceIndex := s.lp.sinceIndex + 1 } } :=
        if_pos (by exact low)
      rw [if_pos goes, State.countSince_eq, counted, if_pos (by exact last)]
      refine congrArg Host.Outcome.next ?_
      exact State.settleFaults_of_raised (s := { s.placed .step (s.earlierAt .step) with
        lp := { s.lp with sinceIndex := 0, phaseKind := .missing, phaseOffset := 0#16 }
        counters := (s.bump .phaseErrors).counters }) clear

end Sys2Proof.Machine
end

section
/-! SUPPORT. The capture sources that stand in the ring, in a bracket run and in the generators (sections 3.2 to
3.5): what
they propose and when. -/

namespace Sys2Proof.Machine

/-! ### The first of a list -/

theorem takeFirst_of_none {α : Type} {p : α → Bool} {l : List α} (h : ∀ x ∈ l, p x = false) : takeFirst p l = none := by
  induction l with
  | nil => rfl
  | cons a l ih =>
    rw [takeFirst, h a List.mem_cons_self, ih fun x hx => h x (List.mem_cons_of_mem a hx)]
    rfl

theorem takeFirst_of_first {α : Type} {p : α → Bool} {pre post : List α} {x : α} (before : ∀ y ∈ pre, p y = false)
    (here : p x = true) : takeFirst p (pre ++ x :: post) = some (x, pre ++ post) := by
  induction pre with
  | nil => simp [takeFirst, here]
  | cons a pre ih =>
    rw [List.cons_append, takeFirst, before a List.mem_cons_self, ih fun y hy => before y (List.mem_cons_of_mem a hy)]
    rfl

theorem updateFirst_of_first {α : Type} {p : α → Bool} {f : α → α} {pre post : List α} {x : α}
    (before : ∀ y ∈ pre, p y = false) (here : p x = true) :
    updateFirst p f (pre ++ x :: post) = pre ++ f x :: post := by
  induction pre with
  | nil => simp [updateFirst, here]
  | cons a pre ih =>
    rw [List.cons_append, updateFirst, before a List.mem_cons_self, ih fun y hy => before y (List.mem_cons_of_mem a hy)]
    rfl

theorem find_of_first {α : Type} {p : α → Bool} {pre post : List α} {x : α} (before : ∀ y ∈ pre, p y = false)
    (here : p x = true) : (pre ++ x :: post).find? p = some x :=
  List.find?_eq_some_iff_append.mpr ⟨here, pre, post, rfl, fun y hy => by simp [before y hy]⟩

/-! ### What is due proposes -/

theorem Steady.propose (c : CaptureClass) : Steady (·.propose c) := fun _ _ _ => rfl

theorem Steady.ringProposal : Steady State.ringProposal := fun s p e => by
  have travel : (s.placed p e).lp.travel = s.lp.travel := rfl
  have ring : (s.placed p e).cs.ring = s.cs.ring := rfl
  simp only [State.ringProposal, travel, ring]
  cases takeFirst (fun x => reached s.lp.travel x.due) s.cs.ring with
  | none => rfl
  | some found =>
    obtain ⟨x, rest⟩ := found
    by_cases slip : s.lp.travel = x.due
    · dsimp only
      rw [if_pos (by exact slip), if_pos (by exact slip)]
      rfl
    · dsimp only
      rw [if_neg (by exact slip), if_neg (by exact slip)]
      rfl

theorem Steady.bracketPropose : Steady State.bracketPropose := fun s p e => by
  have travel : (s.placed p e).lp.travel = s.lp.travel := rfl
  have bracket : (s.placed p e).cs.bracket = s.cs.bracket := rfl
  simp only [State.bracketPropose, travel, bracket]
  cases s.cs.bracket with
  | none => rfl
  | some b =>
    dsimp only
    split <;> rfl

theorem Steady.refMark (g : RefGen) : Steady (·.refMark g) :=
  Steady.ite (c := fun s => (s.ref g).state = .pending ∧ reached s.lp.travel (s.ref g).capture = true)
    (fun _ _ _ => by cases g <;> exact Iff.rfl) (fun _ _ _ => by cases g <;> rfl) Steady.id

theorem Steady.refPropose (g : RefGen) : Steady (·.refPropose g) :=
  Steady.ite (c := fun s => (s.ref g).due = true) (fun _ _ _ => by cases g <;> exact Iff.rfl)
    (fun _ _ _ => by cases g <;> rfl) Steady.id

section
variable {s : State}

theorem State.ringProposal_of_none (h : ∀ x ∈ s.cs.ring, reached s.lp.travel x.due = false) : s.ringProposal = s := by
  rw [State.ringProposal, takeFirst_of_none h]

theorem State.ringProposal_of_first {pre post : List RingEntry} {e : RingEntry} (ring : s.cs.ring = pre ++ e :: post)
    (before : ∀ x ∈ pre, reached s.lp.travel x.due = false) (here : reached s.lp.travel e.due = true) :
    s.ringProposal = { s with
      cs := { s.cs with ring := pre ++ post }
      candidates := s.candidates ++ [{ cls := .sensor, mask := s.classMask .sensor, item := true, audit := false }]
      counters := if s.lp.travel = e.due then s.counters else (s.bump .sensorSlip).counters } := by
  rw [State.ringProposal, ring, takeFirst_of_first before here]
  dsimp only
  by_cases slip : s.lp.travel = e.due
  · rw [if_pos (by exact slip), if_pos slip]
    rfl
  · rw [if_neg (by exact slip), if_neg slip]
    rfl

theorem State.bracketPropose_of_early {b : BracketRun} (run : s.cs.bracket = some b)
    (early : reached s.lp.travel b.next = false) : s.bracketPropose = s := by
  simp [State.bracketPropose, run, early]

theorem State.bracketPropose_of_due {b : BracketRun} (run : s.cs.bracket = some b)
    (due : reached s.lp.travel b.next = true) : s.bracketPropose = { s with
      cs := { s.cs with
        bracket := if b.left ≤ 1 then none
          else some { next := b.next + BitVec.ofNat 32 b.step, left := b.left - 1, step := b.step } }
      candidates :=
        s.candidates ++ [{ cls := .bracket, mask := s.classMask .bracket, item := false, audit := false }] } := by
  simp only [State.bracketPropose, run, due, if_true]
  rfl

end

/-- Settles O38: each source, before its time and at it. -/
theorem dueSourcesPropose : Obligations.DueSourcesPropose := by
  refine ⟨fun s t g => ⟨?_, ?_, ?_, fun idle => ⟨?_, ?_⟩, fun due next => ?_⟩,
    fun s pre post e b g => ⟨fun none => ?_, fun ring before here => ?_, fun none => ?_, fun run early => ?_,
      fun run due => ?_, fun notMarked stays => ?_, fun pending here => ?_⟩⟩
  · rw [State.row_of_steady (c := .sensorDue) Steady.ringProposal (p := .step) rfl]
  · rw [State.row_of_steady (c := .bracketProposal) Steady.bracketPropose (p := .step) rfl]
  · rintro rfl
    refine ⟨fun stays => ?_, fun pending here => ?_, ?_⟩
    · refine if_neg ?_
      rintro ⟨pending, here⟩
      rcases stays with other | early
      · exact other pending
      · exact absurd (here.symm.trans early) (by decide)
    · rw [State.refMark, if_pos ⟨pending, here⟩]
      refine ⟨by cases g <;> rfl, State.ref_setRef_self _ _ _, fun h other => State.ref_setRef_other _ _ _ _ other⟩
    · rw [State.row_of_steady (c := .referenceDue g) ((Steady.refMark g).comp (Steady.refPropose g)) (p := .step) rfl]
      rfl
  · simp only [State.refStep, State.refPropose, idle, Bool.false_eq_true, if_false]
  · simp only [State.refStep, if_true, idle, Bool.false_eq_true, if_false]
  · rw [next]
    simp only [State.refStep, if_true, due, Bool.false_eq_true, if_false]
  · have row := State.exec_of_steady (c := .sensorDue) (s := s) Steady.ringProposal (p := .step) rfl
    rw [row, State.ringProposal_of_none none, State.arrive_eq_placed]
  · have row := State.exec_of_steady (c := .sensorDue) (s := s) Steady.ringProposal (p := .step) rfl
    rw [row, State.ringProposal_of_first ring before here, State.arrive_eq_placed]
    rfl
  · have row := State.exec_of_steady (c := .bracketProposal) (s := s) Steady.bracketPropose (p := .step) rfl
    rw [row, State.arrive_eq_placed, State.bracketPropose, none]
  · have row := State.exec_of_steady (c := .bracketProposal) (s := s) Steady.bracketPropose (p := .step) rfl
    rw [row, State.arrive_eq_placed, State.bracketPropose_of_early run early]
  · have row := State.exec_of_steady (c := .bracketProposal) (s := s) Steady.bracketPropose (p := .step) rfl
    rw [row, State.arrive_eq_placed, State.bracketPropose_of_due run due]
    rfl
  · have row := State.exec_of_steady (c := .referenceDue g) (s := s) ((Steady.refMark g).comp (Steady.refPropose g))
      (p := .step) rfl
    have unmarked : s.refMark g = s := by
      refine if_neg ?_
      rintro ⟨pending, here⟩
      rcases stays with other | early
      · exact other pending
      · exact absurd (here.symm.trans early) (by decide)
    rw [row, State.arrive_eq_placed, unmarked, State.refPropose, if_neg (by rw [notMarked]; decide)]
  · have row := State.exec_of_steady (c := .referenceDue g) (s := s) ((Steady.refMark g).comp (Steady.refPropose g))
      (p := .step) rfl
    have marked : s.refMark g = s.setRef g { s.ref g with due := true } := if_pos ⟨pending, here⟩
    rw [row, State.arrive_eq_placed, marked, State.refPropose, State.ref_setRef_self, if_pos rfl]
    refine ⟨_, rfl, ?_, ?_, fun h other => ?_⟩
    · cases g <;> rfl
    · cases g <;> rfl
    · cases g <;> cases h <;> first | exact absurd rfl other | rfl

/-! ### Runs and bursts start -/

theorem iterate_eq_foldl {α β : Type} (f : α → α) (l : List β) (a : α) :
    iterate f l.length a = l.foldl (fun x _ => f x) a := by
  induction l generalizing a with
  | nil => rfl
  | cons b l ih => exact ih (f a)

/-- The decision for one window that opens (R40). -/
theorem State.bracketStartOne_of_none {s : State} (h : ∀ x ∈ s.cs.ring, opensWindow s.lp.travel x = false) :
    s.bracketStartOne = s := by
  have absent : s.cs.ring.find? (opensWindow s.lp.travel) = none :=
    List.find?_eq_none.mpr fun x hx => by rw [h x hx]; decide
  rw [State.bracketStartOne, absent]

section
variable {s : State} {pre post : List RingEntry} {e : RingEntry} {w : Travel}

theorem opensWindow_of {t : Travel} (window : e.window = some w) (fresh : e.decided = false)
    (opened : reached t w = true) : opensWindow t e = true := by
  simp [opensWindow, window, fresh, opened]

theorem State.bracketStartOne_of_run (ring : s.cs.ring = pre ++ e :: post)
    (before : ∀ x ∈ pre, opensWindow s.lp.travel x = false) (window : e.window = some w) (fresh : e.decided = false)
    (opened : reached s.lp.travel w = true) (free : s.cs.bracket = none) : s.bracketStartOne = { s with
      cs := { s.cs with
        ring := pre ++ { e with decided := true } :: post
        bracket := if s.bracketWidth = 0 then none
          else some { next := w + BitVec.ofNat 32 s.bracketStep, left := 2 * s.bracketWidth, step := s.bracketStep } }
      candidates :=
        s.candidates ++ [{ cls := .bracket, mask := s.classMask .bracket, item := false, audit := false }] } := by
  have opens : opensWindow s.lp.travel e = true := opensWindow_of window fresh opened
  have width : (if 2 * s.bracketWidth + 1 ≤ 1 then none else some ({
      next := w + BitVec.ofNat 32 s.bracketStep, left := 2 * s.bracketWidth + 1 - 1, step := s.bracketStep } :
        BracketRun)) = if s.bracketWidth = 0 then none else some {
      next := w + BitVec.ofNat 32 s.bracketStep, left := 2 * s.bracketWidth, step := s.bracketStep } := by
    by_cases zero : s.bracketWidth = 0
    · rw [if_pos zero, if_pos (by omega)]
    · rw [if_neg zero, if_neg (by omega)]
      rfl
  rw [State.bracketStartOne, ring, find_of_first before opens, updateFirst_of_first before opens]
  dsimp only
  rw [free, window]
  dsimp only
  rw [State.bracketPropose_of_due (b := { next := w, left := 2 * s.bracketWidth + 1, step := s.bracketStep })
    (by rfl) (by exact opened), ← width]
  rfl

theorem State.bracketStartOne_of_busy (ring : s.cs.ring = pre ++ e :: post)
    (before : ∀ x ∈ pre, opensWindow s.lp.travel x = false) (window : e.window = some w) (fresh : e.decided = false)
    (opened : reached s.lp.travel w = true) (busy : s.cs.bracket ≠ none) : s.bracketStartOne = { s with
      cs := { s.cs with ring := pre ++ { e with decided := true } :: post }
      counters := (s.bump .bracketBusy).counters } := by
  have opens : opensWindow s.lp.travel e = true := opensWindow_of window fresh opened
  obtain ⟨run, run_eq⟩ := Option.ne_none_iff_exists'.mp busy
  rw [State.bracketStartOne, ring, find_of_first before opens, updateFirst_of_first before opens]
  dsimp only
  rw [run_eq]
  rfl

end

theorem Steady.bracketStartOne : Steady State.bracketStartOne := fun s p e => by
  have travel : (s.placed p e).lp.travel = s.lp.travel := rfl
  have ring : (s.placed p e).cs.ring = s.cs.ring := rfl
  have bracket : (s.placed p e).cs.bracket = s.cs.bracket := rfl
  simp only [State.bracketStartOne, travel, ring, bracket]
  cases s.cs.ring.find? (opensWindow s.lp.travel) with
  | none => rfl
  | some x =>
    cases s.cs.bracket with
    | some run => rfl
    | none =>
      dsimp only
      cases x.window with
      | none => rfl
      | some w =>
        dsimp only
        exact Steady.bracketPropose { s with cs := { s.cs with
          ring := updateFirst (opensWindow s.lp.travel) (fun x => { x with decided := true }) s.cs.ring
          bracket := some { next := w, left := 2 * s.bracketWidth + 1, step := s.bracketStep } } } p e

theorem Steady.perTest (g : PerGen) : Steady (·.perTest g) :=
  Steady.ite (c := fun s => s.perOccurs g = true) (fun _ _ _ => by cases g <;> exact Iff.rfl)
    (Steady.ite (c := fun s => s.seqActive = false ∧ s.burstLeft g = 0) (fun _ _ _ => by cases g <;> exact Iff.rfl)
      (fun _ _ _ => by cases g <;> rfl) (Steady.bump .periodicSkipped))
    Steady.id

theorem Steady.perPropose (g : PerGen) : Steady (·.perPropose g) :=
  Steady.ite (c := fun s => s.burstLeft g = 0) (fun _ _ _ => by cases g <;> exact Iff.rfl) Steady.id
    (fun _ _ _ => by cases g <;> rfl)

/-- The row PERIODIC_OCCURRENCE, wherever it stands. -/
def State.perStep (g : PerGen) (s : State) : State :=
  if s.perServes g = true then (s.perTest g).perPropose g else s.perTest g

theorem Steady.perStep (g : PerGen) : Steady (State.perStep g) :=
  Steady.ite (c := fun s => s.perServes g = true) (fun _ _ _ => by cases g <;> exact Iff.rfl)
    ((Steady.perTest g).comp (Steady.perPropose g)) (Steady.perTest g)

section
variable {s : State} {g : PerGen}

theorem State.perTest_of_none (h : s.perOccurs g = false) : s.perTest g = s := if_neg (by rw [h]; decide)

theorem State.perTest_of_busy (occurs : s.perOccurs g = true) (busy : s.burstLeft g ≠ 0 ∨ s.seqActive = true) :
    s.perTest g = s.bump .periodicSkipped := by
  rw [State.perTest, if_pos occurs, if_neg]
  rintro ⟨quiet, zero⟩
  rcases busy with h | h
  · exact h zero
  · exact absurd (h.symm.trans quiet) (by decide)

theorem State.perTest_of_free (occurs : s.perOccurs g = true) (quiet : s.seqActive = false)
    (zero : s.burstLeft g = 0) : s.perTest g = (s.setBurstLeft g (s.burst g)).setPerRequest g false := by
  rw [State.perTest, if_pos occurs, if_pos ⟨quiet, zero⟩]

/-- An occurrence that is not served, and one that is. -/
theorem State.perStep_of_unserved (h : s.perOccurs g = false ∨ s.burstLeft g ≠ 0 ∨ s.seqActive = true) :
    s.perStep g = s.perTest g := by
  refine if_neg ?_
  simp only [State.perServes, Bool.and_eq_true, Bool.not_eq_true', beq_iff_eq]
  rintro ⟨⟨occurs, quiet⟩, zero⟩
  simp [occurs, quiet, zero] at h

theorem State.perStep_of_served (occurs : s.perOccurs g = true) (quiet : s.seqActive = false)
    (zero : s.burstLeft g = 0) : s.perStep g = (s.perTest g).perPropose g :=
  if_pos (by simp [State.perServes, occurs, quiet, zero])

/-- A test that serves nothing leaves the burst counts alone. -/
theorem State.perTest_unserved (h : s.perOccurs g = false ∨ s.burstLeft g ≠ 0 ∨ s.seqActive = true) :
    s.perTest g = { s with counters := (s.perTest g).counters } := by
  by_cases occurs : s.perOccurs g = true
  · rw [State.perTest_of_busy occurs (h.resolve_left (by rw [occurs]; decide))]
    rfl
  · rw [State.perTest_of_none (Bool.eq_false_iff.mpr occurs)]

end

/-- BURST as used is at least 1 (section 3.1). -/
theorem State.burst_pos (s : State) (g : PerGen) : 1 ≤ s.burst g := by
  unfold State.burst clampTo
  omega

/-- Settles O39: the windows, then the occurrences. -/
theorem runsAndBurstsStart : Obligations.RunsAndBurstsStart := by
  refine ⟨fun s t g => ⟨?_, fun zero => ?_, fun busy after => ?_⟩,
    fun s pre post e w g h occurs => ⟨fun none => ?_, fun ring before window fresh opened free => ?_,
      fun ring before window fresh opened busy => ?_, fun is => ⟨fun no => ?_, fun yes busy => ?_,
        fun yes zero sr fr => ?_⟩⟩⟩
  · have rows : ∀ x : State, x.row .bracketStart = x.bracketStartOne := fun x =>
      State.row_of_steady (c := .bracketStart) Steady.bracketStartOne (p := .step) rfl
    simp only [rows]
    have all := iterate_eq_foldl State.bracketStartOne (List.range s.cs.ring.length) s
    rwa [List.length_range] at all
  · rw [State.row_of_steady (c := .periodicOccurrence g) (Steady.perStep g) (p := .step) rfl]
    by_cases served : s.perOccurs g = true ∧ s.seqActive = false
    · exact (State.perStep_of_served served.1 served.2 zero).symm
    · have unserved : s.perOccurs g = false ∨ s.burstLeft g ≠ 0 ∨ s.seqActive = true := by
        cases occurs : s.perOccurs g with
        | false => exact .inl rfl
        | true => exact .inr (.inr (Bool.not_eq_false _ |>.mp fun quiet => served ⟨occurs, quiet⟩))
      have kept : (s.perTest g).burstLeft g = 0 := by
        rw [State.perTest_unserved unserved]
        cases g <;> exact zero
      rw [State.perStep_of_unserved unserved, State.perPropose, if_pos kept]
  · have unserved : s.perOccurs g = false ∨ s.burstLeft g ≠ 0 ∨ s.seqActive = true := .inr (.inl busy)
    rw [State.row_of_steady (c := .periodicOccurrence g) (Steady.perStep g) (p := .step) rfl,
      State.perStep_of_unserved unserved]
    have left : (s.perTest g).burstLeft g = s.burstLeft g := by
      rw [State.perTest_unserved unserved]
      cases g <;> rfl
    have goes : t = ((s.perTest g).setBurstLeft g (s.burstLeft g - 1)).propose .periodic := by
      rw [after, State.perPropose, left, if_neg busy]
    have tested := State.perTest_unserved unserved
    generalize s.perTest g = x at *
    rw [goes, tested]
    refine ⟨by cases g <;> rfl, by cases g <;> rfl, fun h other => ?_⟩
    cases g <;> cases h <;> first | exact absurd rfl other | rfl
  · have row := State.exec_of_steady (c := .bracketStart) (s := s) Steady.bracketStartOne (p := .step) rfl
    rw [row, State.bracketStartOne_of_none none, State.arrive_eq_placed]
  · have row := State.exec_of_steady (c := .bracketStart) (s := s) Steady.bracketStartOne (p := .step) rfl
    rw [row, State.bracketStartOne_of_run ring before window fresh opened free, State.arrive_eq_placed]
    rfl
  · have row := State.exec_of_steady (c := .bracketStart) (s := s) Steady.bracketStartOne (p := .step) rfl
    rw [row, State.bracketStartOne_of_busy ring before window fresh opened busy, State.arrive_eq_placed]
    rfl
  · have test : s.perOccurs g = occurs := is.symm
    have row := State.exec_of_steady (c := .periodicOccurrence g) (s := s) (Steady.perStep g) (p := .step) rfl
    rw [row, State.perStep_of_unserved (.inl (test.trans no)), State.perTest_of_none (test.trans no),
      State.arrive_eq_placed]
  · have test : s.perOccurs g = occurs := is.symm
    have row := State.exec_of_steady (c := .periodicOccurrence g) (s := s) (Steady.perStep g) (p := .step) rfl
    have unserved : s.burstLeft g ≠ 0 ∨ s.seqActive = true := by simpa [State.seqActive] using busy
    rw [row, State.perStep_of_unserved (.inr unserved), State.perTest_of_busy (test.trans yes) unserved,
      State.arrive_eq_placed]
    rfl
  · have test : s.perOccurs g = occurs := is.symm
    have row := State.exec_of_steady (c := .periodicOccurrence g) (s := s) (Steady.perStep g) (p := .step) rfl
    have quiet : s.seqActive = false := by simp [State.seqActive, sr, fr]
    have left : ((s.setBurstLeft g (s.burst g)).setPerRequest g false).burstLeft g = s.burst g := by cases g <;> rfl
    have some : ¬ s.burst g = 0 := by
      have := s.burst_pos g
      omega
    rw [row, State.perStep_of_served (test.trans yes) quiet zero, State.perTest_of_free (test.trans yes) quiet zero,
      State.perPropose, left, if_neg some, State.arrive_eq_placed]
    generalize s.burst g = n
    generalize n - 1 = m
    refine ⟨_, rfl, by cases g <;> rfl, by cases g <;> rfl, by cases g <;> rfl, fun other => ?_⟩
    have : (g = .p1 ∧ h = .p2) ∨ g = .p2 ∧ h = .p1 := by
      cases g <;> cases h <;> simp at other ⊢
    rcases this with ⟨rfl, rfl⟩ | ⟨rfl, rfl⟩ <;>
      simp only [State.burstLeft, State.perRequest, State.placed, State.propose, State.setBurstLeft,
        State.setPerRequest, and_self]

end Sys2Proof.Machine
end

section
/-! SUPPORT. The proposal of a position event (R55), the holds (section 4.3), and step 8 (R30) stage by stage. -/

namespace Sys2Proof.Machine

/-! ### The proposal (R55) -/

theorem foldl_higherClass (l : List Candidate) (k : CaptureClass) :
    (k = l.foldl (fun k x => higherClass k x.cls) k ∨ ∃ c ∈ l, c.cls = l.foldl (fun k x => higherClass k x.cls) k) ∧
    k.code ≤ (l.foldl (fun k x => higherClass k x.cls) k).code ∧
    ∀ c ∈ l, c.cls.code ≤ (l.foldl (fun k x => higherClass k x.cls) k).code := by
  induction l generalizing k with
  | nil => exact ⟨.inl rfl, le_rfl, fun c hc => absurd hc (by simp)⟩
  | cons a l ih =>
    obtain ⟨among, atLeast, all⟩ := ih (higherClass k a.cls)
    have step : k.code ≤ (higherClass k a.cls).code ∧ a.cls.code ≤ (higherClass k a.cls).code ∧
        (higherClass k a.cls = k ∨ higherClass k a.cls = a.cls) := by
      unfold higherClass
      split
      · next lower => exact ⟨lower.le, le_rfl, .inr rfl⟩
      · next higher => exact ⟨le_rfl, not_lt.mp higher, .inl rfl⟩
    obtain ⟨own, other, which⟩ := step
    refine ⟨?_, own.trans atLeast, fun c hc => ?_⟩
    · rw [List.foldl_cons]
      rcases among with same | ⟨c, hc, same⟩
      · rcases which with first | second
        · exact .inl (first.symm.trans same)
        · exact .inr ⟨a, List.mem_cons_self, second.symm.trans same⟩
      · exact .inr ⟨c, List.mem_cons_of_mem a hc, same⟩
    · rcases List.mem_cons.mp hc with rfl | hc
      · exact other.trans atLeast
      · exact all c hc

theorem inMask_foldl (l : List Candidate) (m : BitVec 4) (g : Group) :
    inMask (l.foldl (fun m x => m ||| x.mask) m) g = (inMask m g || l.any fun c => inMask c.mask g) := by
  induction l generalizing m with
  | nil => simp
  | cons a l ih =>
    rw [List.foldl_cons, ih, List.any_cons]
    simp [inMask, Bool.or_assoc]

theorem State.proposal_none (s : State) : s.candidates = [] ↔ s.proposal = none := by
  unfold State.proposal
  cases s.candidates <;> simp

theorem State.proposal_some {s : State} {p : Proposal} (h : s.proposal = some p) :
    (∃ c ∈ s.candidates, c.cls = p.cls) ∧ (∀ c ∈ s.candidates, c.cls.code ≤ p.cls.code) ∧
    (∀ g, inMask p.mask g = s.candidates.any fun c => inMask c.mask g) ∧
    p.item = s.candidates.any Candidate.item ∧ p.audit = s.candidates.any Candidate.audit ∧
    p.expects = (p.item || s.classExpects p.cls) := by
  unfold State.proposal at h
  cases candidates : s.candidates with
  | nil => simp [candidates] at h
  | cons c cs =>
    simp only [candidates, Option.some.injEq] at h
    obtain ⟨among, first, rest⟩ := foldl_higherClass cs c.cls
    subst h
    refine ⟨?_, fun x hx => ?_, fun g => ?_, rfl, rfl, rfl⟩
    · rcases among with same | ⟨x, hx, same⟩
      · exact ⟨c, List.mem_cons_self, same⟩
      · exact ⟨x, List.mem_cons_of_mem c hx, same⟩
    · rcases List.mem_cons.mp hx with rfl | hx
      · exact first
      · exact rest x hx
    · dsimp only
      rw [List.foldl_cons, inMask_foldl, List.any_cons]
      simp [inMask]

/-! ### The holds -/

theorem State.linkHold_iff (s : State) (g : Group) : s.linkHold g = true ↔ ∃ x ∈ s.sl.stations, x.group = g ∧
    ((x.state = .present ∨ x.state = .suspect) ∧ s.busyLevel ≤ x.busy.toNat ∨
      x.state = .absent ∧ s.absentHolds = true) := by
  have one : ∀ x, s.stationHolds g x = true ↔ x.group = g ∧
      ((x.state = .present ∨ x.state = .suspect) ∧ s.busyLevel ≤ x.busy.toNat ∨
        x.state = .absent ∧ s.absentHolds = true) := fun x => by
    unfold State.stationHolds
    cases x.state <;> simp
  simp [State.linkHold, one]

theorem State.globalHold_eq (s : State) : s.globalHold = (
      s.ad.modelA.hold && s.flagOf .adHoldEn 0 || s.ad.modelB.hold && s.flagOf .adHoldEn 1 ||
      s.ad.modelC.hold && s.flagOf .adHoldEn 2 || s.ad.modelD.hold && s.flagOf .adHoldEn 3 ||
      s.pins.busy0 && s.flagOf .adHoldEn 4 || s.pins.busy1 && s.flagOf .adHoldEn 5 ||
      s.linkHold .a && s.flagOf .adHoldEn 6 || s.linkHold .b && s.flagOf .adHoldEn 7 ||
      s.linkHold .c && s.flagOf .adHoldEn 8 || s.linkHold .d && s.flagOf .adHoldEn 9 ||
      s.flagOf .adPause 0 || decide (s.ad.spacing < s.minSpacing) ||
      (s.sq.sr.state != .idle || s.sq.fr.state != .idle) ||
      s.flagOf .adSafetyEn 0 && (decide (s.ledgerHigh ≤ s.lg.entries.length) || decide (56 ≤ s.sl.tagQ.length) ||
        decide (6 ≤ s.sl.routeQ.length)) ||
      decide (512 ≤ s.lg.entries.length) ||
      s.flagOf .adQuotaEn 0 && decide ((s.reg .adQuota).toNat ≤ s.ad.quotaCount.toNat) ||
      s.rc.state != .running) := by
  have enables : s.holdEnables = [s.flagOf .adHoldEn 0, s.flagOf .adHoldEn 1, s.flagOf .adHoldEn 2,
      s.flagOf .adHoldEn 3, s.flagOf .adHoldEn 4, s.flagOf .adHoldEn 5, s.flagOf .adHoldEn 6, s.flagOf .adHoldEn 7,
      s.flagOf .adHoldEn 8, s.flagOf .adHoldEn 9, true, true, true, s.flagOf .adSafetyEn 0, s.flagOf .adSafetyEn 0,
      s.flagOf .adSafetyEn 0, true, s.flagOf .adQuotaEn 0, true] := rfl
  rw [State.globalHold, enables, State.activeHolds]
  simp only [List.zip_cons_cons, List.any_cons, List.zip_nil_left, List.any_nil, Bool.and_true, Bool.or_false,
    Bool.and_or_distrib_right, Bool.or_assoc, State.seqActive, Config.tagHigh, Config.routeHigh, Config.ledger,
    Bool.and_comm (s.flagOf .adSafetyEn 0), Bool.and_comm (s.flagOf .adQuotaEn 0)]
  rfl

/-! ### Step 8, stage by stage -/

/-- The quota count after a step 8 (R62). -/
def State.quotaAfter (s : State) (admitted : Bool) : Word :=
  if admitted = true ∧ s.ad.quotaCount ≠ 0xFFFFFFFF#32 then s.ad.quotaCount + 1#32 else s.ad.quotaCount

/-- The flags that a step 8 adds (R62, R78). -/
def State.quotaFlag (s : State) (admitted : Bool) : Word :=
  if admitted = true ∧ s.quotaEnabled = true ∧ s.quotaAfter admitted = s.reg .adQuota then 0x40000#32 else 0#32

def State.highFlag (s : State) : Word :=
  if s.lg.high = false ∧ s.ledgerHigh ≤ s.lg.entries.length then 0x80#32 else 0#32

/-- A flag added to none: the run control stays. -/
theorem RunControl.or_zero (r : RunControl) : { r with flags := r.flags ||| 0#32 } = r := by
  rw [BitVec.or_zero]

theorem State.countAdmission_eq (s : State) (admitted : Bool) : s.countAdmission admitted = { s with
    ad := { s.ad with
      spacing := if admitted then 1 else min 65535 (s.ad.spacing + 1), quotaCount := s.quotaAfter admitted }
    rc := { s.rc with flags := s.rc.flags ||| s.quotaFlag admitted } } := by
  cases admitted with
  | false =>
    have count : s.quotaAfter false = s.ad.quotaCount := if_neg (by simp)
    have flag : s.quotaFlag false = 0#32 := if_neg (by simp)
    rw [count, flag, RunControl.or_zero]
    rfl
  | true =>
    have count : (if s.ad.quotaCount = BitVec.allOnes 32 then s.ad.quotaCount else s.ad.quotaCount + 1#32) =
        s.quotaAfter true := by
      have ones : BitVec.allOnes 32 = 0xFFFFFFFF#32 := by decide
      unfold State.quotaAfter
      rw [ones]
      by_cases last : s.ad.quotaCount = 0xFFFFFFFF#32 <;> simp [last]
    have counted : ∀ x : State, x = { s with ad := { s.ad with spacing := 1, quotaCount := s.quotaAfter true } } →
        (if x.quotaEnabled = true ∧ x.ad.quotaCount = x.reg .adQuota then x.raise .quotaReached else x) =
          { x with rc := { s.rc with flags := s.rc.flags ||| s.quotaFlag true } } := by
      rintro x rfl
      by_cases reached : s.quotaEnabled = true ∧ s.quotaAfter true = s.reg .adQuota
      · have flag : s.quotaFlag true = 0x40000#32 := if_pos ⟨rfl, reached⟩
        rw [if_pos (by exact reached), flag]
        rfl
      · have flag : s.quotaFlag true = 0#32 := if_neg fun h => reached h.2
        rw [if_neg (by exact reached), flag, RunControl.or_zero]
    refine Eq.trans ?_ (counted _ rfl)
    rw [← count]
    rfl

theorem State.evalLedgerHigh_eq (s : State) : s.evalLedgerHigh = { s with
    lg := { s.lg with high := decide (s.ledgerHigh ≤ s.lg.entries.length) }
    rc := { s.rc with flags := s.rc.flags ||| s.highFlag } } := by
  unfold State.evalLedgerHigh
  by_cases full : s.ledgerHigh ≤ s.lg.entries.length
  · cases high : s.lg.high with
    | true =>
      have flag : s.highFlag = 0#32 := if_neg (by simp [high])
      have kept : ({ s.lg with high := true } : Ledger) = s.lg := by rw [← high]
      simp only [full, if_true, decide_true, flag, RunControl.or_zero, kept]
    | false =>
      have flag : s.highFlag = 0x80#32 := if_pos ⟨high, full⟩
      simp only [full, if_true, decide_true, flag, Bool.false_eq_true, if_false]
      rfl
  · have flag : s.highFlag = 0#32 := if_neg fun h => full h.2
    simp only [full, if_false, decide_false, flag, RunControl.or_zero]

/-- A list of flags as a word, bit by bit. -/
theorem bit_flagWord (l : List Bool) (short : l.length ≤ 32) (i : Nat) : bit (flagWord l) i = l.getD i false := by
  have fold : ∀ (l : List Bool) (n : Nat) (w : Word), n + l.length ≤ 32 →
      bit ((l.zipIdx n).foldl (fun w (x : Bool × Nat) => w ||| flagAt x.1 x.2) w) i =
        (bit w i || (decide (n ≤ i) && l.getD (i - n) false)) := by
    intro l
    induction l with
    | nil => intro n w _; simp
    | cons b l ih =>
      intro n w fits
      rw [List.length_cons] at fits
      rw [List.zipIdx_cons, List.foldl_cons, ih (n + 1) _ (by omega), bit_or, bit_flagAt b (by omega)]
      rcases lt_trichotomy i n with below | rfl | above
      · simp [Nat.not_le.mpr below, Nat.not_le.mpr (show i < n + 1 by omega), show n ≠ i by omega]
      · simp
      · obtain ⟨k, rfl⟩ : ∃ k, i = n + 1 + k := ⟨i - (n + 1), by omega⟩
        simp [show n ≤ n + 1 + k by omega, show n + 1 + k - n = k + 1 by omega, show n ≠ n + 1 + k by omega]
  have all := fold l 0 0#32 (by omega)
  simpa [flagWord, bit] using all

/-- The hold-position counters after a step 8 (R64). -/
def State.holdsCounted (s : State) (active : List Bool) : State :=
  active.zipIdx.foldl (fun s (x : Bool × Nat) => if x.1 then s.bump (.holdPosition x.2) else s) s

theorem State.holdsCounted_counts (s : State) (active : List Bool) (i : Nat) :
    s.counts (s.holdsCounted active) (.holdPosition i) (if active.getD i false = true then 1 else 0) := by
  have fold : ∀ (l : List Bool) (n : Nat) (s : State),
      s.counts ((l.zipIdx n).foldl (fun s (x : Bool × Nat) => if x.1 then s.bump (.holdPosition x.2) else s) s)
        (.holdPosition i) (if n ≤ i ∧ l.getD (i - n) false = true then 1 else 0) := by
    intro l
    induction l with
    | nil =>
      intro n s
      rw [if_neg (by simp)]
      exact State.counts.of_eq rfl
    | cons b l ih =>
      intro n s
      have one : s.counts (if b = true then s.bump (.holdPosition n) else s) (.holdPosition i)
          (if n = i ∧ b = true then 1 else 0) := by
        by_cases set : b = true
        · rw [if_pos set]
          by_cases here : n = i
          · rw [if_pos ⟨here, set⟩, here]
            exact State.counts.bumpBy s _ 1
          · rw [if_neg fun h => here h.1]
            refine State.counts.bump_other s _ ?_
            simp only [Ctr.offset, ne_eq, Nat.add_left_cancel_iff]
            exact fun h => here h.symm
        · rw [if_neg set, if_neg fun h => set h.2]
          exact State.counts.of_eq rfl
      have all := one.trans (ih (n + 1) _)
      rw [List.zipIdx_cons, List.foldl_cons]
      convert all using 1
      rcases lt_trichotomy i n with below | rfl | above
      · simp [Nat.not_le.mpr below, Nat.not_le.mpr (show i < n + 1 by omega), show n ≠ i by omega]
      · simp
      · obtain ⟨k, rfl⟩ : ∃ k, i = n + 1 + k := ⟨i - (n + 1), by omega⟩
        simp [show n ≤ n + 1 + k by omega, show n + 1 + k - n = k + 1 by omega, show n ≠ n + 1 + k by omega]
  have all := fold active 0 s
  rw [Nat.sub_zero] at all
  simpa only [Nat.zero_le, true_and, State.holdsCounted] using all

theorem State.holdsCounted_held (s : State) (active : List Bool) :
    s.counts (s.holdsCounted active) .heldPositions 0 := by
  have one : ∀ (s : State) (x : Bool × Nat),
      s.counts (if x.1 = true then s.bump (.holdPosition x.2) else s) .heldPositions 0 := fun s x => by
    split
    · refine State.counts.bump_other s _ ?_
      simp only [Ctr.offset]
      omega
    · exact State.counts.of_eq rfl
  have all := State.counts.foldl one active.zipIdx s
  rwa [Nat.mul_zero] at all

theorem State.holdsCounted_eq (s : State) (active : List Bool) :
    s.holdsCounted active = { s with counters := (s.holdsCounted active).counters } := by
  have fold : ∀ (l : List (Bool × Nat)) (s : State),
      l.foldl (fun s (x : Bool × Nat) => if x.1 then s.bump (.holdPosition x.2) else s) s = { s with counters :=
        (l.foldl (fun s (x : Bool × Nat) => if x.1 then s.bump (.holdPosition x.2) else s) s).counters } := by
    intro l
    induction l with
    | nil => intro s; rfl
    | cons x l ih =>
      intro s
      rw [List.foldl_cons, ih]
      split <;> rfl
  exact fold _ s

/-- AD_HOLD_STATUS and the hold-position counters of an event (R64). -/
theorem State.writeHolds_spec (s : State) (active : List Bool) (global : Bool) :
    s.writeHolds active global = { s with
      ad := { s.ad with holdStatus := Machine.flagWord active ||| flagAt global 31 }
      counters := (s.writeHolds active global).counters } ∧
    (∀ i, s.counts (s.writeHolds active global) (.holdPosition i) (if active.getD i false = true then 1 else 0)) ∧
    s.counts (s.writeHolds active global) .heldPositions (if global = true then 1 else 0) := by
  have does : s.writeHolds active global = if global = true then
      (State.holdsCounted { s with ad := { s.ad with holdStatus := Machine.flagWord active ||| flagAt global 31 } }
        active).bump .heldPositions
      else State.holdsCounted { s with ad := { s.ad with holdStatus := Machine.flagWord active ||| flagAt global 31 } }
        active := rfl
  obtain ⟨x, hx⟩ : ∃ x : State, x = { s with
    ad := { s.ad with holdStatus := Machine.flagWord active ||| flagAt global 31 } } := ⟨_, rfl⟩
  rw [← hx] at does
  have before : ∀ k, s.counts x k 0 := fun k => State.counts.of_eq (by rw [hx])
  have holds := fun i => (before _).trans (x.holdsCounted_counts active i)
  have held := (before _).trans (x.holdsCounted_held active)
  have parts := x.holdsCounted_eq active
  simp only [Nat.zero_add] at holds
  rw [does]
  generalize x.holdsCounted active = y at *
  split
  · next on =>
    refine ⟨?_, fun i => ?_, held.trans (State.counts.bumpBy y .heldPositions 1)⟩
    · rw [parts, hx]
      rfl
    · refine (holds i).trans (State.counts.bump_other (k := .holdPosition i) y .heldPositions ?_)
      simp only [Ctr.offset]
      omega
  · next off =>
    refine ⟨?_, holds, held⟩
    rw [parts, hx]

/-- What step 8 evaluates before a flush, a fault and the drained test (R30, R61, R62, R64, R78). -/
def State.evaluated (s : State) (active : List Bool) (global admitted : Bool) : State :=
  ((s.countAdmission admitted).evalLedgerHigh).writeHolds active global

theorem State.evaluated_spec (s : State) (active : List Bool) (global admitted : Bool) :
    s.evaluated active global admitted = { s with
      ad := { s.ad with
        spacing := if admitted then 1 else min 65535 (s.ad.spacing + 1), quotaCount := s.quotaAfter admitted
        holdStatus := Machine.flagWord active ||| flagAt global 31 }
      lg := { s.lg with high := decide (s.ledgerHigh ≤ s.lg.entries.length) }
      rc := { s.rc with flags := s.rc.flags ||| s.quotaFlag admitted ||| s.highFlag }
      counters := (s.evaluated active global admitted).counters } ∧
    (∀ i, s.counts (s.evaluated active global admitted) (.holdPosition i)
      (if active.getD i false = true then 1 else 0)) ∧
    s.counts (s.evaluated active global admitted) .heldPositions (if global = true then 1 else 0) := by
  have before : (s.countAdmission admitted).evalLedgerHigh = { s with
      ad := { s.ad with
        spacing := if admitted then 1 else min 65535 (s.ad.spacing + 1), quotaCount := s.quotaAfter admitted }
      lg := { s.lg with high := decide (s.ledgerHigh ≤ s.lg.entries.length) }
      rc := { s.rc with flags := s.rc.flags ||| s.quotaFlag admitted ||| s.highFlag } } := by
    rw [State.evalLedgerHigh_eq, State.countAdmission_eq]
    rfl
  obtain ⟨parts, holds, held⟩ := ((s.countAdmission admitted).evalLedgerHigh).writeHolds_spec active global
  have same : ∀ k, s.counts (s.countAdmission admitted).evalLedgerHigh k 0 := fun k =>
    State.counts.of_eq (by rw [before])
  refine ⟨?_, fun i => ?_, ?_⟩
  · unfold State.evaluated
    rw [parts, before]
  · have all := (same _).trans (holds i)
    rwa [Nat.zero_add] at all
  · have all := (same _).trans held
    rwa [Nat.zero_add] at all

/-! ### The end of step 8 -/

section
variable {s : State}

theorem State.drainedTest_of_running (h : s.rc.state ≠ .draining) : s.drainedTest = s := if_neg fun both => h both.1

theorem State.drainedTest_of_busy (h : s.isDrained = false) : s.drainedTest = s :=
  if_neg fun both => absurd (both.2.symm.trans h) (by decide)

theorem State.drainedTest_of_drained (state : s.rc.state = .draining) (empty : s.isDrained = true) :
    s.drainedTest = { s with rc := { s.rc with state := .halted, flags := s.rc.flags ||| 0x10000#32 } } :=
  if_pos ⟨state, empty⟩

theorem State.settleFaults_of_none (h : s.rc.deferred = []) : s.settleFaults = s := by
  simp only [State.settleFaults, h]

/-- Nothing of the run is left (R169), and something is. -/
theorem State.isDrained_of (lg : s.lg.entries = []) (ring : s.cs.ring = []) (sense : s.cs.sensePending = false)
    (tag : s.sl.tagQ = []) (route : s.sl.routeQ = []) : s.isDrained = true := by
  simp [State.isDrained, lg, ring, sense, tag, route]

theorem State.not_isDrained_of (h : s.lg.entries ≠ [] ∨ s.cs.ring ≠ [] ∨ s.cs.sensePending = true ∨ s.sl.tagQ ≠ [] ∨
    s.sl.routeQ ≠ []) : s.isDrained = false := by
  rcases h with h | h | h | h | h <;> simp [State.isDrained, h]

theorem State.flushRoute_of_empty (h : s.br.openCount = 0) : s.flushRoute = s.bump .flushEmpty := if_pos h

theorem State.flushRoute_of_open (h : s.br.openCount ≠ 0) : s.flushRoute = s.closeBatch true s.br.openCount := if_neg h

/-- The run control of a fault that is entered at step 8 (R172). -/
def State.settledFault (s : State) (e : Event) (es : List Event) : RunControl :=
  { s.rc with
    state := .faulted, faultFirst := e.num, deferred := [], flags := s.rc.flags ||| 2#32
    faultCauses := (e :: es).foldl (fun w x => w ||| 1#32 <<< x.num) 0#32 }

/-- The faults of a position event are settled by one entry with its flush; the run is then not drained. -/
theorem State.settleFaults_of_some {e : Event} {es : List Event} (h : s.rc.deferred = e :: es) :
    s.settleFaults.drainedTest = State.flushRoute { s with rc := s.settledFault e es } := by
  have settled : s.settleFaults = State.flushRoute { s with rc := s.settledFault e es } := by
    simp only [State.settleFaults, h]
    rfl
  have faulted : (State.flushRoute { s with rc := s.settledFault e es }).rc.state ≠ .draining := by
    rw [(State.flushRoute_spec _).1]
    exact (by decide : RunState.faulted ≠ .draining)
  rw [settled, State.drainedTest_of_running faulted]

end

/-- Settles O41: the proposal, the holds, and step 8 from its evaluations to its end. -/
theorem proposalsAndHoldsAreEvaluated : Obligations.ProposalsAndHoldsAreEvaluated := by
  refine ⟨fun s => ⟨s.proposal_none, fun none => ?_, fun p hp => State.proposal_some hp⟩,
    fun s g => ⟨s.linkHold_iff g, rfl, s.globalHold_eq⟩, ?_⟩
  · have absent := s.proposal_none.mp none
    rw [State.stepSeven, absent]
    dsimp only
    rw [← none]
  · intro s t u z active global admitted flush q i k ks tables len hz hu ht hq
    have eval : u = s.evaluated active global admitted := hu
    have quota : q = s.quotaAfter admitted := hq
    obtain ⟨parts, holds, held⟩ := s.evaluated_spec active global admitted
    rw [← eval] at parts holds held
    have wf := State.counters_canonical tables
    have finish : t = (if flush then u.flushRoute else u).settleFaults.drainedTest := by
      rw [ht, hu]
      rfl
    have state : u.rc.state = s.rc.state := by rw [parts]
    have deferred : u.rc.deferred = s.rc.deferred := by rw [parts]
    have opened : u.br.openCount = s.br.openCount := by rw [parts]
    have drained : u.isDrained = s.isDrained := by rw [parts]; rfl
    have bits : ∀ i, i < 32 → bit u.ad.holdStatus i = (active.getD i false || (global && decide (31 = i))) := by
      intro i hi
      rw [parts]
      dsimp only
      rw [bit_or, bit_flagWord active (by omega), bit_flagAt global (by decide)]
    have beyond : ∀ i, 19 ≤ i → active.getD i false = false := fun i hi => by
      rw [List.getD_eq_getElem?_getD, List.getElem?_eq_none (by omega)]
      rfl
    refine ⟨?_, ?_, ?_, ?_, fun low => ⟨?_, ?_⟩, fun high below => ?_, ?_, ?_, fun noFlush none running => ?_,
      fun noFlush none draining => ⟨fun lg ring sense tag route => ?_, fun busy => ?_⟩,
      fun flushes none => ⟨fun empty busy => ?_, fun empty draining lg ring sense tag route => ?_, fun batch => ?_⟩,
      fun some => ⟨?_, fun empty => ?_, fun batch => ?_⟩⟩
    · rw [parts]
    · rw [parts, quota]
    · rw [parts]
    · rw [parts, quota]
      rfl
    · rw [bits i (by omega), show decide (31 = i) = false from decide_eq_false (by omega), Bool.and_false,
        Bool.or_false]
    · refine (holds i wf).2.trans (congrArg (s.counter (.holdPosition i) + ·) ?_)
      split <;> rfl
    · rw [bits i (by omega), show decide (31 = i) = false from decide_eq_false (by omega), Bool.and_false,
        Bool.or_false,
        beyond i high]
    · rw [bits 31 (by decide), beyond 31 (by decide)]
      simp
    · refine (held wf).2.trans (congrArg (s.counter .heldPositions + ·) ?_)
      split <;> rfl
    · rw [finish, noFlush]
      exact (congrArg State.drainedTest (State.settleFaults_of_none (deferred.trans none))).trans
        (State.drainedTest_of_running (by rw [state]; exact running))
    · rw [finish, noFlush]
      exact (congrArg State.drainedTest (State.settleFaults_of_none (deferred.trans none))).trans
        (State.drainedTest_of_drained (state.trans draining)
          (drained.trans (State.isDrained_of lg ring sense tag route)))
    · rw [finish, noFlush]
      exact (congrArg State.drainedTest (State.settleFaults_of_none (deferred.trans none))).trans
        (State.drainedTest_of_busy (drained.trans (State.not_isDrained_of busy)))
    · rw [finish, if_pos flushes, State.flushRoute_of_empty (opened.trans empty),
        State.settleFaults_of_none (by exact deferred.trans none)]
      rcases busy with running | busy
      · exact State.drainedTest_of_running (by exact state.symm ▸ running)
      · exact State.drainedTest_of_busy (by exact drained.trans (State.not_isDrained_of busy))
    · rw [finish, if_pos flushes, State.flushRoute_of_empty (opened.trans empty),
        State.settleFaults_of_none (by exact deferred.trans none)]
      exact State.drainedTest_of_drained (by exact state.trans draining)
        (by exact drained.trans (State.isDrained_of lg ring sense tag route))
    · have closed : u.flushRoute = z := by
        rw [State.flushRoute_of_open (by rw [opened]; exact batch), opened, hz]
      have none' : z.rc.deferred = [] := by
        rw [hz, State.closeBatch_rc]
        exact deferred.trans none
      rw [finish, if_pos flushes, closed, State.settleFaults_of_none none',
        State.drainedTest_of_busy (by rw [hz]; exact State.closeBatch_not_drained _ _ _)]
    · obtain ⟨w, hw⟩ : ∃ w, w = if flush then u.flushRoute else u := ⟨_, rfl⟩
      have flags : w.rc = { u.rc with flags := w.rc.flags } := by
        rw [hw]
        split
        · exact congrArg State.rc u.flushRoute_spec.1
        · rfl
      have pending : w.rc.deferred = k :: ks := by
        rw [flags]
        exact deferred.trans some
      rw [← hw, State.settleFaults_of_some pending] at finish
      have entered := congrArg State.rc (State.flushRoute_spec { w with rc := w.settledFault k ks }).1
      rw [finish]
      refine entered.trans ?_
      rw [State.settledFault, flags]
    · have pending : u.rc.deferred = k :: ks := deferred.trans some
      have none : u.br.openCount = 0 := opened.trans empty
      cases flush with
      | true =>
        have settled : t = State.flushRoute { u.bump .flushEmpty with rc := u.settledFault k ks } := by
          rw [finish, if_pos rfl, State.flushRoute_of_empty none]
          exact State.settleFaults_of_some (s := u.bump .flushEmpty) pending
        rw [settled, State.flushRoute_of_empty (by exact none)]
        rfl
      | false =>
        have settled : t = State.flushRoute { u with rc := u.settledFault k ks } := by
          rw [finish, if_neg (by decide), State.settleFaults_of_some pending]
        rw [settled, State.flushRoute_of_empty (by exact none)]
        rfl
    · have some' : u.br.openCount ≠ 0 := by rw [opened]; exact batch
      cases flush with
      | true =>
        have closed : u.flushRoute = z := by rw [State.flushRoute_of_open some', opened, hz]
        have pending : z.rc.deferred = k :: ks := by
          rw [hz, State.closeBatch_rc]
          exact deferred.trans some
        have emptied : z.br.openCount = 0 := by
          rw [← closed]
          exact u.flushRoute_spec.2
        have settled : t = State.flushRoute { z with rc := z.settledFault k ks } := by
          rw [finish, if_pos rfl, closed, State.settleFaults_of_some pending]
        rw [settled, State.flushRoute_of_empty (by exact emptied)]
        rfl
      | false =>
        have settled : t = State.flushRoute { u with rc := u.settledFault k ks } := by
          rw [finish, if_neg (by decide), State.settleFaults_of_some (deferred.trans some)]
        have raised := State.closeBatch_raised u u.port (r := u.settledFault k ks) (f := 2#32) rfl true s.br.openCount
        have port : z.port = u.port := by rw [hz]; simp
        rw [← hz, ← port] at raised
        have closed : t = { z with rc := { u.settledFault k ks with flags := z.rc.flags ||| 2#32 } } := by
          rw [settled, State.flushRoute_of_open (by exact some')]
          refine Eq.trans ?_ raised
          rw [port]
          exact congrArg _ opened
        rw [closed]
        rfl

end Sys2Proof.Machine
end

section
/-! SUPPORT. Retirement (R111, R117): the record and the notice it lays out (section 7.5, R128), and each of its
parts. -/

namespace Sys2Proof.Machine

/-! ### Layouts -/

/-- Two parts side by side, as a number. -/
theorem toNat_append_eq {m n : Nat} (x : BitVec m) (y : BitVec n) : (x ++ y).toNat = x.toNat * 2 ^ n + y.toNat := by
  rw [BitVec.toNat_append, ← Nat.shiftLeft_add_eq_or_of_lt y.isLt, Nat.shiftLeft_eq]

/-- A field as a number. -/
theorem field_eq (w : Word) (i n : Nat) : field w i n = w.toNat / 2 ^ i % 2 ^ n := by
  rw [field, BitVec.extractLsb'_toNat, Nat.shiftRight_eq_div_pow]

/-- A number of 24 bits under four more, cut into bytes from its upper end. -/
theorem bytes_of_digits (e : Nat) {x : Nat} (h : x < 2 ^ 24) :
    (e * 2 ^ 4 + x / 2 ^ 20 % 2 ^ 4) * 2 ^ 24 + x / 2 ^ 12 % 2 ^ 8 * 2 ^ 16 + x / 2 ^ 4 % 2 ^ 8 * 2 ^ 8 +
      x % 2 ^ 4 * 2 ^ 4 = e * 2 ^ 28 + x * 2 ^ 4 := by
  omega

/-- The bytes of an identity hold the epoch, then the item ID, in their upper 28 bits. -/
theorem identBytes_toNat (i : Ident) :
    (identBytes i).1.toNat * 2 ^ 24 + (identBytes i).2.1.toNat * 2 ^ 16 + (identBytes i).2.2.1.toNat * 2 ^ 8 +
      (identBytes i).2.2.2.toNat = i.epoch.toNat * 2 ^ 28 + i.itemId.toNat * 2 ^ 4 := by
  simp only [identBytes, toNat_append_eq, BitVec.extractLsb'_toNat, Nat.shiftRight_eq_div_pow, BitVec.toNat_ofNat,
    Nat.pow_zero, Nat.div_one, Nat.zero_mod, Nat.add_zero]
  exact bytes_of_digits i.epoch.toNat i.itemId.isLt

theorem Disposition.code_lt (o : Disposition) : o.code < 4 := by cases o <;> decide

theorem Source.code_lt (src : Source) : src.code < 8 := by cases src <;> decide

theorem CaptureClass.code_lt (c : CaptureClass) : c.code < 8 := by cases c <;> decide

/-- The payload of a notice (R128). -/
theorem noticePayload_eq (o : Disposition) (src : Source) (id : Ident) (detail : Byte) : ∃ b1 b2 b3 b4 b5 : Byte,
    noticePayload o src id detail = [b1, b2, b3, b4, b5, detail] ∧ b1.toNat = o.code * 64 + src.code * 8 ∧
    b2.toNat * 2 ^ 24 + b3.toNat * 2 ^ 16 + b4.toNat * 2 ^ 8 + b5.toNat =
      id.epoch.toNat * 2 ^ 28 + id.itemId.toNat * 2 ^ 4 := by
  refine ⟨_, _, _, _, _, rfl, ?_, identBytes_toNat id⟩
  have o_lt := o.code_lt
  have src_lt := src.code_lt
  simp only [toNat_append_eq, BitVec.toNat_ofNat]
  omega

/-- The words of a record, field by field (section 7.5). -/
theorem logWords_fields (f : LogFields) (cls : f.cls < 8) :
    (field (logWords f).word0 0 2 = f.outcome.code ∧ field (logWords f).word0 2 3 = f.source.code ∧
      field (logWords f).word0 5 3 = f.cls ∧ bit (logWords f).word0 8 = f.uncaptured ∧
      bit (logWords f).word0 9 = f.item ∧ bit (logWords f).word0 10 = f.audit ∧
      bit (logWords f).word0 11 = f.outOfOrder ∧ bit (logWords f).word0 12 = f.conflict ∧
      bit (logWords f).word0 13 = f.ident.isSome) ∧
    (field (logWords f).word0 14 2 = 0 ∧
      field (logWords f).word0 16 4 = (f.ident.getD { epoch := 0#4, itemId := 0#24 }).epoch.toNat ∧
      field (logWords f).word0 20 4 = f.mask.toNat ∧ field (logWords f).word0 24 8 = 0) ∧
    field (logWords f).word1 0 24 = (f.ident.getD { epoch := 0#4, itemId := 0#24 }).itemId.toNat ∧
    field (logWords f).word1 24 8 = f.detail.toNat ∧ field (logWords f).word2 0 16 = f.travel.toNat % 65536 ∧
    field (logWords f).word2 16 8 = f.cycleLow.toNat ∧ field (logWords f).word2 24 8 = f.lane.toNat := by
  have o_lt := f.outcome.code_lt
  have src_lt := f.source.code_lt
  have mask := f.mask.isLt
  refine ⟨?_, ?_, ?_⟩
  · have epoch := (f.ident.getD { epoch := 0#4, itemId := 0#24 }).epoch.isLt
    simp (disch := omega) [logWords, field_or, field_place, field_place_above, field_place_below,
      field_flagAt_outside, bit_or, bit_flagAt, bit_place_above, bit_place_below]
  · have epoch := (f.ident.getD { epoch := 0#4, itemId := 0#24 }).epoch.isLt
    simp (disch := omega) [logWords, field_or, field_place, field_place_above, field_place_below,
      field_flagAt_outside]
  · have id := (f.ident.getD { epoch := 0#4, itemId := 0#24 }).itemId.isLt
    have detail := f.detail.isLt
    have low := f.cycleLow.isLt
    have lane := f.lane.isLt
    simp only [logWords, field_eq, toNat_append_eq, BitVec.extractLsb'_toNat, Nat.shiftRight_eq_div_pow]
    omega

/-! ### The parts of a dispatch (R117) -/

/-- The pulse and the counters of an outcome. -/
def State.dispositionCounted (s : State) (o : Disposition) (src : Source) : State :=
  if src = .default then ((s.startPulse o).bump (.dispositions o)).bump .defaulted
  else (s.startPulse o).bump (.dispositions o)

/-- The record of a retirement, where the mode asks for one (R120). -/
def State.retirementLogged (s : State) (e : Entry) (o : Disposition) (src : Source) : State :=
  if s.logsRetirement e src = true then s.appendLog (entryRecord e o src s.lp.travel) else s

/-- The notice of a Captured entry (R118). -/
def State.retirementNotified (s : State) (e : Entry) (o : Disposition) (src : Source) : State :=
  match e.ident with
  | none => s
  | some id =>
    if s.noticesEnabled = true then s.pushNotice (noticePayload o src id ((e.verdict.map Verdict.detail).getD 0#8))
    else s

/-- The window's record of an entry that expected a verdict (R80). -/
def State.retirementKept (s : State) (e : Entry) (o : Disposition) : State :=
  match e.ident with
  | none => s
  | some id =>
    if e.expects = true then
      { s with lg := { s.lg with window := pushWindow s.lg.window { ident := id, outcome := o } } }
    else s

theorem State.dispatch_eq {s : State} {e : Entry} {o : Disposition} {src : Source} (h : (o, src) = s.decideOutcome e) :
    s.dispatch e =
      (((s.dispositionCounted o src).retirementLogged e o src).retirementNotified e o src).retirementKept e o := by
  unfold State.dispatch State.retirementNotified State.retirementKept
  rw [← h]
  cases e.ident <;> rfl

section
variable {s : State} {e : Entry} {o : Disposition} {src : Source}

theorem State.startPulse_eq (s : State) (o : Disposition) : s.startPulse o = { s with
    gd := { s.gd with
      rejLeft := if o = .reject then s.pulseLength else if o = .divert then 0 else s.gd.rejLeft
      divLeft := if o = .divert then s.pulseLength else if o = .reject then 0 else s.gd.divLeft }
    counters := (s.startPulse o).counters } := by
  cases o with
  | none => rfl
  | pass => rfl
  | reject =>
    dsimp only [State.startPulse]
    split <;> rfl
  | divert =>
    dsimp only [State.startPulse]
    split <;> rfl

theorem State.startPulse_counters (s : State) (o : Disposition) : (s.startPulse o).counters =
    if o = .reject ∧ s.gd.divLeft ≠ 0 ∨ o = .divert ∧ s.gd.rejLeft ≠ 0 then (s.bump .gateOverlap).counters
    else s.counters := by
  cases o with
  | none => rfl
  | pass => rfl
  | reject => by_cases free : s.gd.divLeft = 0 <;> simp [State.startPulse, free]
  | divert => by_cases free : s.gd.rejLeft = 0 <;> simp [State.startPulse, free]

theorem State.startPulse_overlaps (s : State) (o : Disposition) : s.counts (s.startPulse o) .gateOverlap
    (if o = .reject ∧ s.gd.divLeft ≠ 0 ∨ o = .divert ∧ s.gd.rejLeft ≠ 0 then 1 else 0) := by
  have after := s.startPulse_counters o
  split at after
  · next overlap =>
    rw [if_pos overlap]
    exact (State.counts.bumpBy s .gateOverlap 1).then_eq after
  · next free =>
    rw [if_neg free]
    exact State.counts.of_eq after

theorem State.startPulse_counts (s : State) (o : Disposition) {k : Ctr} (h : k.offset ≠ Ctr.gateOverlap.offset) :
    s.counts (s.startPulse o) k 0 := by
  have after := s.startPulse_counters o
  split at after
  · exact (State.counts.bump_other s .gateOverlap h).then_eq after
  · exact State.counts.of_eq after

/-- The first stage: the pulse, and of the rest nothing but counters. -/
theorem State.dispositionCounted_eq (s : State) (o : Disposition) (src : Source) : s.dispositionCounted o src = { s with
    gd := { s.gd with
      rejLeft := if o = .reject then s.pulseLength else if o = .divert then 0 else s.gd.rejLeft
      divLeft := if o = .divert then s.pulseLength else if o = .reject then 0 else s.gd.divLeft }
    counters := (s.dispositionCounted o src).counters } := by
  unfold State.dispositionCounted
  have pulse := s.startPulse_eq o
  generalize s.startPulse o = x at *
  rw [pulse]
  split <;> rfl

theorem State.dispositionCounted_counts (s : State) (o : Disposition) (src : Source) :
    (∀ k, s.counts (s.dispositionCounted o src) (.dispositions k) (if k = o then 1 else 0)) ∧
    s.counts (s.dispositionCounted o src) .defaulted (if src = .default then 1 else 0) ∧
    s.counts (s.dispositionCounted o src) .gateOverlap
      (if o = .reject ∧ s.gd.divLeft ≠ 0 ∨ o = .divert ∧ s.gd.rejLeft ≠ 0 then 1 else 0) ∧
    s.counts (s.dispositionCounted o src) .logLost 0 ∧ s.counts (s.dispositionCounted o src) .noticeLost 0 := by
  have offset : ∀ k : Disposition, (Ctr.dispositions k).offset = 0x4C + k.code := fun _ => rfl
  have own := fun k : Disposition => k.code_lt
  have defaults : ∀ {x : State} {k : Ctr} {n : Nat}, k.offset ≠ Ctr.defaulted.offset → s.counts x k n →
      s.counts (if src = .default then x.bump .defaulted else x) k n := by
    intro x k n other h
    split
    · exact h.trans (State.counts.bump_other x .defaulted other)
    · exact h
  refine ⟨fun k => defaults ?_ ?_, ?_, defaults (by decide) ?_, defaults (by decide) ?_, defaults (by decide) ?_⟩
  · have := own k
    rw [offset]
    exact fun h => absurd (show 0x4C + k.code = 0x50 from h) (by omega)
  · have pulse := s.startPulse_counts o (k := .dispositions k) (by
      have := own k
      rw [offset]
      exact fun h => absurd (show 0x4C + k.code = 0x51 from h) (by omega))
    have one : (s.startPulse o).counts ((s.startPulse o).bump (.dispositions o)) (.dispositions k)
        (if k = o then 1 else 0) := by
      by_cases same : k = o
      · rw [if_pos same, same]
        exact State.counts.bumpBy _ _ 1
      · rw [if_neg same]
        refine State.counts.bump_other _ _ ?_
        cases k <;> cases o <;> first | exact absurd rfl same | decide
    have both := pulse.trans one
    rwa [Nat.zero_add] at both
  · have before : s.counts ((s.startPulse o).bump (.dispositions o)) .defaulted 0 :=
      (s.startPulse_counts o (by decide)).trans (State.counts.bump_other _ _ (by cases o <;> decide))
    unfold State.dispositionCounted
    split
    · exact before.trans (State.counts.bumpBy _ .defaulted 1)
    · exact before
  · exact (s.startPulse_overlaps o).trans (State.counts.bump_other _ _ (by cases o <;> decide))
  · exact (s.startPulse_counts o (by decide)).trans (State.counts.bump_other _ _ (by cases o <;> decide))
  · exact (s.startPulse_counts o (by decide)).trans (State.counts.bump_other _ _ (by cases o <;> decide))

/-- The log mode asks for a record (R120). -/
theorem State.logsRetirement_iff (s : State) (e : Entry) (src : Source) : s.logsRetirement e src = true ↔
    (s.fieldOf .gdLogMode 0 2 = 1 → e.item = true) ∧
    (s.fieldOf .gdLogMode 0 2 = 2 → src ≠ .verdict ∧ src ≠ .aux ∧ src ≠ .lateVerdict ∧ src ≠ .abandoned) := by
  unfold State.logsRetirement
  split
  · next mode => simp [mode]
  · next mode => cases src <;> simp [mode]
  · next other other' => exact iff_of_true rfl ⟨fun h => (other h).elim, fun h => (other' h).elim⟩

theorem State.appendLog_eq (s : State) (r : LogRecord) : s.appendLog r = { s with
    gd := { s.gd with
      log := if s.gd.log.length < 128 then s.gd.log ++ [r] else s.gd.log, alert := (s.appendLog r).gd.alert }
    rc := { s.rc with flags := (s.appendLog r).rc.flags }, counters := (s.appendLog r).counters } := by
  have parts : s.appendLog r = { s with
      gd := (s.appendLog r).gd, rc := { s.rc with flags := (s.appendLog r).rc.flags }
      counters := (s.appendLog r).counters } := by
    unfold State.appendLog State.evalAlert
    (repeat' split) <;> rfl
  rw [← s.appendLog_gd r]
  exact parts

/-- The second stage: the log and its alert, with its event. -/
theorem State.retirementLogged_eq (s : State) (e : Entry) (o : Disposition) (src : Source) :
    s.retirementLogged e o src = { s with
      gd := { s.gd with
        log := if s.gd.log.length < 128 ∧ s.logsRetirement e src = true then
          s.gd.log ++ [entryRecord e o src s.lp.travel] else s.gd.log
        alert := (s.retirementLogged e o src).gd.alert }
      rc := { s.rc with flags := (s.retirementLogged e o src).rc.flags }
      counters := (s.retirementLogged e o src).counters } := by
  unfold State.retirementLogged
  by_cases logs : s.logsRetirement e src = true
  · simp only [logs, and_true]
    exact s.appendLog_eq _
  · simp only [logs, Bool.false_eq_true, and_false, if_false]

theorem State.retirementLogged_counts (s : State) (e : Entry) (o : Disposition) (src : Source) :
    s.counts (s.retirementLogged e o src) .logLost
      (if 128 ≤ s.gd.log.length ∧ s.logsRetirement e src = true then 1 else 0) ∧
    ∀ k : Ctr, k.offset ≠ Ctr.logLost.offset → s.counts (s.retirementLogged e o src) k 0 := by
  unfold State.retirementLogged
  by_cases logs : s.logsRetirement e src = true
  · rw [if_pos logs]
    refine ⟨?_, fun k other => State.appendLog_counts s _ other⟩
    unfold State.appendLog
    by_cases room : s.gd.log.length < 128
    · rw [if_pos (by exact room), if_neg (by omega)]
      exact State.counts.of_eq (by simp)
    · rw [if_neg (by exact room), if_pos ⟨by omega, logs⟩]
      exact State.counts.bumpBy s .logLost 1
  · rw [if_neg logs, if_neg fun h => logs h.2]
    exact ⟨State.counts.of_eq rfl, fun k _ => State.counts.of_eq rfl⟩

/-- The third stage: the notice queue. -/
theorem State.retirementNotified_eq (s : State) (e : Entry) (o : Disposition) (src : Source) :
    s.retirementNotified e o src = { s with
      sl := { s.sl with noticeQ := (s.retirementNotified e o src).sl.noticeQ }
      counters := (s.retirementNotified e o src).counters } := by
  unfold State.retirementNotified State.pushNotice
  (repeat' split) <;> rfl

theorem State.retirementNotified_of_none {s : State} {e : Entry} {o : Disposition} {src : Source}
    (h : s.noticesEnabled = false ∨ e.ident = none) : s.retirementNotified e o src = s := by
  unfold State.retirementNotified
  split
  · rfl
  · next id captured =>
    rcases h with off | absent
    · rw [if_neg (by rw [off]; decide)]
    · exact absurd (absent.symm.trans captured) (by simp)

theorem State.retirementNotified_of_some {s : State} {e : Entry} {o : Disposition} {src : Source} {id : Ident}
    (captured : e.ident = some id) (on : s.noticesEnabled = true) : s.retirementNotified e o src =
      s.pushNotice (noticePayload o src id ((e.verdict.map Verdict.detail).getD 0#8)) := by
  rw [State.retirementNotified, captured]
  exact if_pos on

/-- The last stage: the retired window. -/
theorem State.retirementKept_eq (s : State) (e : Entry) (o : Disposition) : s.retirementKept e o =
    { s with lg := { s.lg with window := (s.retirementKept e o).lg.window } } := by
  unfold State.retirementKept
  (repeat' split) <;> rfl

theorem State.retirementKept_of_none {s : State} {e : Entry} {o : Disposition}
    (h : e.ident = none ∨ e.expects = false) : s.retirementKept e o = s := by
  unfold State.retirementKept
  split
  · rfl
  · next id captured =>
    rcases h with absent | off
    · exact absurd (absent.symm.trans captured) (by simp)
    · rw [if_neg (by rw [off]; decide)]

theorem State.retirementKept_of_some {s : State} {e : Entry} {o : Disposition} {id : Ident}
    (captured : e.ident = some id) (expects : e.expects = true) : (s.retirementKept e o).lg.window =
      (if (s.lg.window.filter fun x => x.ident ≠ id).length < 32 then s.lg.window.filter fun x => x.ident ≠ id
        else (s.lg.window.filter fun x => x.ident ≠ id).drop 1) ++ [{ ident := id, outcome := o }] := by
  rw [State.retirementKept, captured]
  dsimp only
  rw [if_pos expects]
  rfl

end

/-! ### Retirement as a row -/

/-- A state at another place among the rows of an edge, with another count of the silence watchdog. -/
def State.timed (s : State) (p : Place) (x : Startable) (q : Option Nat) : State :=
  { s.placed p x with vc := { s.vc with silence := q } }

/-- An operation that neither reads nor changes the place of its row or the watchdog's count. -/
def Untimed (f : State → State) : Prop :=
  ∀ (s : State) (p : Place) (x : Startable) (q : Option Nat), f (s.timed p x q) = (f s).timed p x q

theorem Untimed.id : Untimed fun s => s := fun _ _ _ _ => rfl

theorem Untimed.comp {f g : State → State} (hf : Untimed f) (hg : Untimed g) : Untimed fun s => g (f s) :=
  fun s p x q => (congrArg g (hf s p x q)).trans (hg (f s) p x q)

theorem Untimed.ite {f g : State → State} {c : State → Prop} [∀ s, Decidable (c s)]
    (hc : ∀ (s : State) (p : Place) (x : Startable) (q : Option Nat), c (s.timed p x q) ↔ c s) (hf : Untimed f)
    (hg : Untimed g) : Untimed fun s => if c s then f s else g s := fun s p x q => by
  dsimp only
  by_cases h : c s
  · rw [if_pos h, if_pos ((hc s p x q).mpr h), hf]
  · rw [if_neg h, if_neg fun h' => h ((hc s p x q).mp h'), hg]

/-- An untimed operation that leaves the channel alone can stand anywhere. -/
theorem Untimed.steady {f : State → State} (h : Untimed f) (vc : ∀ s, (f s).vc = s.vc) : Steady f := fun s p x => by
  have moved := h s p x s.vc.silence
  rw [show s.timed p x s.vc.silence = s.placed p x from rfl] at moved
  rw [moved, State.timed, ← vc s]
  rfl

theorem Untimed.bump (k : Ctr) : Untimed (·.bump k) := fun _ _ _ _ => rfl

theorem Untimed.startPulse (o : Disposition) : Untimed (·.startPulse o) := fun s p x q => by
  have div : (s.timed p x q).gd.divLeft = s.gd.divLeft := rfl
  have rej : (s.timed p x q).gd.rejLeft = s.gd.rejLeft := rfl
  cases o with
  | none => rfl
  | pass => rfl
  | reject =>
    simp only [State.startPulse, div]
    split <;> rfl
  | divert =>
    simp only [State.startPulse, rej]
    split <;> rfl

theorem Untimed.evalAlert : Untimed State.evalAlert :=
  Untimed.ite (c := fun s => s.gd.alert = true) (fun _ _ _ _ => Iff.rfl)
    (Untimed.ite (c := fun s => s.gd.log.length < s.logAlertLevel) (fun _ _ _ _ => Iff.rfl) (fun _ _ _ _ => rfl)
      Untimed.id)
    (Untimed.ite (c := fun s => s.logAlertLevel ≤ s.gd.log.length) (fun _ _ _ _ => Iff.rfl) (fun _ _ _ _ => rfl)
      Untimed.id)

theorem Untimed.appendLog (r : LogRecord) : Untimed (·.appendLog r) :=
  Untimed.ite (c := fun s => s.gd.log.length < Config.log) (fun _ _ _ _ => Iff.rfl)
    (Untimed.comp (f := fun s => { s with gd := { s.gd with log := s.gd.log ++ [r] } }) (fun _ _ _ _ => rfl)
      Untimed.evalAlert)
    (Untimed.bump .logLost)

theorem Untimed.pushNotice (m : List Byte) : Untimed (·.pushNotice m) :=
  Untimed.ite (c := fun s => s.sl.noticeQ.length < Config.noticeQueue) (fun _ _ _ _ => Iff.rfl) (fun _ _ _ _ => rfl)
    (Untimed.bump .noticeLost)

theorem Untimed.dispositionCounted (o : Disposition) (src : Source) : Untimed (·.dispositionCounted o src) :=
  Untimed.ite (c := fun _ => src = .default) (fun _ _ _ _ => Iff.rfl)
    (((Untimed.startPulse o).comp (Untimed.bump (.dispositions o))).comp (Untimed.bump .defaulted))
    ((Untimed.startPulse o).comp (Untimed.bump (.dispositions o)))

theorem Untimed.retirementLogged (e : Entry) (o : Disposition) (src : Source) : Untimed (·.retirementLogged e o src) :=
  Untimed.ite (c := fun s => s.logsRetirement e src = true) (fun _ _ _ _ => Iff.rfl)
    (fun s => Untimed.appendLog (entryRecord e o src s.lp.travel) s) Untimed.id

theorem Untimed.retirementNotified (e : Entry) (o : Disposition) (src : Source) :
    Untimed (·.retirementNotified e o src) := fun s p x q => by
  simp only [State.retirementNotified]
  cases e.ident with
  | none => rfl
  | some id =>
    exact Untimed.ite (c := fun s => s.noticesEnabled = true) (fun _ _ _ _ => Iff.rfl) (Untimed.pushNotice _) Untimed.id
      s p x q

theorem Untimed.retirementKept (e : Entry) (o : Disposition) : Untimed (·.retirementKept e o) := fun s p x q => by
  simp only [State.retirementKept]
  cases e.ident with
  | none => rfl
  | some id =>
    dsimp only
    split <;> rfl

theorem Untimed.dispatch (e : Entry) : Untimed (·.dispatch e) := fun s p x q => by
  obtain ⟨⟨o, src⟩, decided⟩ : ∃ d : Disposition × Source, d = s.decideOutcome e := ⟨_, rfl⟩
  have decided' : (o, src) = (s.timed p x q).decideOutcome e := decided
  dsimp only
  rw [State.dispatch_eq decided, State.dispatch_eq decided']
  exact (((Untimed.dispositionCounted o src).comp (Untimed.retirementLogged e o src)).comp
    (Untimed.retirementNotified e o src)).comp (Untimed.retirementKept e o) s p x q

theorem Untimed.retireOne : Untimed State.retireOne := fun s p x q => by
  have travel : (s.timed p x q).lp.travel = s.lp.travel := rfl
  have entries : (s.timed p x q).lg.entries = s.lg.entries := rfl
  simp only [State.retireOne, travel, entries]
  cases takeFirst (dueAtGate s.lp.travel) s.lg.entries with
  | none => rfl
  | some found =>
    have dispatched := Untimed.dispatch found.1 s p x q
    dsimp only at dispatched ⊢
    rw [dispatched]
    rfl

theorem Steady.retireOne : Steady State.retireOne := Untimed.retireOne.steady fun s => by simp

theorem Steady.refreshSilence : Steady State.refreshSilence := fun _ _ _ => rfl

/-- The row GATE_RETIREMENT, wherever it stands. -/
theorem State.row_gateRetirement (s : State) : s.row .gateRetirement = s.retireOne.refreshSilence :=
  State.row_of_steady (Steady.retireOne.comp Steady.refreshSilence) (p := .step) rfl

/-- The first entry due retires, if there is one (R111). -/
theorem State.retireOne_of_none {s : State} (h : ∀ x ∈ s.lg.entries, reached s.lp.travel x.gateTravel = false) :
    s.retireOne = s := by
  rw [State.retireOne, takeFirst_of_none (p := dueAtGate s.lp.travel) (by exact h)]

theorem State.retireOne_of_first {s : State} {pre post : List Entry} {e : Entry}
    (entries : s.lg.entries = pre ++ e :: post)
    (before : ∀ x ∈ pre, reached s.lp.travel x.gateTravel = false) (due : reached s.lp.travel e.gateTravel = true) :
    s.retireOne = { s.dispatch e with lg := { (s.dispatch e).lg with entries := pre ++ post } } := by
  rw [State.retireOne, entries, takeFirst_of_first (p := dueAtGate s.lp.travel) (by exact before) (by exact due)]

theorem first_or_none {α : Type} (p : α → Bool) (l : List α) : (∀ x ∈ l, p x = false) ∨
    ∃ pre x post, l = pre ++ x :: post ∧ (∀ y ∈ pre, p y = false) ∧ p x = true := by
  cases found : l.find? p with
  | none => exact .inl fun x hx => by simpa using List.find?_eq_none.mp found x hx
  | some x =>
    obtain ⟨here, pre, post, split, before⟩ := List.find?_eq_some_iff_append.mp found
    exact .inr ⟨pre, x, post, split, fun y hy => by simpa using before y hy, here⟩

/-- As many retirements as there are entries leave none due. -/
theorem State.retireOne_settled (n : Nat) (s : State) (short : s.lg.entries.length ≤ n) :
    (iterate State.retireOne n s).retireOne = iterate State.retireOne n s := by
  induction n generalizing s with
  | zero =>
    have none : s.lg.entries = [] := List.length_eq_zero_iff.mp (Nat.le_zero.mp short)
    exact State.retireOne_of_none fun x hx => absurd (none ▸ (show x ∈ s.lg.entries from hx)) (by simp)
  | succ n ih =>
    rcases first_or_none (fun x : Entry => reached s.lp.travel x.gateTravel) s.lg.entries with none | first
    · have kept := State.retireOne_of_none none
      have all : ∀ n, iterate State.retireOne n s = s := fun n => by
        induction n with
        | zero => rfl
        | succ n ih => rw [iterate, kept, ih]
      rw [all, kept]
    · obtain ⟨pre, e, post, entries, before, due⟩ := first
      refine ih s.retireOne ?_
      rw [State.retireOne_of_first entries before due]
      rw [entries] at short
      simp only [List.length_append, List.length_cons] at short ⊢
      omega

/-- AWAITING does not grow by a retirement. -/
theorem State.retireOne_awaiting (s : State) : s.retireOne.awaiting ≤ s.awaiting := by
  rcases first_or_none (fun x : Entry => reached s.lp.travel x.gateTravel) s.lg.entries with none | first
  · rw [State.retireOne_of_none none]
  · obtain ⟨pre, e, post, entries, before, due⟩ := first
    rw [State.retireOne_of_first entries before due, State.awaiting, State.awaiting, entries]
    simp only [List.countP_append, List.countP_cons]
    omega

/-- A count of the watchdog that a refresh after retirements does not tell from the state's own. -/
theorem State.retirements_silence (n : Nat) (s : State) (q : Option Nat)
    (same : s.silenceRuns = true → q.getD 0 = s.vc.silence.getD 0) :
    (iterate State.retireOne n (s.timed s.sl.place s.sl.earlier q)).refreshSilence =
      (iterate State.retireOne n s).refreshSilence := by
  induction n generalizing s with
  | zero =>
    simp only [iterate]
    unfold State.refreshSilence
    by_cases runs : s.silenceRuns = true
    · have runs' : (s.timed s.sl.place s.sl.earlier q).silenceRuns = true := runs
      rw [if_pos runs, if_pos runs', ← same runs]
      rfl
    · have runs' : ¬ (s.timed s.sl.place s.sl.earlier q).silenceRuns = true := runs
      rw [if_neg runs, if_neg runs']
      rfl
  | succ n ih =>
    have place : s.retireOne.sl.place = s.sl.place ∧ s.retireOne.sl.earlier = s.sl.earlier := by
      have moved := Steady.retireOne s s.sl.place s.sl.earlier
      rw [show s.placed s.sl.place s.sl.earlier = s from rfl] at moved
      rw [moved]
      exact ⟨rfl, rfl⟩
    have vc : s.retireOne.vc = s.vc := by simp
    have regs : s.retireOne.regs = s.regs := by simp
    rw [iterate, iterate, Untimed.retireOne, ← place.1, ← place.2]
    refine ih s.retireOne fun runs => ?_
    rw [vc]
    refine same ?_
    have fewer := s.retireOne_awaiting
    simp only [State.silenceRuns, vc, State.silenceMs_of_regs regs, Bool.and_eq_true, bne_iff_ne, ne_eq] at runs ⊢
    exact ⟨⟨runs.1.1, by omega⟩, runs.2⟩

theorem iterate_succ_last {α : Type} (f : α → α) (n : Nat) (x : α) : iterate f (n + 1) x = f (iterate f n x) := by
  induction n generalizing x with
  | zero => rfl
  | succ n ih => exact ih (f x)

/-- Rows of retirements refresh the watchdog each time; one refresh at the end leaves the same. -/
theorem State.iterate_rows (n : Nat) (s : State) : iterate (fun x => x.retireOne.refreshSilence) (n + 1) s =
    (iterate State.retireOne (n + 1) s).refreshSilence := by
  induction n generalizing s with
  | zero => rfl
  | succ n ih =>
    rw [iterate, ih]
    refine State.retirements_silence (n + 1) s.retireOne _ fun runs => ?_
    rw [if_pos runs]
    rfl

/-- Step 4 is the countdown and then the row until no entry is due (R30, R115). -/
theorem State.stepFour_eq (s : State) : s.stepFour =
    (List.range (s.lg.entries.length + 1)).foldl (fun x _ => x.row .gateRetirement) s.countPulses := by
  have rows := iterate_eq_foldl (fun x : State => x.retireOne.refreshSilence) (List.range (s.lg.entries.length + 1))
    s.countPulses
  simp only [State.row_gateRetirement]
  rw [← rows, List.length_range, State.iterate_rows, iterate_succ_last,
    State.retireOne_settled s.lg.entries.length s.countPulses le_rfl]
  rfl

/-- What the record of a retirement says of its entry (section 7.5, R121). -/
def Entry.fields (e : Entry) (o : Disposition) (src : Source) (travel : Travel) : LogFields :=
  { outcome := o, source := src, cls := e.cls.code, uncaptured := e.ident.isNone, item := e.item, audit := e.audit
    outOfOrder := (e.verdict.map Verdict.outOfOrder).getD false, conflict := false, ident := e.ident, mask := e.mask
    detail := (e.verdict.map Verdict.detail).getD 0#8, travel := travel, cycleLow := e.cycleLow, lane := e.lane }

theorem entryRecord_eq (e : Entry) (o : Disposition) (src : Source) (travel : Travel) :
    entryRecord e o src travel = logWords (e.fields o src travel) := rfl

/-- Four stages one after another change the parts that one of them changes. -/
theorem State.parts_of_stages {s a b c d : State} {pulse pulse' : Nat} {log : List LogRecord}
    (first : a = { s with gd := { s.gd with rejLeft := pulse, divLeft := pulse' }, counters := a.counters })
    (second : b = { a with
      gd := { a.gd with log := log, alert := b.gd.alert }
      rc := { a.rc with flags := b.rc.flags }, counters := b.counters })
    (third : c = { b with sl := { b.sl with noticeQ := c.sl.noticeQ }, counters := c.counters })
    (fourth : d = { c with lg := { c.lg with window := d.lg.window } }) : d = { s with
    lg := { s.lg with window := d.lg.window }
    gd := d.gd, counters := d.counters
    sl := { s.sl with noticeQ := d.sl.noticeQ }
    rc := { s.rc with flags := d.rc.flags } } := by
  rw [fourth, third, second, first]

/-- The parts that a dispatch changes. -/
theorem State.dispatch_parts (s : State) (e : Entry) : s.dispatch e = { s with
    lg := { s.lg with window := (s.dispatch e).lg.window }
    gd := (s.dispatch e).gd, counters := (s.dispatch e).counters
    sl := { s.sl with noticeQ := (s.dispatch e).sl.noticeQ }
    rc := { s.rc with flags := (s.dispatch e).rc.flags } } := by
  obtain ⟨⟨o, src⟩, decided⟩ : ∃ d : Disposition × Source, d = s.decideOutcome e := ⟨_, rfl⟩
  rw [State.dispatch_eq decided]
  exact State.parts_of_stages (s.dispositionCounted_eq o src) (State.retirementLogged_eq _ e o src)
    (State.retirementNotified_eq _ e o src) (State.retirementKept_eq _ e o)

/-- The gate and its log after a dispatch. -/
theorem State.dispatch_gd {s : State} {e : Entry} {o : Disposition} {src : Source} (h : (o, src) = s.decideOutcome e) :
    (s.dispatch e).gd = { s.gd with
      rejLeft := if o = .reject then s.pulseLength else if o = .divert then 0 else s.gd.rejLeft
      divLeft := if o = .divert then s.pulseLength else if o = .reject then 0 else s.gd.divLeft
      log := if s.gd.log.length < 128 ∧ s.logsRetirement e src = true then
        s.gd.log ++ [entryRecord e o src s.lp.travel] else s.gd.log
      alert := (s.dispatch e).gd.alert } := by
  rw [State.dispatch_eq h]
  have counted := s.dispositionCounted_eq o src
  generalize s.dispositionCounted o src = x at *
  have asks : x.logsRetirement e src = s.logsRetirement e src := by rw [counted]; rfl
  have line : x.lp = s.lp := by rw [counted]
  have logged := congrArg State.gd (x.retirementLogged_eq e o src)
  generalize x.retirementLogged e o src = y at *
  have notified : (y.retirementNotified e o src).gd = y.gd := by rw [State.retirementNotified_eq]
  generalize y.retirementNotified e o src = z at *
  have kept : (z.retirementKept e o).gd = z.gd := by rw [State.retirementKept_eq]
  rw [kept, notified]
  refine logged.trans ?_
  rw [asks, line, counted]

theorem State.retirementNotified_counts {s : State} {e : Entry} {o : Disposition} {src : Source} :
    s.counts (s.retirementNotified e o src) .noticeLost
      (if s.noticesEnabled = true ∧ e.ident ≠ none ∧ 32 ≤ s.sl.noticeQ.length then 1 else 0) ∧
    ∀ k : Ctr, k.offset ≠ Ctr.noticeLost.offset → s.counts (s.retirementNotified e o src) k 0 := by
  by_cases sends : s.noticesEnabled = true ∧ e.ident ≠ none
  · obtain ⟨on, captured⟩ := sends
    obtain ⟨id, some⟩ := Option.ne_none_iff_exists'.mp captured
    rw [State.retirementNotified_of_some some on, State.pushNotice]
    by_cases room : s.sl.noticeQ.length < 32
    · rw [if_pos (by exact room), if_neg (by omega)]
      exact ⟨State.counts.of_eq rfl, fun k _ => State.counts.of_eq rfl⟩
    · rw [if_neg (by exact room), if_pos ⟨on, captured, by omega⟩]
      exact ⟨State.counts.bumpBy s .noticeLost 1, fun k other => State.counts.bump_other s .noticeLost other⟩
  · rw [State.retirementNotified_of_none (by rw [← Bool.not_eq_true]; tauto), if_neg fun h => sends ⟨h.1, h.2.1⟩]
    exact ⟨State.counts.of_eq rfl, fun k _ => State.counts.of_eq rfl⟩

/-- The counters of a dispatch (R117). -/
theorem State.dispatch_counts {s : State} {e : Entry} {o : Disposition} {src : Source}
    (h : (o, src) = s.decideOutcome e) :
    (∀ k, s.counts (s.dispatch e) (.dispositions k) (if k = o then 1 else 0)) ∧
    s.counts (s.dispatch e) .defaulted (if src = .default then 1 else 0) ∧
    s.counts (s.dispatch e) .gateOverlap
      (if o = .reject ∧ s.gd.divLeft ≠ 0 ∨ o = .divert ∧ s.gd.rejLeft ≠ 0 then 1 else 0) ∧
    s.counts (s.dispatch e) .logLost (if 128 ≤ s.gd.log.length ∧ s.logsRetirement e src = true then 1 else 0) ∧
    s.counts (s.dispatch e) .noticeLost
      (if s.noticesEnabled = true ∧ e.ident ≠ none ∧ 32 ≤ s.sl.noticeQ.length then 1 else 0) := by
  rw [State.dispatch_eq h]
  obtain ⟨outcome, defaulted, overlap, noLog, noNotice⟩ := s.dispositionCounted_counts o src
  have parts := s.dispositionCounted_eq o src
  have log : (s.dispositionCounted o src).gd.log = s.gd.log := by rw [parts]
  have asks : (s.dispositionCounted o src).logsRetirement e src = s.logsRetirement e src := by rw [parts]; rfl
  have notices : (s.dispositionCounted o src).noticesEnabled = s.noticesEnabled := by rw [parts]; rfl
  have queue : (s.dispositionCounted o src).sl.noticeQ = s.sl.noticeQ := by rw [parts]
  generalize s.dispositionCounted o src = x at *
  obtain ⟨lost, others⟩ := x.retirementLogged_counts e o src
  have parts' := x.retirementLogged_eq e o src
  have notices' : (x.retirementLogged e o src).noticesEnabled = s.noticesEnabled := by rw [parts', ← notices]; rfl
  have queue' : (x.retirementLogged e o src).sl.noticeQ = s.sl.noticeQ := by rw [parts', ← queue]
  rw [log, asks] at lost
  generalize x.retirementLogged e o src = y at *
  obtain ⟨unsent, others'⟩ := State.retirementNotified_counts (s := y) (e := e) (o := o) (src := src)
  rw [notices', queue'] at unsent
  generalize y.retirementNotified e o src = z at *
  have last : ∀ k, z.counts (z.retirementKept e o) k 0 := fun k =>
    State.counts.of_eq (by rw [State.retirementKept_eq])
  have through : ∀ {k : Ctr} {n : Nat}, k.offset ≠ Ctr.logLost.offset → k.offset ≠ Ctr.noticeLost.offset →
      s.counts x k n → s.counts (z.retirementKept e o) k n := fun log notice first =>
    ((first.trans (others _ log)).trans (others' _ notice)).trans (last _)
  refine ⟨fun k => through (by cases k <;> decide) (by cases k <;> decide) (outcome k),
    through (by decide) (by decide) defaulted, through (by decide) (by decide) overlap, ?_, ?_⟩
  · have all := ((noLog.trans lost).trans (others' _ (by decide))).trans (last _)
    rwa [Nat.zero_add] at all
  · have all := ((noNotice.trans (others _ (by decide))).trans unsent).trans (last _)
    rwa [Nat.zero_add] at all

/-- The window and the notice queue of a dispatch. -/
theorem State.dispatch_window {s : State} {e : Entry} {o : Disposition} {src : Source}
    (h : (o, src) = s.decideOutcome e) :
    (e.ident = none ∨ e.expects = false → (s.dispatch e).lg.window = s.lg.window) ∧
    (∀ id, e.ident = some id → e.expects = true →
      (s.dispatch e).lg.window = (if (s.lg.window.filter fun x => x.ident ≠ id).length < 32
        then s.lg.window.filter fun x => x.ident ≠ id
        else (s.lg.window.filter fun x => x.ident ≠ id).drop 1) ++ [{ ident := id, outcome := o }]) := by
  rw [State.dispatch_eq h]
  have before : (((s.dispositionCounted o src).retirementLogged e o src).retirementNotified e o src).lg = s.lg := by
    rw [State.retirementNotified_eq, State.retirementLogged_eq, State.dispositionCounted_eq]
  refine ⟨fun none => ?_, fun id captured expects => ?_⟩
  · rw [State.retirementKept_of_none none, before]
  · rw [State.retirementKept_of_some captured expects, before]

theorem State.dispatch_notice {s : State} {e : Entry} {o : Disposition} {src : Source}
    (h : (o, src) = s.decideOutcome e) :
    (s.noticesEnabled = false ∨ e.ident = none ∨ 32 ≤ s.sl.noticeQ.length →
      (s.dispatch e).sl.noticeQ = s.sl.noticeQ) ∧
    (∀ id, e.ident = some id → s.noticesEnabled = true → s.sl.noticeQ.length < 32 →
      (s.dispatch e).sl.noticeQ =
        s.sl.noticeQ ++ [noticePayload o src id ((e.verdict.map Verdict.detail).getD 0#8)]) := by
  rw [State.dispatch_eq h, State.retirementKept_eq]
  have parts : (s.dispositionCounted o src).retirementLogged e o src = { s with
      gd := ((s.dispositionCounted o src).retirementLogged e o src).gd
      rc := ((s.dispositionCounted o src).retirementLogged e o src).rc
      counters := ((s.dispositionCounted o src).retirementLogged e o src).counters } := by
    rw [State.retirementLogged_eq, State.dispositionCounted_eq]
  have notices : ((s.dispositionCounted o src).retirementLogged e o src).noticesEnabled = s.noticesEnabled := by
    rw [parts]; rfl
  have queue : ((s.dispositionCounted o src).retirementLogged e o src).sl = s.sl := by rw [parts]
  generalize (s.dispositionCounted o src).retirementLogged e o src = y at *
  rw [← notices, ← queue]
  refine ⟨fun stays => ?_, fun id captured on room => ?_⟩
  · dsimp only
    by_cases silent : y.noticesEnabled = false ∨ e.ident = none
    · rw [State.retirementNotified_of_none silent]
    · have full : ¬ y.sl.noticeQ.length < Config.noticeQueue := by
        have : 32 ≤ y.sl.noticeQ.length := by tauto
        exact Nat.not_lt.mpr this
      have on : y.noticesEnabled = true := by
        rw [← Bool.not_eq_false]
        exact fun off => silent (.inl off)
      obtain ⟨id, captured⟩ := Option.ne_none_iff_exists'.mp fun none => silent (.inr none)
      rw [State.retirementNotified_of_some captured on, State.pushNotice, if_neg full]
      rfl
  · dsimp only
    rw [State.retirementNotified_of_some captured on, State.pushNotice, if_pos (by exact room)]

/-- Settles O44: the layouts, then the entry that retires, part by part. -/
theorem retirementsAreDispatched : Obligations.RetirementsAreDispatched := by
  refine ⟨State.stepFour_eq, fun e o src travel r id hr hid => ?_, noticePayload_eq,
    fun s pre post e o src => ⟨fun none => ?_, fun entries before due decided => ?_⟩⟩
  · obtain ⟨⟨f1, f2, f3, f4, f5, f6, f7, f8, f9⟩, ⟨f10, f11, f12, f13⟩, f14, f15, f16, f17, f18⟩ :=
      logWords_fields (e.fields o src travel) e.cls.code_lt
    have ident : e.ident.getD { epoch := 0#4, itemId := 0#24 } = id := by
      rw [hid]
      cases e.ident <;> rfl
    rw [← entryRecord_eq, ← hr] at *
    refine ⟨f1, f2, f3, f4, f5, f6, f7.trans ?_, f8, f9, f10, f11.trans (by rw [← ident]; rfl), f12, f13,
      f14.trans (by rw [← ident]; rfl), f15.trans ?_, f16, f17, f18⟩
    · cases h : e.verdict <;> simp [Entry.fields, h]
    · cases h : e.verdict <;> simp [Entry.fields, h]
  · have row := State.exec_of_steady (c := .gateRetirement) (s := s) (Steady.retireOne.comp Steady.refreshSilence)
      (p := .step) rfl
    rw [row, State.retireOne_of_none none, State.refreshSilence_eq, State.arrive_eq_placed]
    rfl
  · have row := State.exec_of_steady (c := .gateRetirement) (s := s) (Steady.retireOne.comp Steady.refreshSilence)
      (p := .step) rfl
    have parts := s.dispatch_parts e
    have gd := State.dispatch_gd decided
    have logs := s.logsRetirement_iff e src
    obtain ⟨forgotten, kept⟩ := State.dispatch_window decided
    obtain ⟨unsent, sent⟩ := State.dispatch_notice decided
    obtain ⟨outcome, defaulted, overlap, lost, lostNotice⟩ := State.dispatch_counts decided
    rw [row, State.retireOne_of_first entries before due, State.refreshSilence_eq, State.arrive_eq_placed]
    have silence : ({ s.dispatch e with lg := { (s.dispatch e).lg with entries := pre ++ post } } : State).silenceMs =
        s.silenceMs := State.silenceMs_of_regs (by simp)
    rw [silence]
    generalize s.dispatch e = u at *
    refine ⟨_, rfl, ?_, rfl, ?_, forgotten, kept, fun is => ?_, fun is => ?_, fun is => ?_, ?_, unsent, sent,
      fun tables => ?_⟩
    · rw [parts]
      rfl
    · exact (congrArg (fun x : State => x.lg.high) parts).trans rfl
    · show u.gd.rejLeft = _ ∧ u.gd.divLeft = _
      rw [gd, is]
      exact ⟨rfl, rfl⟩
    · show u.gd.divLeft = _ ∧ u.gd.rejLeft = _
      rw [gd, is]
      exact ⟨rfl, rfl⟩
    · show u.gd.rejLeft = _ ∧ u.gd.divLeft = _
      rw [gd]
      rcases is with rfl | rfl <;> exact ⟨rfl, rfl⟩
    · refine (congrArg Gate.log gd).trans ?_
      dsimp only
      simp only [logs]
    · have wf := State.counters_canonical tables
      refine ⟨fun k => ((outcome k) wf).2.trans ?_, (defaulted wf).2.trans ?_, (overlap wf).2.trans ?_,
        (lost wf).2.trans ?_, (lostNotice wf).2.trans ?_⟩
      · split <;> rfl
      · split <;> rfl
      · split <;> rfl
      · simp only [logs]
        split <;> rfl
      · split <;> rfl

end Sys2Proof.Machine
end

section
/-! SUPPORT. Admission (section 4.6): the fire lines, the models, the entry, the tag and the batch, stage by stage. -/

namespace Sys2Proof.Machine

/-! ### The tag (R128) -/

theorem tagPayload_eq (c : CaptureClass) (item audit : Bool) (mask : BitVec 4) (id : Ident) (lane : Byte) :
    ∃ b1 b2 b3 b4 b5 : Byte, tagPayload c item audit mask id lane = [b1, b2, b3, b4, b5, lane] ∧
    b1.toNat = c.code * 32 + (if item then 16 else 0) + mask.toNat ∧
    b2.toNat * 2 ^ 24 + b3.toNat * 2 ^ 16 + b4.toNat * 2 ^ 8 + b5.toNat =
      id.epoch.toNat * 2 ^ 28 + id.itemId.toNat * 2 ^ 4 + if audit then 8 else 0 := by
  refine ⟨_, _, _, _, _, rfl, ?_, ?_⟩
  · have code := c.code_lt
    simp only [toNat_append_eq, BitVec.toNat_ofNat]
    cases item <;> simp <;> omega
  · have bytes := identBytes_toNat id
    have mark : ((identBytes id).2.2.2 ||| BitVec.zeroExtend 8 (BitVec.ofBool audit) <<< 3).toNat =
        (identBytes id).2.2.2.toNat + if audit then 8 else 0 := by
      have nibble : (identBytes id).2.2.2.toNat % 16 = 0 := by
        simp only [identBytes, toNat_append_eq, BitVec.toNat_ofNat]
        omega
      cases audit
      · simp
      · have disjoint := Nat.two_pow_add_eq_or_of_lt (i := 4) (b := 8) (by decide) ((identBytes id).2.2.2.toNat / 16)
        have whole : 2 ^ 4 * ((identBytes id).2.2.2.toNat / 16) = (identBytes id).2.2.2.toNat := by omega
        rw [whole] at disjoint
        exact (BitVec.toNat_or ..).trans disjoint.symm
    rw [mark]
    omega

/-! ### A step taken for each group of a mask -/

/-- One group's part in a step taken for the groups of a mask. -/
def State.forGroup (f : State → Group → State) (mask : BitVec 4) (s : State) (g : Group) : State :=
  if inMask mask g = true then f s g else s

theorem State.fireMask_eq_fold (s : State) (mask : BitVec 4) :
    s.fireMask mask = allGroups.foldl (State.forGroup State.pulseFire mask) s := rfl

theorem State.fillMask_eq_fold (s : State) (mask : BitVec 4) :
    s.fillMask mask = allGroups.foldl (State.forGroup State.fillModel mask) s := rfl

section
variable {R : State → State → Prop} {f : State → Group → State} {mask : BitVec 4}

/-- What every group's step keeps, a step for the groups of a list keeps. -/
theorem State.foldl_forGroup (refl : ∀ s, R s s) (trans : ∀ s x y, R s x → R x y → R s y) {l : List Group}
    (each : ∀ s, ∀ h ∈ l, R s (f s h)) (s : State) : R s (l.foldl (State.forGroup f mask) s) := by
  induction l generalizing s with
  | nil => exact refl s
  | cons first l ih =>
    refine trans _ _ _ ?_ (ih (fun s h hl => each s h (List.mem_cons_of_mem _ hl)) _)
    unfold State.forGroup
    split
    · exact each s first List.mem_cons_self
    · exact refl s

/-- In a step taken for the groups of a mask, each group's part goes as if it were alone. -/
theorem State.forGroup_alone (refl : ∀ s, R s s) (trans : ∀ s x y, R s x → R x y → R s y) (g : Group)
    (other : ∀ s h, h ≠ g → R s (f s h)) (s : State) :
    ∃ x, R s x ∧ R (State.forGroup f mask x g) (allGroups.foldl (State.forGroup f mask) s) := by
  have run : ∀ (l : List Group), g ∉ l → ∀ s, R s (l.foldl (State.forGroup f mask) s) := fun l out s =>
    State.foldl_forGroup refl trans (fun s h hl => other s h fun same => out (same ▸ hl)) s
  have split : ∃ l r, allGroups = l ++ g :: r ∧ g ∉ l ∧ g ∉ r := by
    cases g with
    | a => exact ⟨[], [.b, .c, .d], rfl, by decide, by decide⟩
    | b => exact ⟨[.a], [.c, .d], rfl, by decide, by decide⟩
    | c => exact ⟨[.a, .b], [.d], rfl, by decide, by decide⟩
    | d => exact ⟨[.a, .b, .c], [], rfl, by decide, by decide⟩
  obtain ⟨l, r, all, before, after⟩ := split
  refine ⟨l.foldl (State.forGroup f mask) s, run l before s, ?_⟩
  rw [all, List.foldl_append, List.foldl_cons]
  exact run r after _

end

/-! ### Fire lines and models -/

/-- Of two states the first has become the second in fire lines, models and counters alone. -/
def State.Loaded (s t : State) : Prop :=
  ∃ a c, t = { s with ad := a, counters := c } ∧ a.nextId = s.ad.nextId ∧ a.epoch = s.ad.epoch ∧
    a.quotaCount = s.ad.quotaCount ∧ a.spacing = s.ad.spacing ∧ a.holdStatus = s.ad.holdStatus

theorem State.Loaded.refl (s : State) : s.Loaded s := ⟨s.ad, s.counters, rfl, rfl, rfl, rfl, rfl, rfl⟩

theorem State.Loaded.trans (s t u : State) (h : s.Loaded t) (h' : t.Loaded u) : s.Loaded u := by
  obtain ⟨a, c, rfl, id, epoch, quota, spacing, hold⟩ := h
  obtain ⟨a', c', rfl, id', epoch', quota', spacing', hold'⟩ := h'
  exact ⟨a', c', rfl, id'.trans id, epoch'.trans epoch, quota'.trans quota, spacing'.trans spacing, hold'.trans hold⟩

theorem State.pulseFire_loaded (s : State) (g : Group) : s.Loaded (s.pulseFire g) := by
  unfold State.pulseFire
  split <;> cases g <;> exact ⟨_, _, rfl, rfl, rfl, rfl, rfl, rfl⟩

theorem State.fillModel_loaded (s : State) (g : Group) : s.Loaded (s.fillModel g) := by
  simp only [State.fillModel]
  split
  · cases g <;> exact ⟨_, _, rfl, rfl, rfl, rfl, rfl, rfl⟩
  · exact ⟨_, _, rfl, rfl, rfl, rfl, rfl, rfl⟩

theorem State.fireMask_loaded (s : State) (mask : BitVec 4) : s.Loaded (s.fireMask mask) :=
  State.foldl_forGroup State.Loaded.refl State.Loaded.trans (fun s h _ => s.pulseFire_loaded h) s

theorem State.fillMask_loaded (s : State) (mask : BitVec 4) : s.Loaded (s.fillMask mask) :=
  State.foldl_forGroup State.Loaded.refl State.Loaded.trans (fun s h _ => s.fillModel_loaded h) s

theorem State.regs_of_loaded {s t : State} (h : s.Loaded t) : t.regs = s.regs := by
  obtain ⟨a, c, rfl, -⟩ := h
  rfl

/-- What an admission reads of one group stands alike in two states. -/
structure State.AlikeFor (g : Group) (s x : State) : Prop where
  regs : x.regs = s.regs
  fire : x.fire g = s.fire g
  model : x.model g = s.model g
  overlaps : s.counts x (.fireOverlap g) 0

theorem State.AlikeFor.refl (g : Group) (s : State) : s.AlikeFor g s := ⟨rfl, rfl, rfl, State.counts.of_eq rfl⟩

theorem State.AlikeFor.trans (g : Group) (s x y : State) (h : State.AlikeFor g s x) (h' : State.AlikeFor g x y) :
    State.AlikeFor g s y :=
  ⟨h'.regs.trans h.regs, h'.fire.trans h.fire, h'.model.trans h.model, h.overlaps.trans h'.overlaps⟩

theorem State.AlikeFor.width {g : Group} {s x : State} (h : State.AlikeFor g s x) : x.fireWidth = s.fireWidth := by
  simp only [State.fireWidth, State.fieldOf, State.reg_congr h.regs]

theorem State.pulseFire_counts_other (s : State) (g : Group) {k : Ctr}
    (overlap : k.offset ≠ (Ctr.fireOverlap g).offset) :
    s.counts (s.pulseFire g) k 0 := by
  refine State.counts.then_eq (t := if (s.fire g).isSome = true then s.bump (.fireOverlap g) else s) ?_ ?_
  · split
    · exact State.counts.bump_other s _ overlap
    · exact State.counts.of_eq rfl
  · cases g <;> rfl

/-- A pulse touches its own group's fire line and overlap count alone (R66). -/
theorem State.pulseFire_other (s : State) {g h : Group} (other : h ≠ g) : State.AlikeFor g s (s.pulseFire h) := by
  have counted : s.counts (s.pulseFire h) (.fireOverlap g) 0 :=
    s.pulseFire_counts_other h (by cases g <;> cases h <;> first | exact absurd rfl other | decide)
  refine ⟨by simp, ?_, ?_, counted⟩
  · unfold State.pulseFire
    refine (State.fire_setFire_other _ h g _ other.symm).trans ?_
    split <;> cases g <;> rfl
  · unfold State.pulseFire
    refine (State.model_setFire _ h g _).trans ?_
    split <;> cases g <;> rfl

theorem State.pulseFire_counts (s : State) (g : Group) :
    s.counts (s.pulseFire g) (.fireOverlap g) (if (s.fire g).isSome then 1 else 0) := by
  have counted : s.counts (if (s.fire g).isSome = true then s.bump (.fireOverlap g) else s) (.fireOverlap g)
      (if (s.fire g).isSome then 1 else 0) := by
    split
    · exact State.counts.bumpBy s _ 1
    · exact State.counts.of_eq rfl
  exact counted.then_eq (by cases g <;> rfl)

theorem State.pulseFire_fire (s : State) (g : Group) : (s.pulseFire g).fire g = some s.fireWidth := by
  unfold State.pulseFire
  refine (State.fire_setFire_self _ g _).trans ?_
  split <;> rfl

/-- A group's fire line after the pulses of an admission, and its overlaps (R66). -/
theorem State.fireMask_spec (s : State) (mask : BitVec 4) (g : Group) :
    (s.fireMask mask).fire g = (if inMask mask g then some s.fireWidth else s.fire g) ∧
    (s.fireMask mask).model g = s.model g ∧
    s.counts (s.fireMask mask) (.fireOverlap g) (if inMask mask g = true ∧ (s.fire g).isSome then 1 else 0) := by
  obtain ⟨x, before, after⟩ := State.forGroup_alone (f := State.pulseFire) (mask := mask)
    (State.AlikeFor.refl g) (State.AlikeFor.trans g) g (fun s h other => s.pulseFire_other other) s
  rw [← State.fireMask_eq_fold] at after
  unfold State.forGroup at after
  by_cases hit : inMask mask g = true
  · rw [if_pos hit] at after
    have count := (before.overlaps.trans (x.pulseFire_counts g)).trans after.overlaps
    refine ⟨?_, ?_, ?_⟩
    · rw [after.fire, x.pulseFire_fire, if_pos hit, before.width]
    · rw [after.model, ← before.model]
      unfold State.pulseFire
      refine (State.model_setFire _ g g _).trans ?_
      split <;> cases g <;> rfl
    · simpa [hit, before.fire] using count
  · rw [if_neg hit] at after
    refine ⟨?_, after.model.trans before.model, ?_⟩
    · rw [after.fire, before.fire, if_neg hit]
    · simpa [hit] using before.overlaps.trans after.overlaps

/-- A model after an admission of its group (R69, R70). -/
def State.modelFilled (s : State) (g : Group) : Model :=
  if (s.model g).occ < 63 then
    { occ := (s.model g).occ + 1
      drain := if (s.model g).occ = 0 then some (s.drainUs g) else (s.model g).drain
      hold :=
        if s.modelHigh g ≤ (s.model g).occ + 1 then true
        else if (s.model g).occ + 1 ≤ s.modelLow g then false else (s.model g).hold }
  else s.model g

theorem State.fillModel_model (s : State) (g : Group) : (s.fillModel g).model g = s.modelFilled g := by
  simp only [State.fillModel, State.modelFilled]
  split
  · rw [State.model_setModel_self, Model.settle_eq]
  · cases g <;> rfl

theorem State.fillModel_alike (s : State) (g h : Group) :
    (s.fillModel h).regs = s.regs ∧ (s.fillModel h).fire g = s.fire g ∧
      s.counts (s.fillModel h) (.fireOverlap g) 0 := by
  refine ⟨by simp, ?_, ?_⟩
  · simp only [State.fillModel]
    split
    · simp
    · cases g <;> rfl
  · simp only [State.fillModel]
    split
    · exact State.counts.of_eq (by cases h <;> rfl)
    · exact State.counts.bump_other s _ (by cases g <;> decide)

theorem State.fillModel_other (s : State) {g h : Group} (other : h ≠ g) : State.AlikeFor g s (s.fillModel h) := by
  obtain ⟨regs, fire, count⟩ := s.fillModel_alike g h
  refine ⟨regs, fire, ?_, count⟩
  simp only [State.fillModel]
  split
  · exact State.model_setModel_other _ _ _ _ other.symm
  · cases g <;> rfl

theorem State.modelFilled_congr {s x : State} {g : Group} (regs : x.regs = s.regs) (model : x.model g = s.model g) :
    x.modelFilled g = s.modelFilled g := by
  have drain : x.drainUs g = s.drainUs g := by simp only [State.drainUs, State.fieldOf, State.reg_congr regs]
  have high : x.modelHigh g = s.modelHigh g := by simp only [State.modelHigh, State.fieldOf, State.reg_congr regs]
  have low : x.modelLow g = s.modelLow g := by simp only [State.modelLow, State.fieldOf, State.reg_congr regs]
  unfold State.modelFilled
  rw [model, drain, high, low]

theorem State.fillMask_spec (s : State) (mask : BitVec 4) (g : Group) :
    (s.fillMask mask).fire g = s.fire g ∧
    (s.fillMask mask).model g = (if inMask mask g then s.modelFilled g else s.model g) ∧
    s.counts (s.fillMask mask) (.fireOverlap g) 0 := by
  obtain ⟨x, before, after⟩ := State.forGroup_alone (f := State.fillModel) (mask := mask)
    (State.AlikeFor.refl g) (State.AlikeFor.trans g) g (fun s h other => s.fillModel_other other) s
  rw [← State.fillMask_eq_fold] at after
  unfold State.forGroup at after
  by_cases hit : inMask mask g = true
  · rw [if_pos hit] at after
    obtain ⟨-, fire, count⟩ := x.fillModel_alike g g
    refine ⟨(after.fire.trans fire).trans before.fire, ?_, (before.overlaps.trans count).trans after.overlaps⟩
    rw [after.model, x.fillModel_model, if_pos hit, State.modelFilled_congr before.regs before.model]
  · rw [if_neg hit] at after
    refine ⟨after.fire.trans before.fire, ?_, before.overlaps.trans after.overlaps⟩
    rw [after.model, before.model, if_neg hit]

theorem State.fillModel_saturates (s : State) (g : Group) :
    s.counts (s.fillModel g) .modelSaturate (if 63 ≤ (s.model g).occ then 1 else 0) := by
  simp only [State.fillModel]
  by_cases room : (s.model g).occ < 63
  · rw [if_pos room, if_neg (by omega : ¬ 63 ≤ (s.model g).occ)]
    exact State.counts.of_eq (by cases g <;> rfl)
  · rw [if_neg room, if_pos (by omega : 63 ≤ (s.model g).occ)]
    exact State.counts.bumpBy s _ 1

/-- The models of a mask that an admission finds full (R69). -/
theorem State.fillMask_saturates (s : State) (mask : BitVec 4) : s.counts (s.fillMask mask) .modelSaturate
    (allGroups.countP fun h => inMask mask h && decide (63 ≤ (s.model h).occ)) := by
  have run : ∀ (l : List Group), l.Nodup → ∀ s : State,
      s.counts (l.foldl (State.forGroup State.fillModel mask) s) .modelSaturate
        (l.countP fun h => inMask mask h && decide (63 ≤ (s.model h).occ)) := by
    intro l
    induction l with
    | nil => exact fun _ s => State.counts.of_eq rfl
    | cons g l ih =>
      intro distinct s
      obtain ⟨out, rest⟩ := List.nodup_cons.mp distinct
      have later := ih rest (State.forGroup State.fillModel mask s g)
      have same :
        (l.countP fun h => inMask mask h && decide (63 ≤ ((State.forGroup State.fillModel mask s g).model h).occ)) =
          l.countP fun h => inMask mask h && decide (63 ≤ (s.model h).occ) := by
        refine List.countP_congr fun h hl => ?_
        unfold State.forGroup
        split
        · rw [(s.fillModel_other (g := h) (h := g) fun same => out (same ▸ hl)).model]
        · rfl
      rw [same] at later
      rw [List.countP_cons, Nat.add_comm]
      refine State.counts.trans ?_ later
      unfold State.forGroup
      by_cases hit : inMask mask g = true
      · simpa [hit] using s.fillModel_saturates g
      · simpa [hit] using State.counts.of_eq rfl
  exact run allGroups (by decide) s

theorem State.fireMask_counts (s : State) (mask : BitVec 4) {k : Ctr}
    (overlap : ∀ g, k.offset ≠ (Ctr.fireOverlap g).offset) : s.counts (s.fireMask mask) k 0 :=
  State.foldl_forGroup (R := fun s x => s.counts x k 0) (fun s => State.counts.of_eq rfl) (fun s x y h h' => h.trans h')
    (fun s g _ => s.pulseFire_counts_other g (overlap g)) s

/-- The counters of pulses and models are those of R66 and R69 alone. -/
theorem State.fillMask_counts (s : State) (mask : BitVec 4) {k : Ctr} (saturate : k.offset ≠ Ctr.modelSaturate.offset) :
    s.counts (s.fillMask mask) k 0 := by
  refine State.foldl_forGroup (R := fun s x => s.counts x k 0) (fun s => State.counts.of_eq rfl)
    (fun s x y h h' => h.trans h') (fun s g _ => ?_) s
  simp only [State.fillModel]
  split
  · exact State.counts.of_eq (by cases g <;> rfl)
  · exact State.counts.bump_other s _ saturate

/-! ### Stages of an admission (section 4.6) -/

/-- The identity that the open window or ledger still holds is reused (R81). -/
def State.reuses (s : State) (id : Ident) : Bool :=
  s.lg.entries.any (fun x => x.ident == some id) || s.lg.window.any fun r => some r.ident == some id

theorem State.checkReuse_eq (s : State) (id : Ident) : s.checkReuse id = { s with
    lg := { s.lg with window :=
      (if s.reuses id then s.lg.window.filter (fun r => some r.ident ≠ some id) else s.lg.window) }
    counters := (if s.reuses id then s.bump .idReuse else s).counters } := by
  have test : (s.lg.window.any (fun r => r.ident == id) || s.lg.entries.any (fun e => e.ident == some id)) =
      s.reuses id := by
    simp only [State.reuses, Option.some_beq_some, Bool.or_comm]
  have kept : (fun r : WindowRecord => decide (some r.ident ≠ some id)) = fun r => decide (r.ident ≠ id) := by simp
  unfold State.checkReuse
  rw [test, kept]
  cases s.reuses id <;> rfl

theorem State.pushTag_eq (s : State) (m : List Byte) : s.pushTag m = { s with
    sl := { s.sl with tagQ := if s.sl.tagQ.length < 64 then s.sl.tagQ ++ [m] else s.sl.tagQ }
    rc := { s.rc with flags := s.rc.flags ||| (if s.sl.tagQ.length < 64 then 0#32 else 0x2000#32) }
    counters := (if s.sl.tagQ.length < 64 then s else s.bump .tagLost).counters } := by
  unfold State.pushTag
  by_cases room : s.sl.tagQ.length < 64
  · simp [room, Config.tagQueue]
  · simp [room, Config.tagQueue, State.bump, State.bumpBy, State.raise, Event.num]

/-- The entry of an admission (R74 to R76). -/
def State.admittedEntry (s : State) (p : Proposal) : Entry :=
  { ident := some s.nextIdent, cls := p.cls, item := p.item, audit := p.audit, expects := p.expects
    captureTravel := s.lp.travel, cycleLow := s.lp.cycleNumber.extractLsb' 0 8
    gateTravel := s.lp.travel + BitVec.ofNat 32 s.gateDistance, mask := p.mask, lane := s.pins.lane, verdict := none }

/-- Fire lines and models after an admission, its identity used (R65, R66, R69). -/
def State.fired (s : State) (p : Proposal) : State :=
  (({ s with candidates := [] } : State).useIdent.fireMask p.mask).fillMask p.mask

/-- An admission but for its batch: entry and tag made (R73, R76, R81, R128). -/
def State.entered (s : State) (p : Proposal) : State :=
  (((s.fired p).checkReuse s.nextIdent).appendEntry (s.admittedEntry p)).pushTag
    (tagPayload p.cls p.item p.audit p.mask s.nextIdent s.pins.lane)

theorem State.fired_eq (s : State) (p : Proposal) : ∃ a c, s.fired p = { s with
    candidates := [], ad := a, counters := c } ∧ a.nextId = s.ad.nextId + 1#24 ∧ a.epoch = s.ad.epoch ∧
    a.quotaCount = s.ad.quotaCount ∧ a.spacing = s.ad.spacing ∧ a.holdStatus = s.ad.holdStatus :=
  (State.fireMask_loaded _ p.mask).trans _ _ _ (State.fillMask_loaded _ p.mask)

theorem State.fired_spec (s : State) (p : Proposal) (g : Group) :
    (s.fired p).fire g = (if inMask p.mask g then some s.fireWidth else s.fire g) ∧
    (s.fired p).model g = (if inMask p.mask g then s.modelFilled g else s.model g) ∧
    s.counts (s.fired p) (.fireOverlap g) (if inMask p.mask g = true ∧ (s.fire g).isSome then 1 else 0) := by
  generalize begin_eq : ({ s with candidates := [] } : State).useIdent = x
  have fire : x.fire g = s.fire g := by subst begin_eq; cases g <;> rfl
  have model : x.model g = s.model g := by subst begin_eq; cases g <;> rfl
  have width : x.fireWidth = s.fireWidth := by subst begin_eq; rfl
  have regs : x.regs = s.regs := by subst begin_eq; rfl
  have counters : x.counters = s.counters := by subst begin_eq; rfl
  obtain ⟨fired, same, count⟩ := x.fireMask_spec p.mask g
  obtain ⟨kept, filled, count'⟩ := (x.fireMask p.mask).fillMask_spec p.mask g
  have regs' : (x.fireMask p.mask).regs = s.regs := (State.regs_of_loaded (x.fireMask_loaded p.mask)).trans regs
  unfold State.fired
  rw [begin_eq]
  refine ⟨?_, ?_, ?_⟩
  · rw [kept, fired, width, fire]
  · rw [filled, State.modelFilled_congr regs' (same.trans model), same, model]
  · have all := ((State.counts.of_eq counters).trans count).trans count'
    simpa [fire] using all

theorem State.entered_eq (s : State) (p : Proposal) : s.entered p = { s with
    candidates := [], ad := (s.fired p).ad, counters := (s.entered p).counters
    lg := { s.lg with
      entries := s.lg.entries ++ [s.admittedEntry p]
      window := if s.reuses s.nextIdent then s.lg.window.filter (fun r => some r.ident ≠ some s.nextIdent)
        else s.lg.window }
    sl := { s.sl with tagQ := if s.sl.tagQ.length < 64 then s.sl.tagQ ++
      [tagPayload p.cls p.item p.audit p.mask s.nextIdent s.pins.lane] else s.sl.tagQ }
    rc := { s.rc with flags := s.rc.flags ||| (if s.sl.tagQ.length < 64 then 0#32 else 0x2000#32) } } := by
  obtain ⟨a, c, fired, -⟩ := s.fired_eq p
  unfold State.entered
  rw [State.pushTag_eq, State.checkReuse_eq, fired]
  rfl

theorem State.takeIn_eq (s : State) (p : Proposal) : ({ s with candidates := [] } : State).takeIn p =
    if p.mask = 0#4 then (((s.entered p).countIntoBatch s.ad.epoch).bump (.admitted p.cls)).bump .unfiredAdmission
    else ((s.entered p).countIntoBatch s.ad.epoch).bump (.admitted p.cls) := by
  have lane : ∀ x : State, x.pins = s.pins → x.lp = s.lp → x.regs = s.regs →
      x.newLedgerEntry p (some s.nextIdent) = s.admittedEntry p := by
    intro x pins lp regs
    simp [State.newLedgerEntry, State.admittedEntry, pins, lp, State.gateDistance, State.fieldOf, State.reg_congr regs]
  have all : ∀ y : State, y = s.fired p → y.newLedgerEntry p (some s.nextIdent) = s.admittedEntry p ∧
      ((y.checkReuse s.nextIdent).appendEntry (s.admittedEntry p)).pins.lane = s.pins.lane := by
    rintro y rfl
    obtain ⟨a, c, fired, -⟩ := s.fired_eq p
    refine ⟨lane _ ?_ ?_ ?_, ?_⟩
    · rw [fired]
    · rw [fired]
    · rw [fired]
    · rw [State.checkReuse_eq, fired]
      rfl
  obtain ⟨entry, lane'⟩ := all _ rfl
  unfold State.takeIn State.entered
  have same : ((({ s with candidates := [] } : State).useIdent.fireMask p.mask).fillMask p.mask) = s.fired p := rfl
  have ident : ({ s with candidates := [] } : State).nextIdent = s.nextIdent := rfl
  simp only [same, ident, entry, lane']
  rfl

/-! ### The batch of an admission (R152) -/

/-- Where a batch closes to depends on the routing table, the batches and the room in the route queue alone. -/
theorem State.closeBatch_alike {x b : State} (regs : x.regs = b.regs) (route : x.route = b.route) (br : x.br = b.br)
    (flush : Bool) (n : Nat) : ∃ c u e m, x.closeBatch flush n = x.closed c u e m ∧
      b.closeBatch flush n = b.closed c u e m := by
  have entry : ∀ i, x.routeEntry i = b.routeEntry i := fun i => by simp [State.routeEntry, route]
  have veto : ∀ i, x.routeVeto i = b.routeVeto i := fun i => by simp [State.routeVeto, entry]
  have next : ∀ i, x.nextRoute i = b.nextRoute i := fun i => by
    simp only [State.nextRoute, State.routeCount, State.fieldOf, State.reg_congr regs, veto]
  have toEntry :
    ∀ i u, ∃ c v e m, x.closedTo flush n i u = x.closed c v e m ∧ b.closedTo flush n i u = b.closed c v e m := by
    intro i u
    have share : x.routeShare i = b.routeShare i := by simp only [State.routeShare, entry]
    have after : x.routeAfter i u = b.routeAfter i u := by
      unfold State.routeAfter
      rw [share, next]
    refine ⟨_, _, _, _, rfl, ?_⟩
    simp only [State.closedTo, State.routeDest, after, entry, br]
  rw [State.closeBatch_eq, State.closeBatch_eq, br, veto, next]
  split
  · split
    · exact toEntry _ _
    · refine ⟨_, _, _, _, rfl, ?_⟩
      simp only [State.closedToFallback, State.reg_congr regs, br]
  · exact toEntry _ _

/-- Two states count alike in one counter. -/
def State.SameCount (k : Ctr) (x b : State) : Prop :=
  tableWf zeroDefault x.counters = true ∧ tableWf zeroDefault b.counters = true ∧ x.counter k = b.counter k

theorem State.SameCount.bump {k : Ctr} {x b : State} (h : State.SameCount k x b) (c : Ctr) :
    State.SameCount k (x.bump c) (b.bump c) := by
  obtain ⟨wf, wf', same⟩ := h
  refine ⟨State.bumpBy_counters_wf x c 1 wf, State.bumpBy_counters_wf b c 1 wf', ?_⟩
  unfold State.bump
  by_cases here : k.offset = c.offset
  · rw [State.counter_bumpBy_self x c k 1 wf here, State.counter_bumpBy_self b c k 1 wf' here, same]
  · rw [State.counter_bumpBy_other x c k 1 here, State.counter_bumpBy_other b c k 1 here, same]

theorem State.SameCount.closed {k : Ctr} {x b : State} (h : State.SameCount k x b) (queue : x.sl.routeQ = b.sl.routeQ)
    (c u : Nat) (e : Bool) (m : List Byte) : (x.closed c u e m).counter k = (b.closed c u e m).counter k := by
  have chosen : State.SameCount k (if e = true then (x.bump .batches).bump .routeExhausted else x.bump .batches)
      (if e = true then (b.bump .batches).bump .routeExhausted else b.bump .batches) := by
    split
    · exact (h.bump _).bump _
    · exact h.bump _
  unfold State.closed
  rw [queue]
  by_cases room : b.sl.routeQ.length < 8
  · simp only [room, if_true]
    exact chosen.2.2
  · simp only [room, if_false]
    exact (chosen.bump .routeLost).2.2

theorem State.countIntoBatch_eq (x : State) (epoch : BitVec 4) : x.countIntoBatch epoch =
    if x.br.openCount + 1 = x.batchSize then
      ({ x with br := { x.br with openCount := x.br.openCount + 1, openEpoch := epoch } } : State).closeBatch false
        x.batchSize
    else { x with br := { x.br with openCount := x.br.openCount + 1, openEpoch := epoch } } := rfl

theorem State.countIntoBatch_counts (x : State) (epoch : BitVec 4) {k : Ctr}
    (h : ∀ c : Ctr, c = .batches ∨ c = .routeExhausted ∨ c = .routeLost → k.offset ≠ c.offset) :
    x.counts (x.countIntoBatch epoch) k 0 := by
  rw [State.countIntoBatch_eq]
  generalize joined : ({ x with br := { x.br with openCount := x.br.openCount + 1, openEpoch := epoch } } : State) = y
  have counters : y.counters = x.counters := by rw [← joined]
  split
  · obtain ⟨c, u, e, m, closed, -⟩ := State.closeBatch_alike (x := y) (b := y) rfl rfl rfl false x.batchSize
    rw [closed]
    exact (State.counts.of_eq counters).trans (State.closed_counts y c u e m h)
  · exact State.counts.of_eq counters

/-- The batch of an admission, for a state that stands beside it (R152): an open batch it joins, or the one it
closes. -/
theorem State.countIntoBatch_spec {x b : State} (regs : x.regs = b.regs) (route : x.route = b.route)
    (queue : x.sl.routeQ = b.sl.routeQ) {f : Word} (epoch : BitVec 4) (flags : x.rc.flags = b.rc.flags ||| f)
    (br : { x.br with openCount := x.br.openCount + 1, openEpoch := epoch } = b.br) :
    x.countIntoBatch epoch = { x with
      br := (x.countIntoBatch epoch).br, counters := (x.countIntoBatch epoch).counters
      rc := { x.rc with flags := (x.countIntoBatch epoch).rc.flags }
      sl := { x.sl with routeQ := (x.countIntoBatch epoch).sl.routeQ } } ∧
    (x.br.openCount + 1 ≠ x.batchSize → (x.countIntoBatch epoch).br = b.br ∧
      (x.countIntoBatch epoch).sl.routeQ = b.sl.routeQ ∧ (x.countIntoBatch epoch).rc.flags = b.rc.flags ||| f ∧
      (x.countIntoBatch epoch).counters = x.counters) ∧
    (x.br.openCount + 1 = x.batchSize → (x.countIntoBatch epoch).br = (b.closeBatch false x.batchSize).br ∧
      (x.countIntoBatch epoch).sl.routeQ = (b.closeBatch false x.batchSize).sl.routeQ ∧
      (x.countIntoBatch epoch).rc.flags = (b.closeBatch false x.batchSize).rc.flags ||| f ∧
      ∀ k, State.SameCount k x b → (x.countIntoBatch epoch).counter k =
        (b.closeBatch false x.batchSize).counter k) := by
  rw [State.countIntoBatch_eq, br]
  by_cases last : x.br.openCount + 1 = x.batchSize
  · obtain ⟨c, u, e, m, closed, beside⟩ := State.closeBatch_alike (x := { x with br := b.br }) regs route rfl false
      x.batchSize
    rw [if_pos last, closed, beside]
    refine ⟨rfl, fun other => absurd last other, fun _ => ⟨rfl, ?_, ?_, fun k same => ?_⟩⟩
    · rw [State.closed_routeQ, State.closed_routeQ]
      simp only [queue]
    · have swap : ∀ w a : Word, w ||| f ||| a = w ||| a ||| f := fun w a => by
        rw [BitVec.or_assoc, BitVec.or_comm f, ← BitVec.or_assoc]
      simp only [State.closed, flags, queue, swap]
    · exact State.SameCount.closed (x := { x with br := b.br }) same queue c u e m
  · rw [if_neg last]
    exact ⟨rfl, fun _ => ⟨rfl, queue, flags, rfl⟩, fun here => absurd here last⟩

/-! ### Step 7 with an admission -/

theorem State.checkReuse_counts (s : State) (id : Ident) :
    s.counts (s.checkReuse id) .idReuse (if s.reuses id then 1 else 0) := by
  rw [State.checkReuse_eq]
  refine State.counts.then_eq (t := if s.reuses id then s.bump .idReuse else s) ?_ rfl
  split
  · exact State.counts.bumpBy s .idReuse 1
  · exact State.counts.of_eq rfl

theorem State.checkReuse_counts_other (s : State) (id : Ident) {k : Ctr} (other : k.offset ≠ Ctr.idReuse.offset) :
    s.counts (s.checkReuse id) k 0 := by
  rw [State.checkReuse_eq]
  refine State.counts.then_eq (t := if s.reuses id then s.bump .idReuse else s) ?_ rfl
  split
  · exact State.counts.bump_other s _ other
  · exact State.counts.of_eq rfl

theorem State.pushTag_counts (s : State) (m : List Byte) :
    s.counts (s.pushTag m) .tagLost (if s.sl.tagQ.length < 64 then 0 else 1) := by
  rw [State.pushTag_eq]
  refine State.counts.then_eq (t := if s.sl.tagQ.length < 64 then s else s.bump .tagLost) ?_ rfl
  split
  · exact State.counts.of_eq rfl
  · exact State.counts.bumpBy s .tagLost 1

theorem State.pushTag_counts_other (s : State) (m : List Byte) {k : Ctr} (other : k.offset ≠ Ctr.tagLost.offset) :
    s.counts (s.pushTag m) k 0 := by
  rw [State.pushTag_eq]
  refine State.counts.then_eq (t := if s.sl.tagQ.length < 64 then s else s.bump .tagLost) ?_ rfl
  split
  · exact State.counts.of_eq rfl
  · exact State.counts.bump_other s _ other

theorem State.appendEntry_counts (s : State) (e : Entry) (k : Ctr) : s.counts (s.appendEntry e) k 0 :=
  State.counts.of_eq rfl

theorem State.entered_counts (s : State) (p : Proposal) {k : Ctr} (reuse : k.offset ≠ Ctr.idReuse.offset)
    (lost : k.offset ≠ Ctr.tagLost.offset) : (s.fired p).counts (s.entered p) k 0 := by
  have all := ((State.checkReuse_counts_other (s.fired p) s.nextIdent reuse).trans
    (State.appendEntry_counts _ (s.admittedEntry p) k)).trans (State.pushTag_counts_other _
      (tagPayload p.cls p.item p.audit p.mask s.nextIdent s.pins.lane) lost)
  exact all

theorem State.fired_counts (s : State) (p : Proposal) {k : Ctr} (saturate : k.offset ≠ Ctr.modelSaturate.offset)
    (overlap : ∀ g, k.offset ≠ (Ctr.fireOverlap g).offset) : s.counts (s.fired p) k 0 := by
  have all := ((State.counts.of_eq (s := s) (t := ({ s with candidates := [] } : State).useIdent) (k := k) rfl).trans
    (State.fireMask_counts _ p.mask overlap)).trans (State.fillMask_counts _ p.mask saturate)
  exact all

theorem State.fired_saturates (s : State) (p : Proposal) : s.counts (s.fired p) .modelSaturate
    (allGroups.countP fun h => inMask p.mask h && decide (63 ≤ (s.model h).occ)) := by
  generalize begin_eq : ({ s with candidates := [] } : State).useIdent = x
  have counters : x.counters = s.counters := by rw [← begin_eq]; rfl
  have model : ∀ h, (x.fireMask p.mask).model h = s.model h := fun h =>
    (x.fireMask_spec p.mask h).2.1.trans (by rw [← begin_eq]; cases h <;> rfl)
  have all := ((State.counts.of_eq counters).trans (State.fireMask_counts x p.mask (k := .modelSaturate)
    fun g => by cases g <;> decide)).trans (State.fillMask_saturates _ p.mask)
  simp only [model, Nat.zero_add] at all
  unfold State.fired
  rw [begin_eq]
  exact all

theorem State.entered_reuse (s : State) (p : Proposal) : s.counts (s.entered p) .idReuse
    (if s.reuses s.nextIdent then 1 else 0) := by
  obtain ⟨a, c, fired, -⟩ := s.fired_eq p
  have reuses : (s.fired p).reuses s.nextIdent = s.reuses s.nextIdent := by rw [fired]; rfl
  have all := (((s.fired_counts p (k := .idReuse) (by decide) fun g => by cases g <;> decide).trans
    (State.checkReuse_counts (s.fired p) s.nextIdent)).trans (State.appendEntry_counts _ (s.admittedEntry p) _)).trans
    (State.pushTag_counts_other _ (tagPayload p.cls p.item p.audit p.mask s.nextIdent s.pins.lane) (by decide))
  rw [reuses, Nat.zero_add] at all
  exact all

theorem State.entered_lost (s : State) (p : Proposal) : s.counts (s.entered p) .tagLost
    (if s.sl.tagQ.length < 64 then 0 else 1) := by
  have queue : (((s.fired p).checkReuse s.nextIdent).appendEntry (s.admittedEntry p)).sl = s.sl := by
    obtain ⟨a, c, fired, -⟩ := s.fired_eq p
    rw [fired, State.checkReuse_eq]
    rfl
  have all := (((s.fired_counts p (k := .tagLost) (by decide) fun g => by cases g <;> decide).trans
    (State.checkReuse_counts_other (s.fired p) s.nextIdent (by decide))).trans
    (State.appendEntry_counts _ (s.admittedEntry p) _)).trans
    (State.pushTag_counts _ (tagPayload p.cls p.item p.audit p.mask s.nextIdent s.pins.lane))
  simp only [queue, Nat.zero_add] at all
  exact all

theorem State.stepSeven_admitted {s : State} {p : Proposal} (proposed : s.proposal = some p)
    (free : s.globalHold = false) :
    s.stepSeven = (({ s with candidates := [] } : State).takeIn p).refreshSilence := by
  unfold State.stepSeven
  simp only [proposed, free, Bool.false_eq_true, if_false]

/-- The counters that an admission leaves to its batch and to its class. -/
theorem State.stepSeven_counters {s : State} {p : Proposal} (proposed : s.proposal = some p)
    (free : s.globalHold = false) (k : Ctr) :
    ((s.entered p).countIntoBatch s.ad.epoch).counts s.stepSeven k
      ((if k.offset = (Ctr.admitted p.cls).offset then 1 else 0) +
        if k.offset = Ctr.unfiredAdmission.offset ∧ p.mask = 0#4 then 1 else 0) := by
  rw [State.stepSeven_admitted proposed free, State.refreshSilence_eq]
  refine State.counts.then_eq (t := ({ s with candidates := [] } : State).takeIn p) ?_ rfl
  rw [State.takeIn_eq]
  generalize (s.entered p).countIntoBatch s.ad.epoch = y
  have one : ∀ (x : State) (c : Ctr), x.counts (x.bump c) k (if k.offset = c.offset then 1 else 0) := fun x c wf => by
    refine ⟨State.bumpBy_counters_wf x c 1 wf, ?_⟩
    split
    · next here => exact State.counter_bumpBy_self x c k 1 wf here
    · next other => simp [State.bump, State.counter_bumpBy_other x c k 1 other]
  by_cases none : p.mask = 0#4
  · rw [if_pos none]
    have all := (one y (.admitted p.cls)).trans (one _ .unfiredAdmission)
    simpa only [none, and_true] using all
  · rw [if_neg none]
    simpa only [none, and_false, if_false, Nat.add_zero] using one y (.admitted p.cls)

/-- Beside the batch an admission then changes counters and the silence watchdog alone. -/
theorem State.stepSeven_parts {s : State} {p : Proposal} (proposed : s.proposal = some p)
    (free : s.globalHold = false) :
    s.stepSeven = { (s.entered p).countIntoBatch s.ad.epoch with
      counters := s.stepSeven.counters, vc := s.stepSeven.vc } := by
  have step := State.stepSeven_admitted proposed free
  rw [State.takeIn_eq] at step
  generalize s.stepSeven = t at *
  generalize (s.entered p).countIntoBatch s.ad.epoch = y at *
  subst step
  by_cases none : p.mask = 0#4
  · rw [if_pos none]
    rfl
  · rw [if_neg none]
    rfl

theorem State.stepSeven_shape {s : State} {p : Proposal} (proposed : s.proposal = some p)
    (free : s.globalHold = false) :
    s.stepSeven = { s with
      candidates := [], ad := s.stepSeven.ad, lg := s.stepSeven.lg, sl := s.stepSeven.sl, br := s.stepSeven.br
      counters := s.stepSeven.counters, rc := s.stepSeven.rc, vc := s.stepSeven.vc } := by
  have entered := s.entered_eq p
  have parts := State.stepSeven_parts proposed free
  have batch := (State.countIntoBatch_spec (x := s.entered p) rfl rfl rfl (f := 0#32) s.ad.epoch BitVec.or_zero.symm
    (b := { s.entered p with
      br := { (s.entered p).br with openCount := (s.entered p).br.openCount + 1, openEpoch := s.ad.epoch } }) rfl).1
  generalize s.stepSeven = t at *
  generalize (s.entered p).countIntoBatch s.ad.epoch = y at *
  obtain ⟨a, c, l, q, r, entered⟩ : ∃ a c l q r, s.entered p = { s with
    candidates := [], ad := a, counters := c, lg := l, sl := q, rc := r } := ⟨_, _, _, _, _, entered⟩
  obtain ⟨b, c', r', q', batch⟩ : ∃ b c' r' q', y = { s.entered p with br := b, counters := c', rc := r', sl := q' } :=
    ⟨_, _, _, _, batch⟩
  obtain ⟨c'', v, parts⟩ : ∃ c'' v, t = { y with counters := c'', vc := v } := ⟨_, _, parts⟩
  rw [parts, batch, entered]

/-- Settles O42: the tag's layout, then the admission stage by stage. -/
theorem admissionsAreHandedOn : Obligations.AdmissionsAreHandedOn := by
  refine ⟨tagPayload_eq, ?_⟩
  intro s t b p g e proposed free he hb ht
  obtain ⟨a, c, fired, nextId, epoch, quota, spacing, hold⟩ := s.fired_eq p
  obtain ⟨fire, model, overlap⟩ := s.fired_spec p g
  have entered := s.entered_eq p
  have entry : e = s.admittedEntry p := he
  have reuse : (s.lg.entries.any (fun x => x.ident == e.ident) || s.lg.window.any fun r => some r.ident == e.ident) =
      s.reuses s.nextIdent := by rw [entry]; rfl
  have size : (s.entered p).batchSize = s.batchSize := by rw [entered]; rfl
  have count : (s.entered p).br.openCount = s.br.openCount := by rw [entered]
  have queue : (s.entered p).sl.routeQ = s.sl.routeQ := by rw [entered]
  obtain ⟨batch, joins, closes⟩ := State.countIntoBatch_spec (x := s.entered p) (b := b)
    (f := if s.sl.tagQ.length < 64 then 0#32 else 0x2000#32) (by rw [entered, hb]) (by rw [entered, hb])
    (by rw [entered, hb]) s.ad.epoch (by rw [entered, hb]) (by rw [entered, hb])
  rw [size, count] at joins closes
  have counted := State.stepSeven_counters proposed free
  have parts := State.stepSeven_parts proposed free
  have vc := State.stepSeven_vc proposed
  have awaits := State.stepSeven_awaiting_admitted proposed free
  have shape := State.stepSeven_shape proposed free
  rw [← ht] at parts vc awaits counted shape
  have free0 : t.awaiting = 0 ↔ s.awaiting = 0 ∧ p.expects = false := by
    rw [awaits]
    cases p.expects <;> simp
  have beside : ∀ k : Ctr, (∀ c : Ctr, c = .batches ∨ c = .routeExhausted ∨ c = .routeLost → k.offset ≠ c.offset) →
      (s.entered p).counts ((s.entered p).countIntoBatch s.ad.epoch) k 0 := fun k h =>
    State.countIntoBatch_counts _ _ h
  generalize (s.entered p).countIntoBatch s.ad.epoch = y at *
  have adm : t.ad = a := by rw [parts, batch, entered, fired]
  have br : t.br = y.br := by rw [parts]
  have lg : t.lg = (s.entered p).lg := by rw [parts, batch]
  have sl : t.sl = { (s.entered p).sl with routeQ := y.sl.routeQ } := by rw [parts, batch]
  have rc : t.rc = { (s.entered p).rc with flags := y.rc.flags } := by rw [parts, batch]
  have firing : t.fire g = (s.fired p).fire g := by cases g <;> simp only [State.fire, adm, fired]
  have modelling : t.model g = (s.fired p).model g := by cases g <;> simp only [State.model, adm, fired]
  have lg' : (s.entered p).lg = { s.lg with
      entries := s.lg.entries ++ [e]
      window := if s.reuses s.nextIdent then s.lg.window.filter (fun r => some r.ident ≠ e.ident)
        else s.lg.window } := by rw [entered, entry]; rfl
  have rcBefore : { (s.entered p).rc with flags := y.rc.flags } = { s.rc with flags := y.rc.flags } := by rw [entered]
  have slBefore : { (s.entered p).sl with routeQ := y.sl.routeQ } = { s.sl with
      tagQ := if s.sl.tagQ.length < 64 then s.sl.tagQ ++ [tagPayload p.cls p.item p.audit p.mask
        { epoch := s.ad.epoch, itemId := s.ad.nextId } s.pins.lane] else s.sl.tagQ
      routeQ := y.sl.routeQ } := by rw [entered]; rfl
  simp only [reuse]
  refine ⟨?_, ?_, ?_, ?_, ?_, ?_, ?_, ?_, ?_, ?_, ?_, ?_, ?_, ?_, ?_⟩
  · have run : t.rc = { s.rc with flags := t.rc.flags } := by rw [rc, rcBefore]
    have watch : t.vc = { s.vc with silence :=
        (if s.silenceMs = 0 ∨ s.awaiting = 0 ∧ p.expects = false ∨ s.vc.silent = true then none
          else some (s.vc.silence.getD 0)) } := by
      simp only [← free0]
      exact vc
    rw [← run, ← watch]
    exact shape
  · rw [adm, nextId]
  · rw [adm, epoch]
  · rw [adm, quota]
  · rw [adm, spacing]
  · rw [adm, hold]
  · rw [firing, fire]
  · intro out
    rw [modelling, model, if_neg (by simp [out])]
  · intro hit full
    rw [modelling, model, if_pos hit, State.modelFilled, if_neg (by omega)]
  · intro hit room
    rw [modelling, model, if_pos hit, State.modelFilled, if_pos room]
  · rw [lg, lg']
  · rw [sl, slBefore]
  · intro other
    obtain ⟨br', queue', flags, -⟩ := joins other
    refine ⟨br.trans br', ?_, ?_⟩
    · rw [sl, queue', hb]
    · rw [rc, flags, hb]
  · intro last
    obtain ⟨br', queue', flags, -⟩ := closes last
    refine ⟨br.trans br', ?_, ?_⟩
    · rw [sl, queue']
    · rw [rc, flags]
  · intro canonical
    have wf : tableWf zeroDefault s.counters = true := State.counters_canonical canonical
    have own : ∀ (k : Ctr) (n : Nat), s.counts (s.entered p) k n →
        (∀ c : Ctr, c = .batches ∨ c = .routeExhausted ∨ c = .routeLost → k.offset ≠ c.offset) →
        k.offset ≠ (Ctr.admitted p.cls).offset → k.offset ≠ Ctr.unfiredAdmission.offset →
        t.counter k = s.counter k + BitVec.ofNat 32 n := by
      intro k n here batches admitted unfired
      have all := (here.trans (beside k batches)).trans (counted k)
      rw [if_neg admitted, if_neg (fun h => unfired h.1)] at all
      exact (all wf).2
    refine ⟨fun c => ?_, ?_, ?_, ?_, ?_, ?_, ?_⟩
    · have here :=
        (s.fired_counts p (k := .admitted c) (by cases c <;> decide) fun g => by cases c <;> cases g <;> decide).trans
        (s.entered_counts p (by cases c <;> decide) (by cases c <;> decide))
      have all := (here.trans (beside _ (by rintro _ (rfl | rfl | rfl) <;> cases c <;> decide))).trans (counted _)
      have unfired : (Ctr.admitted c).offset ≠ Ctr.unfiredAdmission.offset := by cases c <;> decide
      have same : (Ctr.admitted c).offset = (Ctr.admitted p.cls).offset ↔ c = p.cls := by
        constructor
        · cases c <;> cases p.cls <;> first | exact fun _ => rfl | exact fun h => absurd h (by decide)
        · rintro rfl
          rfl
      rw [(all wf).2]
      simp only [same, unfired, false_and, if_false, Nat.add_zero, Nat.zero_add]
      split <;> rfl
    · rw [own _ _ (overlap.trans (s.entered_counts p (by cases g <;> decide) (by cases g <;> decide)))
        (by rintro _ (rfl | rfl | rfl) <;> cases g <;> decide) (by cases g <;> cases p.cls <;> decide)
        (by cases g <;> decide)]
      split <;> rfl
    · exact own _ _ ((s.fired_saturates p).trans (s.entered_counts p (by decide) (by decide)))
        (by rintro _ (rfl | rfl | rfl) <;> decide) (by cases p.cls <;> decide) (by decide)
    · rw [own _ _ (s.entered_reuse p) (by rintro _ (rfl | rfl | rfl) <;> decide)
        (by cases p.cls <;> decide) (by decide)]
      cases s.reuses s.nextIdent <;> rfl
    · rw [own _ _ (s.entered_lost p) (by rintro _ (rfl | rfl | rfl) <;> decide) (by cases p.cls <;> decide) (by decide)]
      split <;> rfl
    · have here := (s.fired_counts p (k := .unfiredAdmission) (by decide) fun g => by cases g <;> decide).trans
        (s.entered_counts p (by decide) (by decide))
      have all := (here.trans (beside _ (by rintro _ (rfl | rfl | rfl) <;> decide))).trans (counted _)
      have class_other : Ctr.unfiredAdmission.offset ≠ (Ctr.admitted p.cls).offset := by cases p.cls <;> decide
      rw [(all wf).2, if_neg class_other]
      by_cases none : p.mask = 0#4 <;> simp [none]
    · intro k mem
      have kind : k = .batches ∨ k = .routeLost ∨ k = .routeExhausted := by simpa using mem
      have here : s.counts (s.entered p) k 0 := by
        rcases kind with rfl | rfl | rfl <;>
          exact (s.fired_counts p (by decide) fun g => by cases g <;> decide).trans
            (s.entered_counts p (by decide) (by decide))
      have wfIn := (s.entered_reuse p wf).1
      have wfOn := (beside .idReuse (by rintro _ (rfl | rfl | rfl) <;> decide) wfIn).1
      have after := (counted k wfOn).2
      have class_other : k.offset ≠ (Ctr.admitted p.cls).offset := by
        rcases kind with rfl | rfl | rfl <;> cases p.cls <;> decide
      have unfired : k.offset ≠ Ctr.unfiredAdmission.offset := by rcases kind with rfl | rfl | rfl <;> decide
      have before : (s.entered p).counter k = s.counter k := (here wf).2.trans (BitVec.add_zero _)
      rw [if_neg class_other, if_neg (fun h => unfired h.1)] at after
      refine (after.trans (BitVec.add_zero _)).trans ?_
      by_cases last : s.br.openCount + 1 = s.batchSize
      · obtain ⟨-, -, -, same⟩ := closes last
        rw [if_pos last]
        have beside_b : s.counters = b.counters := by rw [hb]
        exact same k ⟨wfIn, beside_b ▸ wf, before.trans (by rw [State.counter, State.counter, beside_b])⟩
      · obtain ⟨-, -, -, same⟩ := joins last
        rw [if_neg last]
        exact Eq.trans (by rw [State.counter, State.counter, same]) before

end Sys2Proof.Machine
end

section
/-! SUPPORT. What a whole position event leaves alone of the link, the sequences and the log (R30), beside the frames
of its
steps; what the sources before the random sampler leave alone of it; steps 3 and 6 (R35 to R37, R42, R48, R50 to
R52). -/

namespace Sys2Proof.Machine

/-! ### What stands through a position event -/

/-- Of the link only the slots and the queues may change, of the sequences not the Station Resync count, of the log not
its latches. -/
structure State.Stands (s t : State) : Prop where
  link : t.sl = { s.sl with
    slots := t.sl.slots, routeQ := t.sl.routeQ, tagQ := t.sl.tagQ, noticeQ := t.sl.noticeQ }
  count : t.sq.srCount = s.sq.srCount
  latches : t.gd.latch0 = s.gd.latch0 ∧ t.gd.latch1 = s.gd.latch1 ∧ t.gd.latch2 = s.gd.latch2

section
variable {s t u : State}

theorem State.Stands.refl (s : State) : s.Stands s := ⟨rfl, rfl, rfl, rfl, rfl⟩

theorem State.Stands.trans (h : s.Stands t) (h' : t.Stands u) : s.Stands u := by
  refine ⟨?_, h'.count.trans h.count, h'.latches.1.trans h.latches.1, h'.latches.2.1.trans h.latches.2.1,
    h'.latches.2.2.trans h.latches.2.2⟩
  have first := h.link
  have second := h'.link
  generalize t.sl = y at *
  rw [second, first]

theorem State.Stands.of_eq (sl : t.sl = s.sl) (sq : t.sq = s.sq) (gd : t.gd = s.gd) : s.Stands t := by
  refine ⟨?_, by rw [sq], by rw [gd], by rw [gd], by rw [gd]⟩
  rw [sl]

/-- What is kept at every step of a fold is kept by it. -/
theorem foldl_keeps {R : State → State → Prop} (refl : ∀ s, R s s) (trans : ∀ {s t u}, R s t → R t u → R s u)
    {α : Type} {f : State → α → State} (h : ∀ s a, R s (f s a)) (l : List α) (s : State) : R s (l.foldl f s) := by
  induction l generalizing s with
  | nil => exact refl s
  | cons a l ih => exact trans (h s a) (ih (f s a))

theorem iterate_keeps {R : State → State → Prop} (refl : ∀ s, R s s) (trans : ∀ {s t u}, R s t → R t u → R s u)
    {f : State → State} (h : ∀ s, R s (f s)) (n : Nat) (s : State) : R s (iterate f n s) := by
  induction n generalizing s with
  | zero => exact refl s
  | succ n ih => exact trans (h s) (ih (f s))

end

section
variable (s : State)

theorem State.setSlot_stands (i : SlotId) (x : Slot) : s.Stands (s.setSlot i x) := ⟨rfl, rfl, rfl, rfl, rfl⟩

theorem State.requestSlot_stands (i : SlotId) : s.Stands (s.requestSlot i) := by
  rw [State.requestSlot_eq]
  exact ⟨rfl, rfl, rfl, rfl, rfl⟩

theorem State.forceWithdraw_stands (i : SlotId) : s.Stands (s.forceWithdraw i) := by
  unfold State.forceWithdraw
  split <;> first | exact .refl s | exact .of_eq rfl rfl rfl | exact ⟨rfl, rfl, rfl, rfl, rfl⟩

/-! Step 4. -/

theorem State.retireOne_stands : s.Stands s.retireOne := by
  rcases first_or_none (dueAtGate s.lp.travel) s.lg.entries with none | ⟨pre, e, post, entries, before, due⟩
  · rw [State.retireOne_of_none none]
    exact .refl s
  · rw [State.retireOne_of_first entries before due, State.dispatch_parts, State.dispatch_gd rfl]
    exact ⟨rfl, rfl, rfl, rfl, rfl⟩

theorem State.stepFour_stands : s.Stands s.stepFour := by
  have pulses : s.Stands s.countPulses := ⟨rfl, rfl, rfl, rfl, rfl⟩
  have retired := iterate_keeps .refl .trans State.retireOne_stands s.lg.entries.length s.countPulses
  unfold State.stepFour
  generalize iterate State.retireOne s.lg.entries.length s.countPulses = x at *
  exact (pulses.trans retired).trans (.of_eq (by simp) (by simp) (by simp))

/-! Step 5. -/

theorem State.openingArrives_stands (i : SlotId) : s.Stands (s.openingArrives i) := by
  unfold State.openingArrives
  split
  · exact ⟨rfl, rfl, rfl, rfl, rfl⟩
  · split <;> exact ⟨rfl, rfl, rfl, rfl, rfl⟩
  · split <;> exact ⟨rfl, rfl, rfl, rfl, rfl⟩
  · exact .refl s
  · exact .refl s

theorem State.becomeDue_stands (i : SlotId) : s.Stands (s.becomeDue i) := by
  have yielded : ∀ (x : State) (j : SlotId), x.Stands (x.yieldSlot j) := fun x j => ⟨rfl, rfl, rfl, rfl, rfl⟩
  have late : ∀ x : State, x.Stands x.lateStartCheck := fun x => by
    unfold State.lateStartCheck
    split <;> exact .of_eq rfl rfl rfl
  have below : ∀ (x : State) (j : SlotId), x.Stands (x.yieldIfDue j) := fun x j => by
    unfold State.yieldIfDue
    split
    · exact yielded x j
    · exact .refl x
  refine (s.setSlot_stands i { s.slot i with state := .due }).trans ?_
  unfold State.becomeDue
  generalize s.setSlot i { s.slot i with state := .due } = x
  dsimp only
  split
  · exact yielded x i
  · exact (late x).trans (foldl_keeps .refl .trans below _ _)

theorem State.anchorArrives_stands (i : SlotId) : s.Stands (s.anchorArrives i) := by
  unfold State.anchorArrives
  split
  · exact ⟨rfl, rfl, rfl, rfl, rfl⟩
  · split <;> exact ⟨rfl, rfl, rfl, rfl, rfl⟩
  · exact s.becomeDue_stands i
  · split <;> exact ⟨rfl, rfl, rfl, rfl, rfl⟩
  · exact .refl s

theorem State.slotPass_stands : s.Stands s.slotPass := by
  refine foldl_keeps .refl .trans (fun x i => ?_) allSlots s
  unfold State.passSlot
  by_cases opening : x.lp.cycleIndex = x.slotOpening i
  · simp only [opening, if_true]
    split
    · exact (x.openingArrives_stands i).trans (State.anchorArrives_stands _ i)
    · exact x.openingArrives_stands i
  · simp only [opening, if_false]
    split
    · exact x.anchorArrives_stands i
    · exact .refl x

theorem State.enterSeq_stands (i : SeqId) (q : SeqState) : s.Stands (s.enterSeq i q) := by
  cases i <;> exact ⟨rfl, rfl, rfl, rfl, rfl⟩

theorem State.seqWork_stands (i : SeqId) : s.Stands (s.seqWork i) := by
  have counted : s.Stands (s.countSeq i) := by cases i <;> exact ⟨rfl, rfl, rfl, rfl, rfl⟩
  have signalled : ∀ x : State, x.Stands (x.enterSignalling i) := fun x =>
    (x.enterSeq_stands i .signalling).trans (State.requestSlot_stands _ _)
  refine counted.trans ?_
  unfold State.seqWork
  generalize s.countSeq i = x
  dsimp only
  split
  · exact .refl x
  · unfold State.judgeQuiesce
    split
    · exact signalled x
    · split
      · exact State.Stands.trans (.of_eq (t := x.bump .forcedResync) rfl rfl rfl) (signalled _)
      · exact .refl x
  · exact .refl x
  · unfold State.judgeRecover
    split
    · exact x.enterSeq_stands i .idle
    · exact .refl x

theorem State.refOnSequence_stands (g : RefGen) : s.Stands (s.refOnSequence g) := by
  have cancelled : ∀ x : State, x.Stands (x.refCancel g) := fun x => by cases g <;> exact .of_eq rfl rfl rfl
  have idled : s.Stands (s.idleSlot (refSlot g)) := s.setSlot_stands _ _
  unfold State.refOnSequence
  split
  · exact .refl s
  · unfold State.refWithdraw
    split
    · exact idled.trans (cancelled _)
    · exact idled.trans (cancelled _)
    · cases g <;> exact .of_eq rfl rfl rfl
    · exact .refl s
    · exact .refl s
  · exact cancelled s

theorem State.seqStarts_stands : s.Stands s.seqStarts := by
  have refs : ∀ x : State, x.Stands x.refsOnSequence := foldl_keeps .refl .trans State.refOnSequence_stands allRefs
  have full : ∀ x : State, x.Stands x.startFull := fun x => by
    have preempted : x.Stands (x.setSeqDemand .full false).preempt := by
      have asked : x.Stands (x.setSeqDemand .full false) := ⟨rfl, rfl, rfl, rfl, rfl⟩
      refine asked.trans ?_
      unfold State.preempt
      split
      · exact .refl _
      · have ended : (x.setSeqDemand .full false).Stands
            (((x.setSeqDemand .full false).enterSeq .station .idle).bump .srPreempted) := ⟨rfl, rfl, rfl, rfl, rfl⟩
        exact ended.trans (State.forceWithdraw_stands _ _)
    refine (preempted.trans ?_).trans (refs _)
    exact ⟨rfl, rfl, rfl, rfl, rfl⟩
  have station : ∀ x : State, x.Stands x.startStation := fun x => by
    have begun : x.Stands (((x.setSeqDemand .station false).enterSeq .station .quiescing).bump .srStarts) :=
      ⟨rfl, rfl, rfl, rfl, rfl⟩
    exact begun.trans (refs _)
  unfold State.seqStarts
  by_cases first : s.fullStarts = true
  · simp only [first, if_true]
    split
    · exact (full s).trans (station _)
    · exact full s
  · simp only [first, Bool.false_eq_true, if_false]
    split
    · exact station s
    · exact .refl s

/-! Steps 6 to 8. -/

theorem State.refTest_stands (g : RefGen) : s.Stands (s.refTest g) := by
  unfold State.refTest
  split
  · split
    · exact (s.requestSlot_stands (refSlot g)).trans (by cases g <;> exact .of_eq rfl rfl rfl)
    · exact .of_eq rfl rfl rfl
  · exact .refl s

theorem State.refPropose_stands (g : RefGen) : s.Stands (s.refPropose g) := .of_eq (by simp) (by simp) (by simp)

theorem State.refStep_stands (start : Bool) (g : RefGen) : s.Stands (s.refStep start g) := by
  unfold State.refStep
  have free : s.Stands { s with freeCount := s.freeCount + 1 } := .of_eq rfl rfl rfl
  split
  · split
    · dsimp only
      split
      · exact (free.trans (State.refTest_stands _ g)).trans (State.refPropose_stands _ g)
      · exact (free.trans (State.refPropose_stands _ g)).trans (State.refTest_stands _ g)
    · exact s.refTest_stands g
  · exact s.refPropose_stands g

theorem State.closed_stands (c u : Nat) (x : Bool) (m : List Byte) : s.Stands (s.closed c u x m) :=
  ⟨rfl, rfl, rfl, rfl, rfl⟩

theorem State.closeBatch_stands (flush : Bool) (n : Nat) : s.Stands (s.closeBatch flush n) := by
  obtain ⟨c, u, e, m, closed, -⟩ := State.closeBatch_alike (x := s) (b := s) rfl rfl rfl flush n
  rw [closed]
  exact s.closed_stands c u e m

theorem State.countIntoBatch_stands (epoch : BitVec 4) : s.Stands (s.countIntoBatch epoch) := by
  have joined : s.Stands { s with br := { s.br with openCount := s.br.openCount + 1, openEpoch := epoch } } :=
    .of_eq rfl rfl rfl
  rw [State.countIntoBatch_eq]
  split
  · exact joined.trans (State.closeBatch_stands _ _ _)
  · exact joined

theorem State.takeIn_stands (p : Proposal) : s.Stands (({ s with candidates := [] } : State).takeIn p) := by
  have entered : s.Stands (s.entered p) := by
    rw [State.entered_eq]
    exact ⟨rfl, rfl, rfl, rfl, rfl⟩
  have batch := entered.trans (State.countIntoBatch_stands (s.entered p) s.ad.epoch)
  rw [State.takeIn_eq]
  generalize (s.entered p).countIntoBatch s.ad.epoch = y at *
  split
  · exact batch.trans (.of_eq rfl rfl rfl)
  · exact batch.trans (.of_eq rfl rfl rfl)

theorem State.stepSeven_stands : s.Stands s.stepSeven := by
  cases proposed : s.proposal with
  | none =>
    simp only [State.stepSeven, proposed]
    exact .of_eq rfl rfl rfl
  | some p =>
    by_cases hold : s.globalHold = true
    · simp only [State.stepSeven, proposed, hold, if_true]
      exact .of_eq (by simp) (by simp) (by simp)
    · rw [State.stepSeven_admitted proposed (by simpa using hold)]
      have taken := s.takeIn_stands p
      generalize ({ s with candidates := [] } : State).takeIn p = y at *
      exact taken.trans (.of_eq (by simp) (by simp) (by simp))

theorem State.flushRoute_stands : s.Stands s.flushRoute := by
  unfold State.flushRoute
  split
  · exact .of_eq rfl rfl rfl
  · exact s.closeBatch_stands _ _

theorem State.enterFault_stands (first : Event) (all : List Event) : s.Stands (s.enterFault first all) := by
  unfold State.enterFault
  generalize hr : ({ s.rc with
    state := .faulted, faultFirst := Event.num first
    faultCauses := all.foldl (fun w e => w ||| causeBit e) 0#32 } : RunControl) = r
  have raised : s.Stands (({ s with rc := r } : State).raise .fault) := .of_eq rfl rfl rfl
  exact raised.trans (State.flushRoute_stands _)

theorem State.stepEight_stands (active : List Bool) (global admitted flush : Bool) :
    s.Stands (s.stepEight active global admitted flush) := by
  have judged : s.Stands (((s.countAdmission admitted).evalLedgerHigh).writeHolds active global) :=
    .of_eq (by simp) (by simp) (by simp)
  have settled : ∀ x : State, x.Stands x.settleFaults.drainedTest := fun x => by
    have faults : x.Stands x.settleFaults := by
      unfold State.settleFaults
      split
      · exact .refl x
      · next e es _ =>
        have read : x.Stands { x with rc := { x.rc with deferred := [] } } := .of_eq rfl rfl rfl
        exact read.trans (State.enterFault_stands _ e (e :: es))
    exact faults.trans (.of_eq (by simp) (by simp) (by simp))
  refine judged.trans ?_
  unfold State.stepEight
  generalize ((s.countAdmission admitted).evalLedgerHigh).writeHolds active global = x
  cases flush
  · exact settled x
  · exact x.flushRoute_stands.trans (settled _)

end

/-! ### What the sources before the random sampler leave alone -/

/-- The sampler's two registers and the host demand stand. -/
structure State.Unsampled (s t : State) : Prop where
  sample : t.cs.sample = s.cs.sample
  audit : t.cs.audit = s.cs.audit
  now : t.cs.captureNow = s.cs.captureNow

section
variable {s t u : State}

theorem State.Unsampled.refl (s : State) : s.Unsampled s := ⟨rfl, rfl, rfl⟩

theorem State.Unsampled.trans (h : s.Unsampled t) (h' : t.Unsampled u) : s.Unsampled u :=
  ⟨h'.sample.trans h.sample, h'.audit.trans h.audit, h'.now.trans h.now⟩

theorem State.Unsampled.of_eq (cs : t.cs = s.cs) : s.Unsampled t := ⟨by rw [cs], by rw [cs], by rw [cs]⟩

end

section
variable (s : State)

theorem State.stepThree_unsampled : s.Unsampled s.stepThree := by
  have placed : ∀ (x : State) (e : RingEntry), x.Unsampled (x.placeEntry e) := fun x e => by
    unfold State.placeEntry
    split
    · exact ⟨rfl, rfl, rfl⟩
    · split
      · unfold State.bracketAtIntake
        split <;> exact ⟨rfl, rfl, rfl⟩
      · exact ⟨rfl, rfl, rfl⟩
  have counted : s.Unsampled { s with cs := { s.cs with debounce := min 255 (s.cs.debounce + 1) } } := ⟨rfl, rfl, rfl⟩
  refine counted.trans ?_
  unfold State.stepThree
  generalize ({ s with cs := { s.cs with debounce := min 255 (s.cs.debounce + 1) } } : State) = x
  dsimp only
  split
  · unfold State.intake
    have taken : x.Unsampled { x with cs := { x.cs with sensePending := false } } := ⟨rfl, rfl, rfl⟩
    refine taken.trans ?_
    generalize ({ x with cs := { x.cs with sensePending := false } } : State) = y
    dsimp only
    split
    · split
      · exact placed _ _
      · exact .of_eq (by simp)
    · exact ⟨rfl, rfl, rfl⟩
  · exact .refl x

theorem State.refOnSequence_unsampled (g : RefGen) : s.Unsampled (s.refOnSequence g) := by
  unfold State.refOnSequence State.refWithdraw State.refCancel
  split
  · exact .refl s
  · split <;> first | exact .refl s | (cases g <;> exact ⟨rfl, rfl, rfl⟩)
  · cases g <;> exact ⟨rfl, rfl, rfl⟩

theorem State.seqStarts_unsampled : s.Unsampled s.seqStarts := by
  have refs : ∀ x : State, x.Unsampled x.refsOnSequence :=
    foldl_keeps .refl .trans State.refOnSequence_unsampled allRefs
  have full : ∀ x : State, x.Unsampled x.startFull := fun x => by
    have begun : x.Unsampled ((((x.setSeqDemand .full false).preempt).enterSeq .full .quiescing).bump .frStarts) :=
      .of_eq (by simp)
    exact begun.trans (refs _)
  have station : ∀ x : State, x.Unsampled x.startStation := fun x => by
    have begun : x.Unsampled (((x.setSeqDemand .station false).enterSeq .station .quiescing).bump .srStarts) :=
      ⟨rfl, rfl, rfl⟩
    exact begun.trans (refs _)
  unfold State.seqStarts
  by_cases first : s.fullStarts = true
  · simp only [first, if_true]
    split
    · exact (full s).trans (station _)
    · exact full s
  · simp only [first, Bool.false_eq_true, if_false]
    split
    · exact station s
    · exact .refl s

theorem State.refMark_unsampled (g : RefGen) : s.Unsampled (s.refMark g) := by
  unfold State.refMark
  split
  · cases g <;> exact ⟨rfl, rfl, rfl⟩
  · exact .refl s

theorem State.ringProposal_unsampled : s.Unsampled s.ringProposal := by
  unfold State.ringProposal
  split
  · exact .refl s
  · dsimp only
    split <;> exact ⟨rfl, rfl, rfl⟩

theorem State.bracketPropose_unsampled : s.Unsampled s.bracketPropose := by
  unfold State.bracketPropose
  split
  · exact .refl s
  · split
    · exact ⟨rfl, rfl, rfl⟩
    · exact .refl s

theorem State.bracketStarts_unsampled : s.Unsampled s.bracketStarts := by
  refine iterate_keeps .refl .trans (fun x => ?_) _ s
  unfold State.bracketStartOne
  split
  · exact .refl x
  · dsimp only
    split
    · next e _ _ w _ _ =>
      have begun : x.Unsampled { x with cs := { x.cs with
        ring := updateFirst (opensWindow x.lp.travel) (fun x => { x with decided := true }) x.cs.ring
        bracket := some { next := w, left := 2 * x.bracketWidth + 1, step := x.bracketStep } } } := ⟨rfl, rfl, rfl⟩
      exact begun.trans (State.bracketPropose_unsampled _)
    · exact ⟨rfl, rfl, rfl⟩

theorem State.perTest_unsampled (g : PerGen) : s.Unsampled (s.perTest g) := by
  unfold State.perTest
  split
  · split
    · cases g <;> exact ⟨rfl, rfl, rfl⟩
    · exact ⟨rfl, rfl, rfl⟩
  · exact .refl s

theorem State.perPropose_unsampled (g : PerGen) : s.Unsampled (s.perPropose g) := by
  unfold State.perPropose
  split
  · exact .refl s
  · cases g <;> exact ⟨rfl, rfl, rfl⟩

theorem State.refTest_unsampled (g : RefGen) : s.Unsampled (s.refTest g) := by
  unfold State.refTest
  split
  · split
    · have slot : s.Unsampled (s.requestSlot (refSlot g)) := .of_eq (by simp)
      exact slot.trans (by cases g <;> exact ⟨rfl, rfl, rfl⟩)
    · exact ⟨rfl, rfl, rfl⟩
  · exact .refl s

theorem State.refPropose_unsampled (g : RefGen) : s.Unsampled (s.refPropose g) := by
  unfold State.refPropose
  split
  · cases g <;> exact ⟨rfl, rfl, rfl⟩
  · exact .refl s

theorem State.refStep_unsampled (start : Bool) (g : RefGen) : s.Unsampled (s.refStep start g) := by
  unfold State.refStep
  have free : s.Unsampled { s with freeCount := s.freeCount + 1 } := ⟨rfl, rfl, rfl⟩
  split
  · split
    · dsimp only
      split
      · exact (free.trans (State.refTest_unsampled _ g)).trans (State.refPropose_unsampled _ g)
      · exact (free.trans (State.refPropose_unsampled _ g)).trans (State.refTest_unsampled _ g)
    · exact s.refTest_unsampled g
  · exact s.refPropose_unsampled g

end

/-! ### Step 3 (R35 to R37, R42) -/

theorem insertRing_between {e : RingEntry} {pre post : List RingEntry} (before : ∀ y ∈ pre, later y.due e.due = false)
    (after : ∀ y ∈ post.head?, later y.due e.due = true) : insertRing e (pre ++ post) = pre ++ e :: post := by
  induction pre with
  | nil =>
    cases post with
    | nil => rfl
    | cons y post => exact if_pos (after y rfl)
  | cons x pre ih =>
    have first : later x.due e.due = false := before x List.mem_cons_self
    have rest := ih fun y hy => before y (List.mem_cons_of_mem _ hy)
    rw [List.cons_append, insertRing, if_neg (by simp [first]), rest, List.cons_append]

section
variable {s : State}

theorem State.stepThree_of_none (h : s.cs.sensePending = false) :
    s.stepThree = { s with cs := { s.cs with debounce := min 255 (s.cs.debounce + 1) } } :=
  if_neg (by simp [h])

/-- The state in which step 3 takes a pending edge in. -/
def State.senseTaken (s : State) : State :=
  { s with cs := { s.cs with debounce := min 255 (s.cs.debounce + 1), sensePending := false } }

theorem State.stepThree_of_pending (h : s.cs.sensePending = true) : s.stepThree =
    if s.intakeOpen = true then
      (if s.cs.ring.length < 32 then s.senseTaken.placeEntry (s.newEntry s.pins.mark)
        else (s.senseTaken.bump .sensorOverrun).raiseInEvent .blindItem)
    else s.senseTaken.bump .sensorIgnored :=
  if_pos h

theorem State.intakeOpen_iff : s.intakeOpen = true ↔
    s.senseIntake = true ∧ (s.rc.state = .running ∨ s.rc.state = .faulted) := by
  simp [State.intakeOpen]

theorem State.placeEntry_of_none {e : RingEntry} (h : e.window = none) :
    s.placeEntry e = { s with cs := { s.cs with ring := insertRing e s.cs.ring } } := by
  simp only [State.placeEntry, h]

/-- An entry with a window placed: its bracket is decided at once where the window has opened (R42). -/
theorem State.placeEntry_of_some {e : RingEntry} {w : Travel} (h : e.window = some w) : s.placeEntry e =
    if later s.lp.travel w = true then
      (if s.cs.bracket = none then
        { s with
          cs := { s.cs with
            ring := insertRing { e with decided := true } s.cs.ring
            bracket := some
              { next := w + BitVec.ofNat 32 (missedProposals s.lp.travel w s.bracketWidth s.bracketStep * s.bracketStep)
                left := 2 * s.bracketWidth + 1 - missedProposals s.lp.travel w s.bracketWidth s.bracketStep
                step := s.bracketStep } }
          counters := (s.bumpBy .bracketSkip
            (missedProposals s.lp.travel w s.bracketWidth s.bracketStep)).counters }
      else { s with
        cs := { s.cs with ring := insertRing { e with decided := true } s.cs.ring }
        counters := (s.bump .bracketBusy).counters })
    else { s with cs := { s.cs with ring := insertRing e s.cs.ring } } := by
  simp only [State.placeEntry, h]
  by_cases opened : later s.lp.travel w = true
  · rw [if_pos opened, if_pos opened, State.bracketAtIntake]
    cases busy : s.cs.bracket with
    | none =>
      simp only [if_true]
      rfl
    | some b => simp [State.bump, State.bumpBy, State.counter]
  · rw [if_neg opened, if_neg opened]

/-- A pending edge taken in: the entry stands in order of its due travel, and a window that has opened is decided. -/
theorem State.stepThree_of_room {pre post : List RingEntry} {e : RingEntry} {x : Travel} {m : Nat}
    (pending : s.cs.sensePending = true) (taken : s.intakeOpen = true) (room : s.cs.ring.length < 32)
    (ring : s.cs.ring = pre ++ post) (before : ∀ y ∈ pre, later y.due e.due = false)
    (after : ∀ y ∈ post.head?, later y.due e.due = true) (due : e.due = s.lp.travel + BitVec.ofNat 32 s.senseDelay)
    (marked : e.marked = s.pins.mark) (hx : x = e.due - BitVec.ofNat 32 (s.bracketWidth * s.bracketStep))
    (window : e.window = if s.pins.mark = true ∧ s.bracketWidth ≠ 0 then some x else none)
    (decided : e.decided = (e.window.isSome && later s.lp.travel x))
    (hm : m = (List.range (2 * s.bracketWidth + 1)).countP fun k =>
      later s.lp.travel (x + BitVec.ofNat 32 (k * s.bracketStep))) :
    s.stepThree = { s with
      cs := { s.cs with
        debounce := min 255 (s.cs.debounce + 1), sensePending := false, ring := pre ++ e :: post
        bracket := if e.decided = true ∧ s.cs.bracket = none then
            some { next := x + BitVec.ofNat 32 (m * s.bracketStep), left := 2 * s.bracketWidth + 1 - m
                   step := s.bracketStep }
          else s.cs.bracket }
      counters := if e.decided = true then
          (if s.cs.bracket = none then (s.bumpBy .bracketSkip m).counters else (s.bump .bracketBusy).counters)
        else s.counters } := by
  have missed : missedProposals s.lp.travel x s.bracketWidth s.bracketStep = m := hm.symm
  rw [State.stepThree_of_pending pending, if_pos taken, if_pos room, ← insertRing_between before after, ← ring]
  have made : e = { s.newEntry s.pins.mark with decided := e.decided } := by
    cases e
    simp only at due marked window hx
    subst due marked window hx
    rfl
  by_cases wide : s.pins.mark = true ∧ s.bracketWidth ≠ 0
  · have entry : (s.newEntry s.pins.mark).window = some x := by
      rw [hx, due]
      exact if_pos wide
    have judged : e.decided = later s.lp.travel x := by rw [decided, window, if_pos wide]; rfl
    rw [State.placeEntry_of_some entry]
    by_cases opened : later s.lp.travel x = true
    · rw [opened] at judged
      rw [judged] at made
      rw [if_pos (by exact opened), judged, ← made]
      by_cases free : s.cs.bracket = none
      · rw [if_pos (by exact free), if_pos ⟨rfl, free⟩, if_pos rfl, if_pos free]
        simp only [← missed]
        rfl
      · rw [if_neg (by exact free), if_neg (fun h => free h.2), if_pos rfl, if_neg free]
        rfl
    · rw [Bool.not_eq_true] at opened
      rw [opened] at judged
      rw [judged] at made
      have same : s.newEntry s.pins.mark = e := made.symm
      rw [if_neg (by simpa [State.senseTaken] using opened), judged, same, if_neg (fun h => absurd h.1 (by decide)),
        if_neg (by decide)]
      rfl
  · have judged : e.decided = false := by rw [decided, window, if_neg wide]; rfl
    rw [judged] at made
    have same : s.newEntry s.pins.mark = e := made.symm
    rw [State.placeEntry_of_none (if_neg wide), judged, same, if_neg (fun h => absurd h.1 (by decide)),
      if_neg (by decide)]
    rfl

end

/-! ### Step 6, the last sources (R48, R50 to R52) -/

/-- The shift of a sampler's register, bit by bit (R50). -/
theorem lfsr_of_bits {v x : Word} (shifted : ∀ n, 0 < n → n < 32 → bit x n = bit v (n - 1))
    (fed : bit x 0 = (bit v 31 ^^ bit v 21 ^^ bit v 1 ^^ bit v 0)) : lfsr v = x := by
  refine BitVec.eq_of_getLsbD_eq fun n hn => ?_
  rcases Nat.eq_zero_or_pos n with rfl | pos
  · refine Eq.trans ?_ fed.symm
    simp [lfsr, bit]
  · refine Eq.trans ?_ (shifted n pos hn).symm
    have high : n ≠ 0 := by omega
    have low : BitVec.getLsbD v (n - 1) = v[n - 1] := BitVec.getLsbD_eq_getElem (by omega)
    simp [lfsr, bit, hn, high, low]

section
variable {s : State}

theorem State.patternStep_of_off (h : s.patternEnabled = false) : s.patternStep = s := if_neg (by simp [h])

theorem State.patternStep_of_on {e : Word} {l : List Candidate} (on : s.patternEnabled = true)
    (he : e = readTable 0#32 s.pattern s.lp.cycleIndex)
    (hl : l = (if bit e 0 then s.candidates ++
      [{ cls := .pattern, mask := s.classMask .pattern, item := false, audit := false }] else s.candidates)) :
    s.patternStep = { s with
      candidates :=
        if bit e 1 then l.map fun k => if k.cls = .sensor then { k with audit := true } else k else l } := by
  rw [State.patternStep, if_pos on]
  dsimp only
  rw [← he]
  subst hl
  cases bit e 0 <;> cases bit e 1 <;> rfl

theorem State.randomStep_of_off (h : s.randomEnabled = false) : s.randomStep = s := if_neg (by simp [h])

theorem State.randomStep_of_on {x y : Word} {l : List Candidate} (on : s.randomEnabled = true)
    (hx : lfsr s.cs.sample = x) (hy : lfsr s.cs.audit = y)
    (hl : l = (if x.toNat < (s.reg .csSampleThresh).toNat then s.candidates ++
      [{ cls := .random, mask := s.classMask .random, item := false, audit := false }] else s.candidates)) :
    s.randomStep = { s with
      cs := { s.cs with sample := x, audit := y }
      candidates := if y.toNat < (s.reg .csAuditThresh).toNat then
        l.map fun k => if k.cls = .sensor then { k with audit := true } else k else l } := by
  subst hl
  obtain ⟨z, hz⟩ : ∃ z, z = ({ s with cs := { s.cs with sample := x, audit := y } } : State) := ⟨_, rfl⟩
  have drawn : (if x.toNat < (s.reg .csSampleThresh).toNat then z.propose .random else z) = { z with
      candidates := if x.toNat < (s.reg .csSampleThresh).toNat then s.candidates ++
        [{ cls := .random, mask := s.classMask .random, item := false, audit := false }] else s.candidates } := by
    subst hz
    split <;> rfl
  have unfolded : ∀ u : State, u = (if x.toNat < (s.reg .csSampleThresh).toNat then z.propose .random else z) →
      (if u.cs.audit.toNat < (u.reg .csAuditThresh).toNat then u.auditSensor else u) = { z with
        candidates := if y.toNat < (s.reg .csAuditThresh).toNat then
          u.candidates.map fun k => if k.cls = .sensor then { k with audit := true } else k else u.candidates } := by
    rintro u rfl
    rw [drawn]
    subst hz
    by_cases audited : y.toNat < (s.reg .csAuditThresh).toNat
    · rw [if_pos audited, if_pos (by exact audited)]
      rfl
    · rw [if_neg audited, if_neg (by exact audited)]
  have steps : s.randomStep = (fun u : State =>
      if u.cs.audit.toNat < (u.reg .csAuditThresh).toNat then u.auditSensor else u)
        (if x.toNat < (s.reg .csSampleThresh).toNat then z.propose .random else z) := by
    rw [State.randomStep, if_pos on, hx, hy, hz]
    rfl
  refine steps.trans ((unfolded _ rfl).trans ?_)
  rw [drawn, hz]

theorem State.hostStep_of_off (h : s.cs.captureNow = false) : s.hostStep = s := if_neg (by simp [h])

end

/-! ### Steps 1 and 2 -/

section
variable (s : State)

/-- Of the line, step 2 changes the cycle's measures alone. -/
theorem State.stepTwo_line (start : Bool) : (s.stepTwo start).lp = { s.lp with
    cycleIndex := (s.stepTwo start).lp.cycleIndex, cycleNumber := (s.stepTwo start).lp.cycleNumber
    indexPending := (s.stepTwo start).lp.indexPending, sinceIndex := (s.stepTwo start).lp.sinceIndex
    phaseKind := (s.stepTwo start).lp.phaseKind, phaseOffset := (s.stepTwo start).lp.phaseOffset } := by
  have counted : s.incSince.lp = { s.lp with sinceIndex := s.incSince.lp.sinceIndex } := by
    unfold State.incSince
    split <;> rfl
  unfold State.stepTwo
  split
  · split
    · rfl
    · rw [counted]
  · split
    · split
      · by_cases h : s.lp.cycleIndex = s.expectedIndex
        · rw [State.checkIndex_of_expected h]
          rfl
        · rw [State.checkIndex_of_mismatch h]
          split
          · unfold State.realign
            dsimp only
            split <;> rfl
          · rfl
      · rw [State.countSince_eq]
        split
        · dsimp only
          rw [counted]
        · rw [counted]
    · rfl

/-- Without a realignment step 2 leaves the cycle index and number alone. -/
theorem State.stepTwo_cycle (start : Bool) (h : s.sourceInternal = true ∨ s.indexUse = false ∨
    s.lp.indexPending = false ∨ s.realigns = false) : (s.stepTwo start).lp.cycleIndex = s.lp.cycleIndex ∧
    (s.stepTwo start).lp.cycleNumber = s.lp.cycleNumber := by
  have counted : s.incSince.lp = { s.lp with sinceIndex := s.incSince.lp.sinceIndex } := by
    unfold State.incSince
    split <;> rfl
  unfold State.stepTwo
  split
  · split
    · exact ⟨rfl, rfl⟩
    · rw [counted]
      exact ⟨rfl, rfl⟩
  · next external =>
    split
    · next use =>
      split
      · next pending =>
        have free : ¬ s.realigns = true := by
          rcases h with h | h | h | h
          · exact absurd h external
          · exact absurd use (by simp [h])
          · exact absurd pending (by simp [h])
          · simp [h]
        by_cases h : s.lp.cycleIndex = s.expectedIndex
        · rw [State.checkIndex_of_expected h]
          exact ⟨rfl, rfl⟩
        · rw [State.checkIndex_of_mismatch h, if_neg free]
          exact ⟨rfl, rfl⟩
      · rw [State.countSince_eq]
        split
        · dsimp only
          rw [counted]
          exact ⟨rfl, rfl⟩
        · rw [counted]
          exact ⟨rfl, rfl⟩
    · exact ⟨rfl, rfl⟩

/-- A pending index is taken at step 2 (R25), and in Realign mode it leaves the expected index (R27). -/
theorem State.stepTwo_index (start : Bool) (external : s.sourceInternal = false) (use : s.indexUse = true)
    (pending : s.lp.indexPending = true) : (s.stepTwo start).lp.indexPending = false ∧
    (s.stepTwo start).lp.sinceIndex = 0 ∧
    (s.realigns = true → (s.stepTwo start).lp.cycleIndex = s.expectedIndex) := by
  rw [State.stepTwo, if_neg (by simp [external]), if_pos use, if_pos pending]
  by_cases h : s.lp.cycleIndex = s.expectedIndex
  · rw [State.checkIndex_of_expected h]
    exact ⟨rfl, rfl, fun _ => h⟩
  · rw [State.checkIndex_of_mismatch h]
    by_cases realigns : s.realigns = true
    · rw [if_pos realigns]
      unfold State.realign
      dsimp only
      split
      · exact ⟨rfl, rfl, fun _ => rfl⟩
      · exact ⟨rfl, rfl, fun _ => rfl⟩
    · rw [if_neg realigns]
      exact ⟨rfl, rfl, fun on => absurd on realigns⟩

end

/-! ### The event as a whole -/

section
variable (u : State) (start : Bool)

/-- A position event up to the slot pass of step 5. -/
def State.upToSlots : State := u.stepThree.stepFour.slotPass

/-- A position event from the sequences of step 5 to the bracket windows of step 6. -/
def State.upToBrackets : State :=
  (((((((u.upToSlots.seqWork .station).seqWork .full).periodicResync.seqStarts.refMark .a).refMark .b).refMark
    .c).ringProposal.bracketPropose).bracketStarts)

/-- A position event up to the random sampler of step 6. -/
def State.upToSampler : State :=
  ((((((u.upToBrackets.perTest .p1).perPropose .p1).perTest .p2).perPropose .p2).refStep start .a).refStep start
    .b).refStep start .c

/-- A position event up to step 6. -/
def State.upToSix : State := (u.upToSampler start).patternStep.randomStep.hostStep

theorem State.stepsFromThree_eq : u.stepsFromThree start =
    (u.upToSix start).stepSeven.stepEight (u.upToSix start).activeHolds (u.upToSix start).globalHold
      ((u.upToSix start).proposal.isSome && !(u.upToSix start).globalHold)
      ((u.upToSix start).sq.fr.state == .quiescing && (u.upToSix start).sq.fr.count == 0) := by
  have six : u.stepThree.stepFour.stepFive.stepSix start = u.upToSix start := by
    simp only [State.stepFive, State.stepSix, allRefs, List.foldl_cons, List.foldl_nil, State.upToSix,
      State.upToSampler, State.upToBrackets, State.upToSlots]
  unfold State.stepsFromThree
  rw [six]
  generalize u.upToSix start = w
  rfl

theorem State.upToSlots_stands : u.Stands u.upToSlots :=
  ((State.Stands.of_eq (by simp) (by simp) (by simp)).trans u.stepThree.stepFour_stands).trans
    (State.slotPass_stands _)

theorem State.upToBrackets_stands : u.Stands u.upToBrackets := by
  refine u.upToSlots_stands.trans ?_
  unfold State.upToBrackets
  generalize u.upToSlots = x
  have worked := (x.seqWork_stands .station).trans (State.seqWork_stands _ .full)
  have asked : ∀ y : State, y.Stands y.periodicResync := fun y => by
    unfold State.periodicResync
    dsimp only
    split
    · exact ⟨rfl, rfl, rfl, rfl, rfl⟩
    · exact .refl y
  have started := (worked.trans (asked _)).trans (State.seqStarts_stands _)
  exact started.trans (.of_eq (by simp) (by simp) (by simp))

theorem State.upToSampler_stands : u.Stands (u.upToSampler start) := by
  refine u.upToBrackets_stands.trans ?_
  unfold State.upToSampler
  generalize u.upToBrackets = x
  have periodic : x.Stands ((((x.perTest .p1).perPropose .p1).perTest .p2).perPropose .p2) :=
    .of_eq (by simp) (by simp) (by simp)
  exact ((periodic.trans (State.refStep_stands _ start .a)).trans (State.refStep_stands _ start .b)).trans
    (State.refStep_stands _ start .c)

theorem State.stepsFromThree_stands : u.Stands (u.stepsFromThree start) := by
  have six : u.Stands (u.upToSix start) :=
    (u.upToSampler_stands start).trans
      (.of_eq (by simp [State.upToSix]) (by simp [State.upToSix]) (by simp [State.upToSix]))
  rw [State.stepsFromThree_eq]
  exact (six.trans (State.stepSeven_stands _)).trans (State.stepEight_stands _ _ _ _ _)

theorem State.upToSampler_unsampled : u.Unsampled (u.upToSampler start) := by
  have brackets : u.Unsampled u.upToBrackets := by
    have slots : u.Unsampled u.upToSlots := u.stepThree_unsampled.trans (.of_eq (by simp [State.upToSlots]))
    refine slots.trans ?_
    unfold State.upToBrackets
    generalize u.upToSlots = x
    have worked : x.Unsampled ((x.seqWork .station).seqWork .full).periodicResync := .of_eq (by simp)
    exact ((((((worked.trans (State.seqStarts_unsampled _)).trans (State.refMark_unsampled _ .a)).trans
      (State.refMark_unsampled _ .b)).trans (State.refMark_unsampled _ .c)).trans
      (State.ringProposal_unsampled _)).trans (State.bracketPropose_unsampled _)).trans
      (State.bracketStarts_unsampled _)
  refine brackets.trans ?_
  unfold State.upToSampler
  generalize u.upToBrackets = x
  exact ((((((x.perTest_unsampled .p1).trans (State.perPropose_unsampled _ .p1)).trans
    (State.perTest_unsampled _ .p2)).trans (State.perPropose_unsampled _ .p2)).trans
    (State.refStep_unsampled _ start .a)).trans (State.refStep_unsampled _ start .b)).trans
    (State.refStep_unsampled _ start .c)

theorem State.upToSampler_kept : (u.upToSampler start).lp = u.lp ∧ (u.upToSampler start).regs = u.regs ∧
    (u.upToSampler start).pattern = u.pattern ∧ (u.upToSampler start).vc = u.stepThree.stepFour.vc ∧
    (u.upToSampler start).lg = u.stepThree.stepFour.lg := by
  simp [State.upToSampler, State.upToBrackets, State.upToSlots]

/-- The silence watchdog after an event: it starts anew where step 4 left no entry Awaiting (R109). -/
theorem State.stepsFromThree_vc : (u.stepsFromThree start).vc = { u.vc with silence :=
    (if u.silenceMs = 0 ∨ (u.stepsFromThree start).awaiting = 0 ∨ u.vc.silent = true then none
      else some (if (u.upToSix start).awaiting = 0 then 0 else u.vc.silence.getD 0)) } := by
  obtain ⟨-, regs, -, vc, lg⟩ := u.upToSampler_kept start
  have four := u.stepThree.stepFour_vc
  have standing : u.stepThree.vc = u.vc := by simp
  have limit : u.stepThree.silenceMs = u.silenceMs := by simp [State.silenceMs, State.fieldOf, State.reg]
  rw [standing, limit, ← vc] at four
  have six : (u.upToSix start).vc = (u.upToSampler start).vc := by simp [State.upToSix]
  have ledger : (u.upToSix start).awaiting = u.stepThree.stepFour.awaiting :=
    State.awaiting_of_entries (by simp [State.upToSix, lg])
  have limit' : (u.upToSix start).silenceMs = u.silenceMs := by
    have same : (u.upToSix start).regs = u.regs := by simp [State.upToSix, regs]
    simp only [State.silenceMs, State.fieldOf, State.reg_congr same]
  rw [← six, ← ledger] at four
  rw [State.stepsFromThree_eq]
  generalize u.upToSix start = w at *
  have after : ∀ a g d f, (w.stepSeven.stepEight a g d f).vc = w.stepSeven.vc := fun a g d f => by simp
  have awaits : ∀ a g d f, (w.stepSeven.stepEight a g d f).awaiting = w.stepSeven.awaiting := fun a g d f =>
    State.awaiting_of_entries (State.stepEight_entries _ _ _ _ _)
  rw [after, awaits]
  cases proposed : w.proposal with
  | none =>
    have none : w.stepSeven = { w with candidates := [] } := by simp only [State.stepSeven, proposed]
    have same : w.stepSeven.awaiting = w.awaiting := by rw [none]; rfl
    rw [none] at same ⊢
    rw [same, four]
    by_cases stops : u.silenceMs = 0 ∨ w.awaiting = 0 ∨ u.vc.silent = true
    · rw [if_pos stops, if_pos stops]
    · rw [if_neg stops, if_neg stops, if_neg (fun h => stops (.inr (.inl h)))]
  | some p =>
    have silent : w.vc.silent = u.vc.silent := by rw [four]
    rw [State.stepSeven_vc proposed, limit', silent]
    by_cases stops : u.silenceMs = 0 ∨ w.stepSeven.awaiting = 0 ∨ u.vc.silent = true
    · rw [if_pos stops, if_pos stops, four]
    · rw [if_neg stops, if_neg stops, four]
      by_cases none : w.awaiting = 0
      · simp [none]
      · have goes : ¬ (u.silenceMs = 0 ∨ w.awaiting = 0 ∨ u.vc.silent = true) := by tauto
        rw [if_neg none, if_neg goes]
        rfl

end

/-- Step 7 uses the candidates up. -/
theorem State.stepSeven_candidates (s : State) : s.stepSeven.candidates = [] := by
  unfold State.stepSeven
  split
  · rfl
  · split <;> simp

/-- The state in which the steps of an event begin: one position taken at the edge's first place (R21, R32). -/
def State.eventBegun (s : State) (p : Pins) : State :=
  { s.arrive .position with
    pins := p, lp := { s.lp with acc := s.lp.acc - 1 }, clk := { s.clk with sincePosition := 0 } }

/-- An event after steps 1 and 2. -/
def State.upToTwo (s : State) (p : Pins) : State :=
  (s.eventBegun p).stepOne.stepTwo (decide (s.cycleLen ≤ s.lp.cycleIndex + 1))

theorem State.eventBegun_eq (s : State) (p : Pins) : s.eventBegun p = { s with
    sl := { s.sl with place := .position, earlier := s.startableNow }
    pins := p, lp := { s.lp with acc := s.lp.acc - 1 }, clk := { s.clk with sincePosition := 0 } } := by
  rw [State.eventBegun, State.arrive_eq]
  rfl

theorem State.positionEvent_arrived (s : State) (p : Pins) :
    (({ s with pins := p } : State).arrive .position).positionEvent =
      (s.upToTwo p).stepsFromThree (decide (s.cycleLen ≤ s.lp.cycleIndex + 1) || (s.upToTwo p).lp.cycleIndex == 0) := by
  have begun : ({ ({ s with pins := p } : State).arrive .position with
      lp := { (({ s with pins := p } : State).arrive .position).lp with acc := s.lp.acc - 1 }
      clk := { (({ s with pins := p } : State).arrive .position).clk with sincePosition := 0 } } : State) =
      s.eventBegun p := by
    rw [State.eventBegun_eq, State.arrive_eq]
    rfl
  rw [State.upToTwo, ← begun, State.arrive_eq]
  rfl

/-- Step 1 of an event (R22, R23, R29). -/
theorem State.eventBegun_stepOne (s : State) (p : Pins) : ∃ c, (s.eventBegun p).stepOne = { s with
    sl := { s.sl with place := .position, earlier := s.startableNow }
    pins := p, clk := { s.clk with sincePosition := 0 }, counters := c
    lp := { s.lp with
      acc := s.lp.acc - 1, travel := s.lp.travel + 1#32, lineMoving := true
      stallTimer := if s.stallMs = 0 then none else some 0
      cycleIndex := if s.cycleLen ≤ s.lp.cycleIndex + 1 then 0 else s.lp.cycleIndex + 1
      cycleNumber := if s.cycleLen ≤ s.lp.cycleIndex + 1 then s.lp.cycleNumber + 1#16 else s.lp.cycleNumber } } := by
  rw [State.eventBegun_eq]
  by_cases wraps : s.cycleLen ≤ s.lp.cycleIndex + 1
  · rw [State.stepOne_wrapping (by exact wraps)]
    simp only [wraps, if_true]
    exact ⟨_, rfl⟩
  · rw [State.stepOne_within (by exact Nat.lt_of_not_le wraps)]
    simp only [wraps, if_false]
    exact ⟨_, rfl⟩

/-- The line and the rest after steps 1 and 2 of an event. -/
theorem State.upToTwo_spec (s : State) (p : Pins) (u : State) (hu : s.upToTwo p = u) :
    (u.lp.acc = s.lp.acc - 1 ∧ u.lp.travel = s.lp.travel + 1#32 ∧ u.lp.lineMoving = true ∧
      u.lp.stallTimer = (if s.stallMs = 0 then none else some 0) ∧ u.lp.debt = s.lp.debt ∧
      u.lp.reverseSat = s.lp.reverseSat ∧ u.lp.genTimer = s.lp.genTimer) ∧
    (s.sourceInternal = true ∨ s.indexUse = false ∨ s.lp.indexPending = false ∨ s.realigns = false →
      u.lp.cycleIndex = (if s.cycleLen ≤ s.lp.cycleIndex + 1 then 0 else s.lp.cycleIndex + 1) ∧
      u.lp.cycleNumber =
        if s.cycleLen ≤ s.lp.cycleIndex + 1 then s.lp.cycleNumber + 1#16 else s.lp.cycleNumber) ∧
    (s.sourceInternal = false → s.indexUse = true → s.lp.indexPending = true →
      u.lp.indexPending = false ∧ u.lp.sinceIndex = 0 ∧
        (s.realigns = true → u.lp.cycleIndex = s.expectedIndex)) ∧
    (u.sl = { s.sl with place := .position, earlier := s.startableNow } ∧ u.pins = p ∧
      u.clk = { s.clk with sincePosition := 0 } ∧ u.sq = s.sq ∧ u.gd = s.gd ∧ u.vc = s.vc ∧ u.cs = s.cs) ∧
    u.port = s.port ∧ u.regs = s.regs ∧ u.pattern = s.pattern ∧ u.route = s.route ∧ u.pending = s.pending ∧
      u.shadows = s.shadows ∧ u.snapTravel = s.snapTravel ∧ u.snapCount = s.snapCount := by
  obtain ⟨c, one⟩ := s.eventBegun_stepOne p
  rw [State.upToTwo] at hu
  generalize (s.eventBegun p).stepOne = o at *
  have regs : o.regs = s.regs := by rw [one]
  have line := o.stepTwo_line (decide (s.cycleLen ≤ s.lp.cycleIndex + 1))
  have cycle := o.stepTwo_cycle (decide (s.cycleLen ≤ s.lp.cycleIndex + 1))
  have index := o.stepTwo_index (decide (s.cycleLen ≤ s.lp.cycleIndex + 1))
  have frame := o.stepTwo_frame (decide (s.cycleLen ≤ s.lp.cycleIndex + 1))
  rw [hu] at line cycle index frame
  have internal : o.sourceInternal = s.sourceInternal := by rw [one]; rfl
  have use : o.indexUse = s.indexUse := by rw [one]; rfl
  have realigns : o.realigns = s.realigns := by rw [one]; rfl
  have expected : o.expectedIndex = s.expectedIndex := by rw [one]; rfl
  have pending : o.lp.indexPending = s.lp.indexPending := by rw [one]
  rw [internal, use, realigns, pending] at cycle index
  rw [expected] at index
  obtain ⟨f1, f2, f3, f4, f5, f6, f7, -, -, -, f11, f12, f13, -, f15, f16, f17, f18, f19, -⟩ := frame
  refine ⟨?_, fun h => ?_, index, ?_, ?_⟩
  · rw [line, one]
    exact ⟨rfl, rfl, rfl, rfl, rfl, rfl, rfl⟩
  · obtain ⟨h1, h2⟩ := cycle h
    rw [h1, h2, one]
    exact ⟨rfl, rfl⟩
  · rw [f13, f19, f6, f15, f12, f11, f7, one]
    exact ⟨rfl, rfl, rfl, rfl, rfl, rfl, rfl⟩
  · rw [f2, f3, f4, f5, f1, f16, f17, f18, one]
    exact ⟨rfl, rfl, rfl, rfl, rfl, rfl, rfl, rfl⟩

/-- Settles O40: an event is its eight steps; what stands through them, then steps 3 and 6. -/
theorem positionEventsAdvanceTheLine : Obligations.PositionEventsAdvanceTheLine := by
  intro s p
  refine ⟨fun empty => ?_, fun waits => ?_, State.stepThree_of_none, fun pending closed => ?_,
    fun pending intake runs full => ?_,
    fun pre post e x m pending intake runs room ring before after due marked hx window
      decided hm => ?_, State.patternStep_of_off, fun e l on he hl => State.patternStep_of_on on he hl,
    State.randomStep_of_off, fun x y l on shifted fed fed' hl => ?_, State.hostStep_of_off, fun now => ?_⟩
  · exact congrArg Host.Outcome.next (if_pos empty)
  · refine ⟨_, congrArg Host.Outcome.next (if_neg waits), ?_⟩
    rw [State.positionEvent_arrived]
    obtain ⟨o, ho⟩ : ∃ o, o = s.eventBegun p := ⟨_, rfl⟩
    have made : s.upToTwo p = o.stepOne.stepTwo (decide (s.cycleLen ≤ s.lp.cycleIndex + 1)) := by rw [ho]; rfl
    obtain ⟨⟨acc, travel, moving, stall, debt, sat, gen⟩, cycle, index, ⟨sl, pins, clk, sq, gd, vc, cs⟩, port, regs,
      pattern, route, pending, shadows, snapTravel, snapCount⟩ := s.upToTwo_spec p _ rfl
    generalize s.upToTwo p = u at *
    generalize hs : (decide (s.cycleLen ≤ s.lp.cycleIndex + 1) || u.lp.cycleIndex == 0) = start at *
    have frame := u.stepsFromThree_frame start
    have stands := u.stepsFromThree_stands start
    have watch := u.stepsFromThree_vc start
    have whole := u.stepsFromThree_eq start
    obtain ⟨lp', regs', pattern', -, -⟩ := u.upToSampler_kept start
    have unsampled := u.upToSampler_unsampled start
    have none : (u.stepsFromThree start).candidates = [] := by
      rw [whole]
      simp [State.stepSeven_candidates]
    have limit : u.silenceMs = s.silenceMs := by simp only [State.silenceMs, State.fieldOf, State.reg_congr regs]
    generalize u.stepsFromThree start = t at *
    obtain ⟨f1, f2, f3, f4, f5, f6, f7, f8, f9, f10, f11, -⟩ := frame
    have link : t.sl = { s.sl with
        place := .position, earlier := s.startableNow
        slots := t.sl.slots, routeQ := t.sl.routeQ, tagQ := t.sl.tagQ, noticeQ := t.sl.noticeQ } := by
      have kept := stands.link
      rwa [sl] at kept
    have silence : t.vc = { s.vc with silence := t.vc.silence } := by rw [watch, vc]
    rw [f6]
    refine ⟨acc, travel, by rw [f7, clk], moving, stall, debt, sat, gen, by rw [f11, pins], none, cycle,
      fun external use pending realigns => (index external use pending).2.2 realigns,
      fun external use pending => ⟨(index external use pending).1, (index external use pending).2.1⟩, by rw [f2, port],
      by rw [f3, regs], by rw [f4, pattern], by rw [f5, route], by rw [f1, pending], silence, by rw [f8, shadows],
      by rw [f9, snapTravel], by rw [f10, snapCount], by rw [link], by rw [link], by rw [link], by rw [link],
      by rw [link], stands.count.trans (by rw [sq]), stands.latches.1.trans (by rw [gd]),
      stands.latches.2.1.trans (by rw [gd]), stands.latches.2.2.trans (by rw [gd]),
      o, u, u.upToSlots, u.upToBrackets, u.upToSampler start, u.upToSix start, start, ho, made, hs.symm, rfl, rfl, rfl,
      rfl, rfl, lp', regs'.trans regs, pattern'.trans pattern, unsampled.sample.trans (by rw [cs]),
      unsampled.audit.trans (by rw [cs]), unsampled.now.trans (by rw [cs]), ?_, whole⟩
    rw [watch, limit, vc]
  · rw [State.stepThree_of_pending pending, if_neg (fun open' => ?_)]
    · rfl
    · obtain ⟨intake, runs⟩ := State.intakeOpen_iff.mp open'
      rcases closed with closed | closed | closed
      · exact absurd intake (by simp [closed])
      · rcases runs with runs | runs <;> exact absurd (runs.symm.trans closed) (by decide)
      · rcases runs with runs | runs <;> exact absurd (runs.symm.trans closed) (by decide)
  · rw [State.stepThree_of_pending pending, if_pos (State.intakeOpen_iff.mpr ⟨intake, runs⟩),
      if_neg (by omega : ¬ s.cs.ring.length < 32), State.raiseInEvent_eq]
    have masked : (s.senseTaken.bump .sensorOverrun).flagOf .rcFaultMask 2 = s.flagOf .rcFaultMask 2 := rfl
    have state : (s.senseTaken.bump .sensorOverrun).rc = s.rc := rfl
    have noted : (s.senseTaken.bump .sensorOverrun).noted .blindItem = { s.rc with
        flags := s.rc.flags ||| 4#32
        deferred := if s.flagOf .rcFaultMask 2 = true ∧ s.rc.state = .running then s.rc.deferred ++ [.blindItem]
          else s.rc.deferred
        faultCauses := if s.flagOf .rcFaultMask 2 = true ∧ s.rc.state = .faulted then s.rc.faultCauses ||| 4#32
          else s.rc.faultCauses } := by
      have draining : s.rc.state ≠ .draining := by rcases runs with runs | runs <;> rw [runs] <;> decide
      have shift : 1#32 <<< Event.num .blindItem = 4#32 := by decide
      simp only [State.noted, state, shift, draining, or_false]
      rfl
    rw [noted]
    rfl
  · exact State.stepThree_of_room pending (State.intakeOpen_iff.mpr ⟨intake, runs⟩) room ring before after due marked
      hx window decided hm
  · exact State.randomStep_of_on on (lfsr_of_bits (fun n pos low => (shifted n pos low).1) fed)
      (lfsr_of_bits (fun n pos low => (shifted n pos low).2) fed') hl
  · exact if_pos now

end Sys2Proof.Machine
end

section
/-! SUPPORT. Verdict records (sections 5.8 and 5.9): what a record changes, class by class; a packet is its records one
after another. -/

namespace Sys2Proof.Machine

/-! ### The log record of a Late record (R121) -/

theorem lateRecord_fields (s : State) (id : Ident) (c : Disposition) (detail : Byte) (ooo conflict : Bool)
    (r : LogRecord)
    (hr : r = s.lateRecord id c detail ooo conflict) :
    field r.word0 0 2 = c.code ∧ field r.word0 2 3 = 6 ∧ field r.word0 5 6 = 0 ∧ bit r.word0 11 = ooo ∧
    bit r.word0 12 = conflict ∧ bit r.word0 13 = true ∧ field r.word0 14 2 = 0 ∧
    field r.word0 16 4 = id.epoch.toNat ∧ field r.word0 20 12 = 0 ∧ field r.word1 0 24 = id.itemId.toNat ∧
    field r.word1 24 8 = detail.toNat ∧ field r.word2 0 16 = s.lp.travel.toNat % 65536 ∧
    field r.word2 16 8 = s.lp.cycleNumber.toNat % 256 ∧ field r.word2 24 8 = 0 := by
  have all := logWords_fields
    { outcome := c, source := .lateVerdict, cls := 0, uncaptured := false, item := false, audit := false
      outOfOrder := ooo, conflict := conflict, ident := some id, mask := 0#4, detail := detail
      travel := s.lp.travel, cycleLow := s.lp.cycleNumber.extractLsb' 0 8, lane := 0#8 } (by decide : 0 < 8)
  rw [State.lateRecord] at hr
  rw [← hr] at all
  obtain ⟨⟨f1, f2, -, -, -, -, f7, f8, f9⟩, ⟨f10, f11, -, -⟩, f14, f15, f16, f17, f18⟩ := all
  have code := c.code_lt
  refine ⟨f1, f2, ?_, f7, f8, f9, f10, f11, ?_, f14, f15, f16, ?_, f18⟩
  · rw [hr]
    have epoch := id.epoch.isLt
    simp (disch := omega) [logWords, field_or, field_place, field_place_above, field_place_below,
      field_flagAt_outside]
    decide
  · rw [hr]
    have epoch := id.epoch.isLt
    simp (disch := omega) [logWords, field_or, field_place, field_place_below,
      field_flagAt_outside]
    decide
  · rw [f17]
    simp

/-! ### Two states that stand beside each other but for channel, link and counters -/

/-- The second state differs from the first in channel, link and counters alone, and each counter by a fixed amount. -/
structure State.Beside (d : Ctr → Word) (x y : State) : Prop where
  shape : y = { x with vc := y.vc, sl := y.sl, counters := y.counters }
  wf : tableWf zeroDefault x.counters = true ∧ tableWf zeroDefault y.counters = true
  counts : ∀ k, y.counter k = x.counter k + d k

section
variable {d : Ctr → Word} {x y : State}

theorem State.Beside.of_untouched (h : State.Beside d x y) {x' y' : State}
    (shape : y' = { x' with vc := y'.vc, sl := y'.sl, counters := y'.counters })
    (hx : x'.counters = x.counters) (hy : y'.counters = y.counters) : State.Beside d x' y' :=
  ⟨shape, by rw [hx, hy]; exact h.wf, fun k => by simpa [State.counter, hx, hy] using h.counts k⟩

theorem State.Beside.bump (h : State.Beside d x y) (c : Ctr) : State.Beside d (x.bump c) (y.bump c) := by
  obtain ⟨shape, ⟨wfx, wfy⟩, counts⟩ := h
  refine ⟨?_, ⟨State.bumpBy_counters_wf x c 1 wfx, State.bumpBy_counters_wf y c 1 wfy⟩, fun k => ?_⟩
  · generalize y.vc = a, y.sl = b, y.counters = e at shape
    rw [shape]
    rfl
  · unfold State.bump
    by_cases here : k.offset = c.offset
    · rw [State.counter_bumpBy_self x c k 1 wfx here, State.counter_bumpBy_self y c k 1 wfy here, counts,
        BitVec.add_assoc,
        BitVec.add_assoc, BitVec.add_comm (d k)]
    · rw [State.counter_bumpBy_other x c k 1 here, State.counter_bumpBy_other y c k 1 here, counts]

/-- A change that neither reads nor touches channel, link and counters. -/
def Bare (f : State → State) : Prop :=
  ∀ (x : State) (a : Channel) (b : Link) (e : Table),
    f { x with vc := a, sl := b, counters := e } = { f x with vc := a, sl := b, counters := e }

theorem State.Beside.bare {f : State → State} (hf : Bare f) (h : State.Beside d x y) :
    State.Beside d (f x) (f y) := by
  obtain ⟨shape, wf, counts⟩ := h
  have same : f x = { f x with vc := x.vc, sl := x.sl, counters := x.counters } := hf x x.vc x.sl x.counters
  have counters : (f x).counters = x.counters := by rw [same]
  have moved : f y = { f x with vc := y.vc, sl := y.sl, counters := y.counters } := by
    generalize y.vc = a, y.sl = b, y.counters = e at shape
    rw [shape, hf]
  have counters' : (f y).counters = y.counters := by rw [moved]
  refine ⟨?_, by rwa [counters, counters'], fun k => ?_⟩
  · generalize f y = z at *
    rw [moved]
  · rw [State.counter, State.counter, counters, counters']
    exact counts k

theorem Bare.raise (e : Event) : Bare (·.raise e) := fun _ _ _ _ => rfl

theorem Bare.ite {f g : State → State} {c : State → Prop} [∀ s, Decidable (c s)]
    (hc : ∀ (x : State) (a : Channel) (b : Link) (e : Table), c { x with vc := a, sl := b, counters := e } ↔ c x)
    (hf : Bare f) (hg : Bare g) : Bare fun s => if c s then f s else g s := fun x a b e => by
  dsimp only
  by_cases h : c x
  · rw [if_pos h, if_pos ((hc x a b e).mpr h), hf]
  · rw [if_neg h, if_neg fun h' => h ((hc x a b e).mp h'), hg]

theorem Bare.evalAlert : Bare State.evalAlert :=
  Bare.ite (c := fun s => s.gd.alert = true) (fun _ _ _ _ => Iff.rfl)
    (Bare.ite (c := fun s => s.gd.log.length < s.logAlertLevel) (fun _ _ _ _ => Iff.rfl) (fun _ _ _ _ => rfl)
      fun _ _ _ _ => rfl)
    (Bare.ite (c := fun s => s.logAlertLevel ≤ s.gd.log.length) (fun _ _ _ _ => Iff.rfl) (fun _ _ _ _ => rfl)
      fun _ _ _ _ => rfl)

theorem Bare.recordAppended (r : LogRecord) :
    Bare fun x => ({ x with gd := { x.gd with log := x.gd.log ++ [r] } } : State).evalAlert := fun x a b e =>
  Bare.evalAlert { x with gd := { x.gd with log := x.gd.log ++ [r] } } a b e

theorem State.Beside.raise (h : State.Beside d x y) (e : Event) : State.Beside d (x.raise e) (y.raise e) :=
  h.bare (Bare.raise e)

/-- What a record reads stands alike. -/
theorem State.Beside.reads (h : State.Beside d x y) : y.lg = x.lg ∧ y.gd = x.gd ∧ y.regs = x.regs ∧ y.lp = x.lp := by
  rw [h.shape]
  exact ⟨rfl, rfl, rfl, rfl⟩

theorem State.Beside.appendLog (h : State.Beside d x y) (r : LogRecord) :
    State.Beside d (x.appendLog r) (y.appendLog r) := by
  obtain ⟨-, gd, -, -⟩ := h.reads
  unfold State.appendLog
  rw [gd]
  split
  · have both := h.bare (Bare.recordAppended r)
    dsimp only at both
    rwa [gd] at both
  · exact h.bump .logLost

theorem State.Beside.classify (h : State.Beside d x y) (id : Ident) (c : Disposition) (detail : Byte) (ooo : Bool) :
    State.Beside d (x.classify id c detail ooo) (y.classify id c detail ooo) := by
  obtain ⟨lg, -, -, lp⟩ := h.reads
  unfold State.classify
  rw [lg]
  split
  · split
    · split
      · have stored : Bare fun x => ({ x with lg := { x.lg with entries := (updateFirst (Entry.named id)
            (fun e => { e with verdict := some { code := c, detail := detail, outOfOrder := ooo } }) x.lg.entries) } } :
            State) := fun _ _ _ _ => rfl
        exact (h.bare stored).bump .matched
      · unfold State.duplicate
        dsimp only
        split
        · exact h.bump .duplicate
        · exact ((h.bump .duplicate).bump .duplicateConflict).raise .verdictAnomaly
    · exact (h.bump .unsolicited).raise .verdictAnomaly
  · split
    · have late := ((h.bump .lateVerdicts).raise .lateVerdict).appendLog
      unfold State.lateVerdict State.lateRecord
      rw [lp]
      exact late _
    · exact (h.bump .unknownVerdicts).raise .unknownVerdict

theorem State.Beside.applyRecord (h : State.Beside d x y) (r : VerdictRecord) :
    State.Beside d (x.applyRecord r) (y.applyRecord r) := by
  obtain ⟨lg, -, regs, -⟩ := h.reads
  unfold State.applyRecord
  split
  · next c _ =>
    have ordered : y.ordered = x.ordered := by simp only [State.ordered, State.flagOf, State.reg_congr regs]
    have sequence : ∀ id, y.inSequence id = x.inSequence id := fun id => by
      simp only [State.inSequence, State.oldestAwaiting, lg]
    have anomaly := (h.bump .sequenceError).raise .verdictAnomaly
    unfold State.matchRecord
    rw [ordered, sequence]
    split
    · obtain ⟨-, -, regs', -⟩ := anomaly.reads
      have keep : ((y.bump .sequenceError).raise .verdictAnomaly).seqKeep =
          ((x.bump .sequenceError).raise .verdictAnomaly).seqKeep := by
        simp only [State.seqKeep, State.flagOf, State.reg_congr regs']
      dsimp only
      rw [keep]
      split
      · exact anomaly.classify _ c _ true
      · exact anomaly
    · exact h.classify _ c _ false
  · exact (h.bump .invalidRecord).raise .verdictAnomaly

end

/-! ### Packets -/

section
variable (s : State)

/-- A packet up to its records: the sequence check (R103). -/
theorem State.checkSequence_eq (n : Byte) : s.checkSequence n = { s with
    vc := { s.vc with lastSeq := n, seqValid := true, lastError := if s.seqGap n then 6 else s.vc.lastError }
    rc := { s.rc with flags := s.rc.flags ||| (if s.seqGap n then 0x800#32 else 0#32) }
    counters := ((if s.seqGap n then s.bump .sequenceGap else s).bump .packetsAccepted).counters } := by
  unfold State.checkSequence
  cases s.seqGap n
  · simp [State.bump, State.bumpBy, State.counter]
  · simp [State.bump, State.bumpBy, State.counter, State.raise, State.setLastError, Event.num]

theorem State.restartSilence_eq : s.restartSilence = { s with
    vc := { s.vc with
      silent := false, silence := if s.silenceMs ≠ 0 ∧ s.awaiting ≠ 0 then some 0 else none } } := by
  have runs : ({ s with vc := { s.vc with silent := false } } : State).silenceRuns = true ↔
      s.silenceMs ≠ 0 ∧ s.awaiting ≠ 0 := by
    simp only [State.silenceRuns, Bool.and_eq_true, bne_iff_ne, Bool.not_eq_true', and_true]
    exact Iff.rfl
  unfold State.restartSilence
  dsimp only
  by_cases h : s.silenceMs ≠ 0 ∧ s.awaiting ≠ 0
  · rw [if_pos h, if_pos (by exact runs.mpr h)]
  · rw [if_neg h, if_neg (by exact mt runs.mp h)]

end

theorem State.foldl_applyRecord_beside {d : Ctr → Word} (rs : List VerdictRecord) {x y : State}
    (h : State.Beside d x y) : State.Beside d (rs.foldl State.applyRecord x) (rs.foldl State.applyRecord y) := by
  induction rs generalizing x y with
  | nil => exact h
  | cons r rs ih => exact ih (h.applyRecord r)

theorem State.foldl_applyRecord_frame (rs : List VerdictRecord) (x : State) :
    (rs.foldl State.applyRecord x).vc = x.vc ∧ (rs.foldl State.applyRecord x).sl = x.sl ∧
      (rs.foldl State.applyRecord x).regs = x.regs := by
  induction rs generalizing x with
  | nil => exact ⟨rfl, rfl, rfl⟩
  | cons r rs ih =>
    obtain ⟨vc, sl, regs⟩ := ih (x.applyRecord r)
    exact ⟨by rw [List.foldl_cons, vc]; simp, by rw [List.foldl_cons, sl]; simp, by rw [List.foldl_cons, regs]; simp⟩

/-- One more record does what it would do as the next packet of its own, but for that packet's count and number
(R104). -/
theorem State.acceptPacket_append (s : State) (n : Byte) (rs : List VerdictRecord) (r : VerdictRecord)
    (wf : tableWf zeroDefault s.counters = true) (p : Place) (q : Startable) (u v : State)
    (hu : u = s.acceptPacket n (rs ++ [r])) (hv : v = ((s.acceptPacket n rs).placed p q).acceptPacket (n + 1#8) [r]) :
    u = { v with vc := { v.vc with lastSeq := n }, counters := u.counters, sl := s.sl } ∧
      ∀ k : Ctr, u.counter k = v.counter k - if k.offset = Ctr.packetsAccepted.offset then 1#32 else 0#32 := by
  have begin_wf : tableWf zeroDefault (s.checkSequence n).counters = true := by
    rw [State.checkSequence_eq]
    refine State.bumpBy_counters_wf _ _ 1 ?_
    split
    · exact State.bumpBy_counters_wf _ _ 1 wf
    · exact wf
  have alone : State.Beside (fun _ => 0#32) (s.checkSequence n) (s.checkSequence n) :=
    ⟨rfl, ⟨begin_wf, begin_wf⟩, fun k => (BitVec.add_zero _).symm⟩
  have wfX := (State.foldl_applyRecord_beside rs alone).wf.1
  obtain ⟨vcX, slX, -⟩ := State.foldl_applyRecord_frame rs (s.checkSequence n)
  have begun : (s.checkSequence n).vc.lastSeq = n ∧ (s.checkSequence n).vc.seqValid = true ∧
      (s.checkSequence n).sl = s.sl := by
    rw [State.checkSequence_eq]
    exact ⟨rfl, rfl, rfl⟩
  obtain ⟨last, valid, link⟩ := begun
  rw [← vcX] at last valid
  rw [State.acceptPacket, List.foldl_append, List.foldl_cons, List.foldl_nil, State.restartSilence_eq] at hu
  rw [State.acceptPacket, List.foldl_cons, List.foldl_nil, State.acceptPacket, State.restartSilence_eq,
    State.restartSilence_eq] at hv
  rw [link] at slX
  generalize rs.foldl State.applyRecord (s.checkSequence n) = x at *
  generalize hz : State.placed _ p q = z at hv
  generalize hy : z.checkSequence (n + 1#8) = y at hv
  rw [State.checkSequence_eq] at hy
  have noGap : z.seqGap (n + 1#8) = false := by
    rw [← hz]
    simp [State.seqGap, State.placed, last]
  have counters : z.counters = x.counters := by rw [← hz]; rfl
  rw [noGap] at hy
  have beside : State.Beside (fun k => if k.offset = Ctr.packetsAccepted.offset then 1#32 else 0#32) x y := by
    refine ⟨?_, ⟨wfX, ?_⟩, fun k => ?_⟩
    · rw [← hy, ← hz]
      simp [State.placed]
    · rw [← hy]
      exact State.bumpBy_counters_wf z _ 1 (counters ▸ wfX)
    · have same : y.counter k = (x.bump .packetsAccepted).counter k := by
        rw [← hy, ← hz]
        rfl
      rw [same]
      unfold State.bump
      by_cases here : k.offset = Ctr.packetsAccepted.offset
      · rw [State.counter_bumpBy_self x _ k 1 wfX here, if_pos here]
      · rw [State.counter_bumpBy_other x _ k 1 here, if_neg here, BitVec.add_zero]
  have after := beside.applyRecord r
  have vcy : y.vc = { x.vc with
      silent := false, silence := if x.silenceMs ≠ 0 ∧ x.awaiting ≠ 0 then some 0 else none
      lastSeq := n + 1#8, seqValid := true } := by
    rw [← hy, ← hz]
    simp [State.placed]
  obtain ⟨shape, -, counted⟩ := after
  have vcU : (x.applyRecord r).vc = x.vc := by simp
  have vcV : (y.applyRecord r).vc = y.vc := by simp
  have slU : (x.applyRecord r).sl = x.sl := by simp
  generalize x.applyRecord r = a at *
  generalize y.applyRecord r = b at *
  have same : u.counters = a.counters ∧ v.counters = b.counters := by rw [hu, hv]; exact ⟨rfl, rfl⟩
  obtain ⟨cu, cv⟩ := same
  refine ⟨?_, fun k => ?_⟩
  · have link' : u.sl = s.sl := by rw [hu]; exact slU.trans slX
    have silence : (if b.silenceMs ≠ 0 ∧ b.awaiting ≠ 0 then some 0 else none : Option Nat) =
        if a.silenceMs ≠ 0 ∧ a.awaiting ≠ 0 then some 0 else none := by
      rw [shape]
      rfl
    generalize b.vc = vb, b.sl = lb, b.counters = cb at *
    have full : x.vc = { x.vc with lastSeq := n, seqValid := true } := by rw [← last, ← valid]
    have linkA : a.sl = s.sl := slU.trans slX
    rw [vcU] at hu
    generalize hq : (if a.silenceMs ≠ 0 ∧ a.awaiting ≠ 0 then some 0 else none : Option Nat) = q' at *
    rw [silence] at hv
    rw [hv, cu, shape, vcV, vcy, hu, ← linkA]
    generalize x.vc = c at *
    rw [full]
  · rw [State.counter, State.counter, cu, cv]
    exact BitVec.eq_sub_iff_add_eq.mpr (counted k).symm

/-! ### What one record changes -/

/-- The second state is the first after a record: entries, log, alert, flags and counters alone have changed, and no
flag is taken back. -/
def State.Recorded (s t : State) : Prop :=
  ∃ (l : List Entry) (g : List LogRecord) (b : Bool) (w : Word) (c : Table), t = { s with
    lg := { s.lg with entries := l }, gd := { s.gd with log := g, alert := b }
    rc := { s.rc with flags := s.rc.flags ||| w }, counters := c }

section
variable {s t u : State}

theorem State.Recorded.refl (s : State) : s.Recorded s :=
  ⟨s.lg.entries, s.gd.log, s.gd.alert, 0#32, s.counters, by simp⟩

theorem State.Recorded.trans (h : s.Recorded t) (h' : t.Recorded u) : s.Recorded u := by
  obtain ⟨l, g, b, w, c, rfl⟩ := h
  obtain ⟨l', g', b', w', c', rfl⟩ := h'
  exact ⟨l', g', b', w ||| w', c', by simp [BitVec.or_assoc]⟩

theorem State.Recorded.bump (h : s.Recorded t) (k : Ctr) : s.Recorded (t.bump k) :=
  h.trans ⟨t.lg.entries, t.gd.log, t.gd.alert, 0#32, (t.bump k).counters, by simp [State.bump, State.bumpBy]⟩

theorem State.Recorded.raise (h : s.Recorded t) (e : Event) : s.Recorded (t.raise e) :=
  h.trans ⟨t.lg.entries, t.gd.log, t.gd.alert, 1#32 <<< e.num, t.counters, rfl⟩

theorem State.Recorded.appendLog (h : s.Recorded t) (r : LogRecord) : s.Recorded (t.appendLog r) := by
  have alert : ∀ x : State, x.Recorded x.evalAlert := fun x => by
    unfold State.evalAlert
    split
    · split
      · exact ⟨x.lg.entries, x.gd.log, false, 0#32, x.counters, by simp⟩
      · exact .refl x
    · split
      · exact ⟨x.lg.entries, x.gd.log, true, _, x.counters, rfl⟩
      · exact .refl x
  unfold State.appendLog
  split
  · have appended : t.Recorded { t with gd := { t.gd with log := t.gd.log ++ [r] } } :=
      ⟨t.lg.entries, t.gd.log ++ [r], t.gd.alert, 0#32, t.counters, by simp⟩
    exact (h.trans appended).trans (alert _)
  · exact h.bump .logLost

theorem State.Recorded.classify (h : s.Recorded t) (id : Ident) (c : Disposition) (detail : Byte) (ooo : Bool) :
    s.Recorded (t.classify id c detail ooo) := by
  unfold State.classify
  split
  · split
    · split
      · refine State.Recorded.bump (h.trans ?_) .matched
        exact ⟨_, t.gd.log, t.gd.alert, 0#32, t.counters, by rw [BitVec.or_zero]⟩
      · unfold State.duplicate
        dsimp only
        split
        · exact h.bump .duplicate
        · exact ((h.bump .duplicate).bump .duplicateConflict).raise .verdictAnomaly
    · exact (h.bump .unsolicited).raise .verdictAnomaly
  · split
    · exact ((h.bump .lateVerdicts).raise .lateVerdict).appendLog _
    · exact (h.bump .unknownVerdicts).raise .unknownVerdict

/-- A record with a valid code out of sequence: it is counted (R88). -/
def State.misplaced (s : State) : State := (s.bump .sequenceError).raise .verdictAnomaly

theorem State.matchRecord_of_plain {id : Ident} (h : ¬ (s.ordered = true ∧ s.inSequence id = false)) (c : Disposition)
    (detail : Byte) : s.matchRecord id c detail = s.classify id c detail false := if_neg h

theorem State.matchRecord_of_misplaced {id : Ident} (h : s.ordered = true ∧ s.inSequence id = false) (c : Disposition)
    (detail : Byte) : s.matchRecord id c detail =
      if s.seqKeep = true then s.misplaced.classify id c detail true else s.misplaced := if_pos h

theorem State.applyRecord_recorded (s : State) (r : VerdictRecord) : s.Recorded (s.applyRecord r) := by
  have misplaced : s.Recorded s.misplaced := ((State.Recorded.refl s).bump .sequenceError).raise .verdictAnomaly
  unfold State.applyRecord
  split
  · next c _ =>
    by_cases h : s.ordered = true ∧ s.inSequence { epoch := r.epoch, itemId := r.itemId } = false
    · rw [State.matchRecord_of_misplaced h]
      split
      · exact misplaced.classify _ _ _ _
      · exact misplaced
    · rw [State.matchRecord_of_plain h]
      exact (State.Recorded.refl s).classify _ _ _ _
  · exact ((State.Recorded.refl s).bump .invalidRecord).raise .verdictAnomaly

/-- The counters of records' classes (R82 to R88, R104). -/
def recordCounters : List Ctr :=
  [.invalidRecord, .sequenceError, .matched, .duplicate, .duplicateConflict, .unsolicited, .lateVerdicts, .logLost,
    .unknownVerdicts]

theorem State.applyRecord_counts (s : State) (r : VerdictRecord) {k : Ctr}
    (h : ∀ c ∈ recordCounters, k.offset ≠ c.offset) : s.counts (s.applyRecord r) k 0 := by
  have one : ∀ (x : State) (c : Ctr) (e : Event), c ∈ recordCounters → x.counts ((x.bump c).raise e) k 0 :=
    fun x c e hc => (State.counts.bump_other x c (h c hc)).then_eq rfl
  have classified : ∀ (x : State) id c detail ooo, x.counts (x.classify id c detail ooo) k 0 := by
    intro x id c detail ooo
    unfold State.classify
    split
    · split
      · split
        · exact (State.counts.of_eq (s := x) rfl).trans (State.counts.bump_other _ .matched (h _ (by decide)))
        · have first := State.counts.bump_other x .duplicate (h _ (by decide))
          unfold State.duplicate
          dsimp only
          split
          · exact first
          · exact first.trans (one _ .duplicateConflict _ (by decide))
      · exact one x .unsolicited _ (by decide)
    · split
      · exact (one x .lateVerdicts _ (by decide)).trans (State.appendLog_counts _ _ (h _ (by decide)))
      · exact one x .unknownVerdicts _ (by decide)
  unfold State.applyRecord
  split
  · next c _ =>
    by_cases h : s.ordered = true ∧ s.inSequence { epoch := r.epoch, itemId := r.itemId } = false
    · rw [State.matchRecord_of_misplaced h]
      split
      · exact (one s .sequenceError _ (by decide)).trans (classified _ _ _ _ _)
      · exact one s .sequenceError _ (by decide)
    · rw [State.matchRecord_of_plain h]
      exact classified _ _ _ _ _
  · exact one s .invalidRecord _ (by decide)

end

/-! ### The classes of a record (R82) -/

section
variable {z : State} {id : Ident} {pre post : List Entry} {e : Entry} (c : Disposition) (detail : Byte) (ooo : Bool)

/-- The ledger's first entry of an identity is the one a record names (R82). -/
theorem Entry.find_named {l : List Entry} (entries : l = pre ++ e :: post) (before : ∀ x ∈ pre, x.ident ≠ some id)
    (here : e.ident = some id) : l.find? (Entry.named id) = some e := by
  rw [entries]
  exact find_of_first (fun y hy => by simpa [Entry.named] using before y hy) (by simp [Entry.named, here])

theorem State.classify_of_awaiting (found : z.lg.entries.find? (Entry.named id) = some e) (expects : e.expects = true)
    (open' : e.verdict = none) :
    z.classify id c detail ooo = z.storeVerdict id { code := c, detail := detail, outOfOrder := ooo } := by
  simp only [State.classify, found, expects, open', if_true]

theorem State.classify_of_answered {v : Verdict} (found : z.lg.entries.find? (Entry.named id) = some e)
    (expects : e.expects = true) (answered : e.verdict = some v) :
    z.classify id c detail ooo = z.duplicate v.code c := by
  simp only [State.classify, found, expects, answered, if_true]

theorem State.classify_of_unasked (found : z.lg.entries.find? (Entry.named id) = some e) (unasked : e.expects = false) :
    z.classify id c detail ooo = (z.bump .unsolicited).raise .verdictAnomaly := by
  simp only [State.classify, found, unasked, Bool.false_eq_true, if_false]

theorem State.classify_of_late {w : WindowRecord} (absent : z.lg.entries.find? (Entry.named id) = none)
    (window : z.lg.window.find? (fun r => r.ident == id) = some w) :
    z.classify id c detail ooo = z.lateVerdict id w.outcome c detail ooo := by
  simp only [State.classify, absent, window]

theorem State.classify_of_unknown (absent : z.lg.entries.find? (Entry.named id) = none)
    (window : z.lg.window.find? (fun r => r.ident == id) = none) :
    z.classify id c detail ooo = (z.bump .unknownVerdicts).raise .unknownVerdict := by
  simp only [State.classify, absent, window]

theorem State.storeVerdict_eq (entries : z.lg.entries = pre ++ e :: post) (before : ∀ x ∈ pre, x.ident ≠ some id)
    (here : e.ident = some id) (v : Verdict) : z.storeVerdict id v =
      ({ z with lg := { z.lg with entries :=
        pre ++ { e with verdict := some v } :: post } } : State).bump .matched := by
  have stored : updateFirst (Entry.named id) (fun e => { e with verdict := some v }) z.lg.entries =
      pre ++ { e with verdict := some v } :: post := by
    rw [entries]
    exact updateFirst_of_first (fun y hy => by simpa [Entry.named] using before y hy) (by simp [Entry.named, here])
  rw [State.storeVerdict, stored]

end

theorem State.counts.bump_any (s : State) (c k : Ctr) :
    s.counts (s.bump c) k (if k.offset = c.offset then 1 else 0) := by
  split
  · next here => exact fun wf => ⟨State.bumpBy_counters_wf s c 1 wf, State.counter_bumpBy_self s c k 1 wf here⟩
  · next other => exact State.counts.bump_other s c other

theorem State.checkSequence_counts (s : State) (n : Byte) (k : Ctr) : s.counts (s.checkSequence n) k
    ((if s.seqGap n = true ∧ k.offset = Ctr.sequenceGap.offset then 1 else 0) +
      if k.offset = Ctr.packetsAccepted.offset then 1 else 0) := by
  have first : s.counts (if s.seqGap n = true then s.bump .sequenceGap else s) k
      (if s.seqGap n = true ∧ k.offset = Ctr.sequenceGap.offset then 1 else 0) := by
    by_cases gap : s.seqGap n = true
    · simpa [gap] using State.counts.bump_any s .sequenceGap k
    · simpa [gap] using State.counts.of_eq (s := s) (k := k) rfl
  rw [State.checkSequence_eq]
  exact (first.trans (State.counts.bump_any _ .packetsAccepted k)).then_eq rfl

theorem bit_raised (s : State) (e : Event) : bit (s.raise e).rc.flags e.num = true := by
  have own : bit (1#32 <<< e.num) e.num = true := by cases e <;> rfl
  exact (bit_or _ _ _).trans (by rw [own, Bool.or_true])

/-- A cause that is counted and told as an anomaly, and leaves the ledger and the log. -/
theorem State.anomaly_spec (z : State) (k : Ctr) {m : State} (h : m = (z.bump k).raise .verdictAnomaly) :
    m.lg = z.lg ∧ m.gd = z.gd ∧ bit m.rc.flags 10 = true ∧ z.counts m k 1 := by
  subst h
  exact ⟨rfl, rfl, bit_raised _ .verdictAnomaly, (State.counts.bumpBy z k 1).then_eq rfl⟩

section
variable {z : State} {id : Ident} {pre post : List Entry} {e : Entry} {c : Disposition} {detail : Byte} {ooo : Bool}
variable {m : State} (classified : m = z.classify id c detail ooo)
include classified

/-- A first record for an entry that awaits it (R83). -/
theorem State.matched_spec (entries : z.lg.entries = pre ++ e :: post) (before : ∀ x ∈ pre, x.ident ≠ some id)
    (here : e.ident = some id) (expects : e.expects = true) (open' : e.verdict = none) :
    m.lg.entries = pre ++ { e with verdict := some { code := c, detail := detail, outOfOrder := ooo } } :: post ∧
      m.gd = z.gd ∧ z.counts m .matched 1 := by
  rw [State.classify_of_awaiting c detail ooo (Entry.find_named entries before here) expects open',
    State.storeVerdict_eq entries before here] at classified
  subst classified
  exact ⟨rfl, rfl, State.counts.bumpBy _ .matched 1⟩

/-- A further record for an answered entry (R84). -/
theorem State.duplicate_spec {v : Verdict} (found : z.lg.entries.find? (Entry.named id) = some e)
    (expects : e.expects = true) (answered : e.verdict = some v) : m.lg = z.lg ∧ m.gd = z.gd ∧
      z.counts m .duplicate 1 ∧ z.counts m .duplicateConflict (if v.code = c then 0 else 1) ∧
      (v.code ≠ c → bit m.rc.flags 10 = true) := by
  rw [State.classify_of_answered c detail ooo found expects answered, State.duplicate] at classified
  have first := State.counts.bump_any z .duplicate
  have second := State.counts.bump_any (z.bump .duplicate) .duplicateConflict
  by_cases agrees : v.code = c
  · rw [if_pos agrees] at classified
    subst classified
    rw [if_pos agrees]
    exact ⟨rfl, rfl, first .duplicate, first .duplicateConflict, fun differs => absurd agrees differs⟩
  · rw [if_neg agrees] at classified
    obtain ⟨lg, gd, told, _⟩ := State.anomaly_spec _ _ classified
    subst classified
    rw [if_neg agrees]
    exact ⟨lg, gd, ((first .duplicate).trans (second .duplicate)).then_eq rfl,
      ((first .duplicateConflict).trans (second .duplicateConflict)).then_eq rfl, fun _ => told⟩

/-- A record of an identity that left no entry but stands in the retired window (R86). -/
theorem State.late_spec {w : WindowRecord} (absent : z.lg.entries.find? (Entry.named id) = none)
    (window : z.lg.window.find? (fun r => r.ident == id) = some w) : m.lg = z.lg ∧ bit m.rc.flags 8 = true ∧
      z.counts m .lateVerdicts 1 ∧ m.gd.log = if z.gd.log.length < 128 then
        z.gd.log ++ [z.lateRecord id c detail ooo (w.outcome ≠ .none && w.outcome ≠ c)] else z.gd.log := by
  rw [State.classify_of_late c detail ooo absent window, State.lateVerdict, lateConflict] at classified
  have raised := bit_raised (z.bump .lateVerdicts) .lateVerdict
  have counted : z.counts ((z.bump .lateVerdicts).raise .lateVerdict) .lateVerdicts 1 :=
    (State.counts.bumpBy z .lateVerdicts 1).then_eq rfl
  have gd : ((z.bump .lateVerdicts).raise .lateVerdict).gd = z.gd := rfl
  have lg : ((z.bump .lateVerdicts).raise .lateVerdict).lg = z.lg := rfl
  generalize (z.bump .lateVerdicts).raise .lateVerdict = x at *
  obtain ⟨l, g, b, f, c', appended⟩ := (State.Recorded.refl x).appendLog
    (z.lateRecord id c detail ooo (w.outcome ≠ .none && w.outcome ≠ c))
  subst classified
  refine ⟨by simp [lg], ?_, counted.trans (State.appendLog_counts _ _ (by decide)), ?_⟩
  · refine (congrArg (fun x : State => bit x.rc.flags 8) appended).trans ?_
    exact (bit_or _ _ _).trans (by rw [show bit _ 8 = true from raised, Bool.true_or])
  · rw [State.appendLog_gd, gd]

end

theorem verdictOf_eq_none {code : BitVec 4} (h : code = 0#4 ∨ 3 < code.toNat) : verdictOf code = none := by
  have pass : code ≠ 1#4 := by rintro rfl; exact absurd h (by decide)
  have reject : code ≠ 2#4 := by rintro rfl; exact absurd h (by decide)
  have divert : code ≠ 3#4 := by rintro rfl; exact absurd h (by decide)
  simp [verdictOf, pass, reject, divert]

theorem verdictOf_eq_some {code : BitVec 4} {c : Disposition}
    (h : code = 1#4 ∧ c = .pass ∨ code = 2#4 ∧ c = .reject ∨ code = 3#4 ∧ c = .divert) : verdictOf code = some c := by
  rcases h with ⟨rfl, rfl⟩ | ⟨rfl, rfl⟩ | ⟨rfl, rfl⟩ <;> rfl

/-- A record in or out of sequence, as its test is written (R88). -/
theorem State.plain_iff (s : State) (id : Ident) :
    (!s.ordered || (s.lg.entries.find? fun x => x.expects && x.verdict.isNone).map Entry.ident == some (some id)) =
      !(s.ordered && !s.inSequence id) := by
  have oldest : s.oldestAwaiting = s.lg.entries.find? fun x => x.expects && x.verdict.isNone := rfl
  have named : s.inSequence id =
      ((s.lg.entries.find? fun x => x.expects && x.verdict.isNone).map Entry.ident == some (some id)) := by
    unfold State.inSequence
    rw [oldest]
    cases s.lg.entries.find? fun x => x.expects && x.verdict.isNone with
    | none => rfl
    | some e => simp [Entry.named]
  rw [named]
  cases s.ordered <;> simp

/-- The packet's state in which the class of a record is decided: the packet counted, and the record if out of
sequence. -/
def State.judgedIn (s : State) (n : Byte) (plain : Bool) : State :=
  if plain then s.checkSequence n else (s.checkSequence n).misplaced

theorem State.judgedIn_spec (s : State) (n : Byte) (plain : Bool) :
    (s.judgedIn n plain).lg = s.lg ∧ (s.judgedIn n plain).gd = s.gd ∧ (s.judgedIn n plain).lp = s.lp ∧
    (∀ k : Ctr, (∀ c ∈ [Ctr.packetsAccepted, .sequenceGap, .sequenceError], k.offset ≠ c.offset) →
      s.counts (s.judgedIn n plain) k 0) := by
  have kept : (s.checkSequence n).lg = s.lg ∧ (s.checkSequence n).gd = s.gd ∧ (s.checkSequence n).lp = s.lp := by simp
  refine ⟨?_, ?_, ?_, fun k other => ?_⟩
  · cases plain <;> exact kept.1
  · cases plain <;> exact kept.2.1
  · cases plain <;> exact kept.2.2
  · have begun := s.checkSequence_counts n k
    rw [if_neg (fun h => other _ (by simp) h.2), if_neg (other _ (by simp))] at begun
    cases plain
    · exact begun.trans ((State.counts.bump_other (s.checkSequence n) .sequenceError (other _ (by simp))).then_eq rfl)
    · exact begun

/-- A record with a valid code: its class is decided as above, unless it is dropped out of sequence (R88). -/
theorem State.applyRecord_of_code {s : State} {n : Byte} {r : VerdictRecord} {id : Ident} {c : Disposition}
    {plain : Bool}
    (hid : id = { epoch := r.epoch, itemId := r.itemId }) (code : verdictOf r.code = some c)
    (hp : plain = !(s.ordered && !s.inSequence id)) : (s.checkSequence n).applyRecord r =
      if plain = true ∨ s.seqKeep = true then (s.judgedIn n plain).classify id c r.detail (!plain)
      else s.judgedIn n plain := by
  have frame : (s.checkSequence n).regs = s.regs ∧ (s.checkSequence n).lg = s.lg := by simp
  have ordered : (s.checkSequence n).ordered = s.ordered := by
    simp only [State.ordered, State.flagOf, State.reg_congr frame.1]
  have keep : (s.checkSequence n).seqKeep = s.seqKeep := by
    simp only [State.seqKeep, State.flagOf, State.reg_congr frame.1]
  have sequence : (s.checkSequence n).inSequence id = s.inSequence id := by
    simp only [State.inSequence, State.oldestAwaiting, frame.2]
  have step : (s.checkSequence n).applyRecord r = (s.checkSequence n).matchRecord id c r.detail := by
    simp only [State.applyRecord, code, ← hid]
  rw [step]
  cases plain with
  | true =>
    rw [State.matchRecord_of_plain (by
      rw [ordered, sequence]
      rintro ⟨h, h'⟩
      simp [h, h'] at hp), if_pos (.inl rfl)]
    rfl
  | false =>
    have late : s.ordered = true ∧ s.inSequence id = false := by simpa using hp
    rw [State.matchRecord_of_misplaced (by rwa [ordered, sequence]), keep]
    by_cases kept : s.seqKeep = true
    · rw [if_pos kept, if_pos (.inr kept)]
      rfl
    · rw [if_neg kept, if_neg (by simpa using kept)]
      rfl

theorem State.applyRecord_of_invalid (s : State) {r : VerdictRecord} (h : r.code = 0#4 ∨ 3 < r.code.toNat) :
    s.applyRecord r = (s.bump .invalidRecord).raise .verdictAnomaly := by
  simp only [State.applyRecord, verdictOf_eq_none h]

theorem exec_packetAccept {rs : List VerdictRecord} (h : recordCountOk rs = true) (s : State) {n : Byte} :
    exec (.packetAccept n rs) s = .next ((s.arrive .accept).acceptPacket n rs) := if_pos h

/-- A packet of one record: the sequence check, the record, and the watchdog. -/
theorem State.acceptPacket_single (a : State) (n : Byte) (r : VerdictRecord) {m : State}
    (hm : (a.checkSequence n).applyRecord r = m) : a.acceptPacket n [r] = { a with
      lg := { a.lg with entries := m.lg.entries }
      vc := { a.vc with
        lastSeq := n, seqValid := true, silent := false, lastError := if a.seqGap n then 6 else a.vc.lastError
        silence := if a.silenceMs ≠ 0 ∧ m.awaiting ≠ 0 then some 0 else none }
      gd := { a.gd with log := m.gd.log, alert := m.gd.alert }
      rc := { a.rc with flags := m.rc.flags }, counters := m.counters } ∧
    (∃ x, a.acceptPacket n [r] = { m with vc := x }) ∧ (a.seqGap n = true → bit m.rc.flags 11 = true) := by
  have packet : a.acceptPacket n [r] = m.restartSilence := hm ▸ rfl
  obtain ⟨l, g, b, w, c, shape⟩ := hm ▸ State.applyRecord_recorded (a.checkSequence n) r
  have regs : m.regs = a.regs := by rw [shape]; simp
  rw [packet, State.restartSilence_eq, State.silenceMs_of_regs regs]
  have told : m.rc.flags = (a.checkSequence n).rc.flags ||| w := congrArg (fun x : State => x.rc.flags) shape
  have begun := congrArg (fun x : State => x.rc.flags) (a.checkSequence_eq n)
  rw [State.checkSequence_eq] at shape
  generalize (if a.silenceMs ≠ 0 ∧ m.awaiting ≠ 0 then some 0 else none : Option Nat) = watch
  refine ⟨by rw [shape], ⟨_, rfl⟩, fun gap => ?_⟩
  have own : bit 0x800#32 11 = true := by decide
  rw [told, begun, bit_or]
  dsimp only
  rw [bit_or, if_pos gap, own, Bool.or_true, Bool.true_or]

/-- The class of a packet's one record, with its counter (R82 to R88, R104). -/
theorem State.acceptPacket_classes {a m : State} {n : Byte} {r : VerdictRecord} {id : Ident} {c : Disposition}
    (pre post : List Entry) (e : Entry) (v : Verdict) (w : WindowRecord) {plain : Bool}
    (wf : tableWf zeroDefault a.counters = true) (hid : id = { epoch := r.epoch, itemId := r.itemId })
    (judged : plain = !(a.ordered && !a.inSequence id)) (hm : (a.checkSequence n).applyRecord r = m) :
    m.counter .packetsAccepted = a.counter .packetsAccepted + 1#32 ∧
    m.counter .sequenceGap = a.counter .sequenceGap + (if a.seqGap n then 1#32 else 0#32) ∧
    (r.code = 0#4 ∨ 3 < r.code.toNat → m.lg = a.lg ∧ m.gd = a.gd ∧ bit m.rc.flags 10 = true ∧
      m.counter .invalidRecord = a.counter .invalidRecord + 1#32) ∧
    (r.code = 1#4 ∧ c = .pass ∨ r.code = 2#4 ∧ c = .reject ∨ r.code = 3#4 ∧ c = .divert →
      (plain = false → a.seqKeep = false → m.lg = a.lg ∧ m.gd = a.gd ∧ bit m.rc.flags 10 = true ∧
        m.counter .sequenceError = a.counter .sequenceError + 1#32) ∧
      (plain = true ∨ a.seqKeep = true →
        (a.lg.entries = pre ++ e :: post → (∀ x ∈ pre, x.ident ≠ some id) → e.ident = some id →
          (e.expects = true → e.verdict = none →
            m.lg.entries =
              pre ++ { e with verdict := some { code := c, detail := r.detail, outOfOrder := !plain } } :: post ∧
            m.gd = a.gd ∧ m.counter .matched = a.counter .matched + 1#32) ∧
          (e.expects = true → e.verdict = some v → m.lg = a.lg ∧ m.gd = a.gd ∧
            m.counter .duplicate = a.counter .duplicate + 1#32 ∧
            m.counter .duplicateConflict = a.counter .duplicateConflict + (if v.code = c then 0#32 else 1#32) ∧
            (v.code ≠ c → bit m.rc.flags 10 = true)) ∧
          (e.expects = false → m.lg = a.lg ∧ m.gd = a.gd ∧ bit m.rc.flags 10 = true ∧
            m.counter .unsolicited = a.counter .unsolicited + 1#32)) ∧
        ((∀ x ∈ a.lg.entries, x.ident ≠ some id) →
          (a.lg.window.find? (fun x => x.ident == id) = some w → m.lg = a.lg ∧ bit m.rc.flags 8 = true ∧
            m.counter .lateVerdicts = a.counter .lateVerdicts + 1#32 ∧
            m.gd.log = if a.gd.log.length < 128 then
              a.gd.log ++ [a.lateRecord id c r.detail (!plain) (w.outcome ≠ .none && w.outcome ≠ c)]
              else a.gd.log) ∧
          (a.lg.window.find? (fun x => x.ident == id) = none → m.lg = a.lg ∧ m.gd = a.gd ∧
            bit m.rc.flags 9 = true ∧ m.counter .unknownVerdicts = a.counter .unknownVerdicts + 1#32)))) := by
  obtain ⟨lgZ, gdZ, lpZ, countsZ⟩ := a.judgedIn_spec n plain
  have begun := a.checkSequence_counts n
  have decided := fun code => State.applyRecord_of_code (s := a) (n := n) (c := c) hid code judged
  have dropped := fun invalid => State.applyRecord_of_invalid (a.checkSequence n) (r := r) invalid
  have others := fun k => State.applyRecord_counts (a.checkSequence n) r (k := k)
  have record : (a.judgedIn n plain).lateRecord = a.lateRecord := by
    funext
    rw [State.lateRecord, State.lateRecord, lpZ]
  have missed : plain = false → a.judgedIn n plain = ((a.checkSequence n).bump .sequenceError).raise .verdictAnomaly :=
    fun h => by
      rw [h]
      rfl
  obtain ⟨lgQ, gdQ⟩ : (a.checkSequence n).lg = a.lg ∧ (a.checkSequence n).gd = a.gd := by simp
  rw [hm] at decided dropped others
  generalize a.checkSequence n = q at *
  generalize a.judgedIn n plain = z at *
  have single : ∀ {k : Ctr} {j : Nat}, a.counts m k j → m.counter k = a.counter k + BitVec.ofNat 32 j :=
    fun h => (h wf).2
  have plainly : ∀ {k : Ctr} {j : Nat},
      (∀ c ∈ [Ctr.packetsAccepted, .sequenceGap, .sequenceError], k.offset ≠ c.offset) → z.counts m k j → m.counter k = a.counter k + BitVec.ofNat 32 j := fun other h =>
    single (by simpa using (countsZ _ other).trans h)
  have freshly : ∀ {k : Ctr} {j : Nat}, (∀ c ∈ [Ctr.packetsAccepted, .sequenceGap], k.offset ≠ c.offset) →
      q.counts m k j → m.counter k = a.counter k + BitVec.ofNat 32 j := fun {k _} other h =>
    single (by simpa [other .packetsAccepted (by simp), other .sequenceGap (by simp)] using (begun k).trans h)
  refine ⟨?_, ?_, fun invalid => ?_, fun code => ?_⟩
  · have all := (begun .packetsAccepted).trans (others .packetsAccepted (by decide))
    rw [if_neg (fun h => absurd h.2 (by decide))] at all
    exact single all
  · have all := single ((begun .sequenceGap).trans (others .sequenceGap (by decide)))
    rw [all]
    cases a.seqGap n <;> rfl
  · obtain ⟨lg, gd, flag, count⟩ := State.anomaly_spec q .invalidRecord (dropped invalid)
    exact ⟨lg.trans lgQ, gd.trans gdQ, flag, freshly (by decide) count⟩
  · have step := decided (verdictOf_eq_some code)
    refine ⟨fun late drop => ?_, fun kept => ?_⟩
    · rw [if_neg (by simp [late, drop]), missed late] at step
      obtain ⟨lg, gd, flag, count⟩ := State.anomaly_spec q .sequenceError step
      exact ⟨lg.trans lgQ, gd.trans gdQ, flag, freshly (by decide) count⟩
    · rw [if_pos kept] at step
      refine ⟨fun entries before here => ?_, fun absent => ?_⟩
      · have entriesZ : z.lg.entries = pre ++ e :: post := by rw [lgZ, entries]
        have found := Entry.find_named entriesZ before here
        refine ⟨fun expects open' => ?_, fun expects answered => ?_, fun unasked => ?_⟩
        · obtain ⟨stored, gd, count⟩ := State.matched_spec step entriesZ before here expects open'
          exact ⟨stored, gd.trans gdZ, plainly (by decide) count⟩
        · obtain ⟨lg, gd, count, conflicts, flag⟩ := State.duplicate_spec step found expects answered
          refine ⟨lg.trans lgZ, gd.trans gdZ, plainly (by decide) count, ?_, flag⟩
          rw [plainly (by decide) conflicts]
          split <;> rfl
        · rw [State.classify_of_unasked c r.detail (!plain) found unasked] at step
          obtain ⟨lg, gd, flag, count⟩ := State.anomaly_spec z .unsolicited step
          exact ⟨lg.trans lgZ, gd.trans gdZ, flag, plainly (by decide) count⟩
      · have none : z.lg.entries.find? (Entry.named id) = none :=
          List.find?_eq_none.mpr fun x hx => by
            rw [lgZ] at hx
            simpa [Entry.named] using absent x hx
        refine ⟨fun window => ?_, fun window => ?_⟩
        · obtain ⟨lg, flag, count, log⟩ := State.late_spec step none (by rw [lgZ]; exact window)
          rw [gdZ, record] at log
          exact ⟨lg.trans lgZ, flag, plainly (by decide) count, log⟩
        · rw [State.classify_of_unknown c r.detail (!plain) none (by rw [lgZ]; exact window)] at step
          subst step
          exact ⟨lgZ, gdZ, bit_raised _ .unknownVerdict,
            plainly (by decide) ((State.counts.bumpBy z .unknownVerdicts 1).then_eq rfl)⟩

/-- Settles O46. -/
theorem recordsAreClassified : Obligations.RecordsAreClassified := by
  refine ⟨lateRecord_fields, ?_⟩
  intro s n r rs id c pre post e v w gap plain canonical hid hgap hplain
  have wf : tableWf zeroDefault s.counters = true := State.counters_canonical canonical
  refine ⟨fun h => ?_, fun least most => ?_, ?_⟩
  · refine if_neg ?_
    simp only [recordCountOk, Bool.and_eq_true, decide_eq_true_eq]
    omega
  · have short : recordCountOk rs = true := by simp [recordCountOk, least, most.le]
    have long : recordCountOk (rs ++ [r]) = true := by simpa [recordCountOk] using most
    have wf' : tableWf zeroDefault (s.arrive .accept).counters = true := by simpa using wf
    refine ⟨_, _, _, exec_packetAccept short s, exec_packetAccept rfl _, exec_packetAccept long s, ?_⟩
    rw [State.arrive_eq_placed ((s.arrive .accept).acceptPacket n rs)]
    exact State.acceptPacket_append (s.arrive .accept) n rs r wf' _ _ _ _ rfl rfl
  · refine ⟨_, exec_packetAccept rfl s, ?_⟩
    have arrived : (s.arrive .accept).lg = s.lg ∧ (s.arrive .accept).gd = s.gd ∧ (s.arrive .accept).regs = s.regs ∧
      (s.arrive .accept).vc = s.vc ∧ (s.arrive .accept).rc = s.rc ∧ (s.arrive .accept).lp = s.lp ∧
      (s.arrive .accept).counters = s.counters := by simp
    generalize s.arrive .accept = a at *
    obtain ⟨lg, gd, regs, vc, rc, lp, counters⟩ := arrived
    have gapped : a.seqGap n = gap := by rw [hgap, State.seqGap, vc]
    have judged : plain = !(a.ordered && !a.inSequence id) := by
      rw [← State.plain_iff, lg, hplain]
      simp only [State.ordered, State.flagOf, State.reg_congr regs]
    have keeps : a.seqKeep = s.seqKeep := by simp only [State.seqKeep, State.flagOf, State.reg_congr regs]
    have total : ∀ k, s.counter k = a.counter k := fun k => by rw [State.counter, State.counter, counters]
    have wfA : tableWf zeroDefault a.counters = true := counters ▸ wf
    have record : a.lateRecord = s.lateRecord := by
      funext
      rw [State.lateRecord, State.lateRecord, lp]
    obtain ⟨m, hm⟩ : ∃ m, (a.checkSequence n).applyRecord r = m := ⟨_, rfl⟩
    obtain ⟨shape, ⟨x, packet⟩, told⟩ := State.acceptPacket_single a n r hm
    obtain ⟨accepted, gaps, invalid, valid⟩ := State.acceptPacket_classes pre post e v w wfA hid judged hm
    rw [State.silenceMs_of_regs regs, gapped, lg, gd, vc, rc] at shape
    rw [gapped] at gaps told
    rw [packet] at shape ⊢
    simp only [lg, gd, keeps, ← total, record] at accepted gaps invalid valid
    exact ⟨shape, accepted, gaps, told, invalid, valid⟩

end Sys2Proof.Machine
end

section
/-! SUPPORT. The parser (sections 6.4 and 6.5), phase by phase, and the receiver (sections 6.2 and 6.3). -/

namespace Sys2Proof.Machine

/-! ### The records of a packet (R95) -/

theorem decodeRecords_cons (c1 c2 c3 c4 c5 : Byte) (rest : List Byte) :
    ∃ r, decodeRecords (c1 :: c2 :: c3 :: c4 :: c5 :: rest) = r :: decodeRecords rest ∧
      r.epoch.toNat = c1.toNat / 16 ∧ r.itemId.toNat =
        c1.toNat % 16 * 2 ^ 20 + c2.toNat * 2 ^ 12 + c3.toNat * 2 ^ 4 + c4.toNat / 16 ∧
      r.code.toNat = c4.toNat % 16 ∧ r.detail = c5 := by
  refine ⟨_, rfl, ?_, ?_, ?_, rfl⟩
  · simp only [BitVec.extractLsb'_toNat, Nat.shiftRight_eq_div_pow]
    omega
  · simp only [toNat_append_eq, BitVec.extractLsb'_toNat, Nat.shiftRight_eq_div_pow]
    omega
  · simp only [BitVec.extractLsb'_toNat, Nat.shiftRight_eq_div_pow]
    omega

theorem decodeRecords_short {l : List Byte} (h : l.length < 5) : decodeRecords l = [] := by
  match l, h with
  | [], _ => rfl
  | [_], _ => rfl
  | [_, _], _ => rfl
  | [_, _, _], _ => rfl
  | [_, _, _, _], _ => rfl

/-! ### The parser's operations -/

section
variable {s : State}

theorem State.evalFlow_of_off (sw : s.swFlow = false) (hw : s.hwFlow = false) : s.evalFlow = s := by
  have pause : s.evalPause = s := if_neg (by simp [sw])
  rw [State.evalFlow, pause]
  exact if_neg (by simp [hw])

/-- A packet discarded with its reason (R102). -/
theorem State.discardPacket_eq (s : State) (k : Nat) : s.discardPacket k = { s with
    vc := { s.vc with parser := Parser.cleared, lastError := k }
    counters := (s.bump .packetErrors).counters
    rc := { s.rc with flags := s.rc.flags ||| 0x800#32 } } := rfl

theorem State.gapWatched_iff : s.gapWatched = true ↔
    s.suspended = false ∧ s.vc.fifo = [] ∧ s.vc.parser.phase ≠ .hunting ∧ s.vc.rx.char = none := by
  simp [State.gapWatched, and_assoc]

/-- The head entry as the parser finds it, in a state in which it stands at the edge's place. -/
def State.headTaken (s : State) (rest : List FifoEntry) : State :=
  { s.arrive .parse with vc := { s.vc with fifo := rest } }

theorem exec_parseEntry_of_head {e : FifoEntry} {rest : List FifoEntry} (on : s.suspended = false)
    (sw : s.swFlow = false) (hw : s.hwFlow = false) (txn : s.port.txn = none) (fifo : s.vc.fifo = e :: rest) :
    exec .parseEntry s = .next ((s.headTaken rest).parse e) := by
  have arrived : (s.arrive .parse).vc = s.vc ∧ (s.arrive .parse).regs = s.regs ∧ (s.arrive .parse).port = s.port := by
    simp
  have begun :
    ({ s.arrive .parse with vc := { (s.arrive .parse).vc with fifo := rest } } : State) = s.headTaken rest := by
    rw [State.headTaken, arrived.1]
  obtain ⟨vc, regs, port⟩ := arrived
  have off : ∀ i, (s.arrive .parse).flagOf .vcCfg i = s.flagOf .vcCfg i := fun i => by
    simp only [State.flagOf, State.reg_congr regs]
  have on' : (s.arrive .parse).suspended = false := by
    rw [← on]
    simp only [State.suspended, State.rawMode, State.parserPaused, off]
  have ready : (s.arrive .parse).parserReady = true := by simp [State.parserReady, on', fifo]
  have take : (s.arrive .parse).parserTake = (s.headTaken rest).parse e := by
    rw [State.parserTake, if_neg (by simp [on']), vc, fifo]
    dsimp only
    rw [← vc, begun]
    have idle : (s.headTaken rest).dropRawElement = s.headTaken rest := by
      have none : (s.headTaken rest).port.txn = none := (congrArg Port.txn port).trans txn
      simp only [State.dropRawElement, none]
    rw [idle]
  have same : ((s.headTaken rest).parse e).regs = s.regs := by
    rw [← take]
    simp
  refine (congrArg Host.Outcome.next (if_pos ready)).trans ?_
  rw [take, State.evalFlow_of_off]
  · rw [← sw]
    simp only [State.swFlow, State.flagOf, State.reg_congr same]
  · rw [← hw]
    simp only [State.hwFlow, State.flagOf, State.reg_congr same]

/-! ### The head entry, phase by phase -/

section
variable {e : FifoEntry}

/-- The parser at the beginning of a packet of its own address, or of one to all (R96). -/
def Parser.begun (e : FifoEntry) : Parser :=
  { phase := .header, seqNo := none, count := 0, chars := [], sum := e.data, poisoned := e.error }

theorem State.hunt_of_own (marker : e.marker = true) (own : e.data = s.vcAddr ∨ e.data = 255#8) :
    s.hunt e = { s with vc := { s.vc with parser := Parser.begun e } } := by
  rw [State.hunt, if_pos marker, if_pos own]
  rfl

theorem State.hunt_of_foreign (marker : e.marker = true) (other : e.data ≠ s.vcAddr) (all : e.data ≠ 255#8) :
    s.hunt e = s.bump .foreignPackets := by
  rw [State.hunt, if_pos marker, if_neg (by tauto)]

theorem State.hunt_of_unmarked (marker : e.marker = false) : s.hunt e = s.bump .huntSkipped := if_neg (by simp [marker])

theorem State.parse_of_hunting (h : s.vc.parser.phase = .hunting) : s.parse e = s.hunt e := if_pos h

theorem State.parse_of_gap (h : s.vc.parser.phase ≠ .hunting) (gap : e.gap = true) :
    s.parse e = (s.discardPacket 2).hunt e := by
  rw [State.parse, if_neg h, if_pos gap]

theorem State.parse_of_marker (h : s.vc.parser.phase ≠ .hunting) (gap : e.gap = false) (marker : e.marker = true) :
    s.parse e = (s.discardPacket 1).hunt e := by
  rw [State.parse, if_neg h, if_neg (by simp [gap]), if_pos marker]

/-- The parser with one more character in its sum (R98, R101). -/
def State.summed (s : State) (e : FifoEntry) : Parser :=
  { s.vc.parser with sum := s.vc.parser.sum + e.data, poisoned := s.vc.parser.poisoned || e.error }

theorem State.parse_of_inside (h : s.vc.parser.phase ≠ .hunting) (gap : e.gap = false) (marker : e.marker = false) :
    s.parse e = s.collect e := by
  rw [State.parse, if_neg h, if_neg (by simp [gap]), if_neg (by simp [marker])]

theorem State.collect_of_header (h : s.vc.parser.phase = .header) : s.collect e = s.takeHeader (s.summed e) e.data := by
  simp only [State.collect, h, State.summed]

theorem State.collect_of_records (h : s.vc.parser.phase = .records) : s.collect e = { s with
    vc := { s.vc with parser := { s.summed e with
      chars := s.vc.parser.chars ++ [e.data]
      phase := if s.vc.parser.chars.length + 1 < 5 * s.vc.parser.count then .records else .check } } } := by
  have phase :
    (if 5 * s.vc.parser.count ≤ (s.vc.parser.chars ++ [e.data]).length then ParserPhase.check else .records) =
      if s.vc.parser.chars.length + 1 < 5 * s.vc.parser.count then .records else .check := by
    rw [List.length_append, List.length_singleton]
    by_cases short : s.vc.parser.chars.length + 1 < 5 * s.vc.parser.count
    · rw [if_pos short, if_neg (by omega)]
    · rw [if_neg short, if_pos (by omega)]
  simp only [State.collect, h, State.takeRecord, State.summed, phase]

theorem State.collect_of_check (h : s.vc.parser.phase = .check) : s.collect e = s.takeCheck (s.summed e) := by
  simp only [State.collect, h, State.summed]

end

end

/-! ### A packet does not look at the place of its row -/

theorem Steady.raise (e : Event) : Steady (·.raise e) := fun _ _ _ => rfl

theorem Steady.appendLog (r : LogRecord) : Steady (·.appendLog r) :=
  (Untimed.appendLog r).steady fun s => by simp

theorem Steady.duplicate (stored c : Disposition) : Steady (·.duplicate stored c) := fun s p q => by
  by_cases agrees : stored = c
  · simp only [State.duplicate, agrees, if_true]
    rfl
  · simp only [State.duplicate, agrees, if_false]
    rfl

theorem Steady.lateVerdict (id : Ident) (applied c : Disposition) (detail : Byte) (ooo : Bool) :
    Steady (·.lateVerdict id applied c detail ooo) := fun s p q =>
  Steady.appendLog (s.lateRecord id c detail ooo (lateConflict applied c))
    ((s.bump .lateVerdicts).raise .lateVerdict) p q

theorem Steady.classify (id : Ident) (c : Disposition) (detail : Byte) (ooo : Bool) :
    Steady (·.classify id c detail ooo) := fun s p q => by
  dsimp only
  cases found : s.lg.entries.find? (Entry.named id) with
  | some e =>
    cases expects : e.expects with
    | false =>
      rw [State.classify_of_unasked c detail ooo found expects,
        State.classify_of_unasked (z := s.placed p q) c detail ooo found expects]
      rfl
    | true =>
      cases answered : e.verdict with
      | none =>
        rw [State.classify_of_awaiting c detail ooo found expects answered,
          State.classify_of_awaiting (z := s.placed p q) c detail ooo found expects answered]
        rfl
      | some v =>
        rw [State.classify_of_answered c detail ooo found expects answered,
          State.classify_of_answered (z := s.placed p q) c detail ooo found expects answered]
        exact Steady.duplicate v.code c s p q
  | none =>
    cases window : s.lg.window.find? (fun r => r.ident == id) with
    | some w =>
      rw [State.classify_of_late c detail ooo found window,
        State.classify_of_late (z := s.placed p q) c detail ooo found window]
      exact Steady.lateVerdict id w.outcome c detail ooo s p q
    | none =>
      rw [State.classify_of_unknown c detail ooo found window,
        State.classify_of_unknown (z := s.placed p q) c detail ooo found window]
      rfl

theorem Steady.misplaced : Steady State.misplaced := fun _ _ _ => rfl

theorem Steady.applyRecord (r : VerdictRecord) : Steady (·.applyRecord r) := fun s p q => by
  dsimp only
  cases code : verdictOf r.code with
  | none =>
    simp only [State.applyRecord, code]
    rfl
  | some c =>
    simp only [State.applyRecord, code]
    by_cases late : s.ordered = true ∧ s.inSequence { epoch := r.epoch, itemId := r.itemId } = false
    · rw [State.matchRecord_of_misplaced late, State.matchRecord_of_misplaced (s := s.placed p q) late]
      by_cases kept : s.seqKeep = true
      · rw [if_pos kept, if_pos (by exact kept)]
        exact Steady.classify _ c r.detail true s.misplaced p q
      · rw [if_neg kept, if_neg (by exact kept)]
        rfl
    · rw [State.matchRecord_of_plain late, State.matchRecord_of_plain (s := s.placed p q) late]
      exact Steady.classify _ c r.detail false s p q

theorem Steady.acceptPacket (n : Byte) (rs : List VerdictRecord) : Steady (·.acceptPacket n rs) := fun s p q => by
  have begun : (s.placed p q).checkSequence n = (s.checkSequence n).placed p q := by
    have gap : (s.placed p q).seqGap n = s.seqGap n := rfl
    rw [State.checkSequence_eq, State.checkSequence_eq, gap]
    cases s.seqGap n <;> rfl
  have records := Steady.foldl Steady.applyRecord rs (s.checkSequence n) p q
  dsimp only [State.acceptPacket]
  rw [begun]
  dsimp only at records
  rw [records]
  rfl

/-- Settles O48. -/
theorem entriesAreParsed : Obligations.EntriesAreParsed := by
  refine ⟨fun l rest c1 c2 c3 c4 c5 => ⟨decodeRecords_short, fun h => ?_⟩, ?_⟩
  · rw [h]
    exact decodeRecords_cons c1 c2 c3 c4 c5 rest
  intro s e rest n drop hdrop
  have arrived : (s.arrive .parse).vc = s.vc ∧ (s.arrive .parse).regs = s.regs ∧
      (s.arrive .parse).rc = s.rc ∧ (s.arrive .parse).counters = s.counters := by simp
  obtain ⟨vc, regs, rc, counters⟩ := arrived
  have suspended : (s.arrive .parse).suspended = s.suspended := by
    simp only [State.suspended, State.rawMode, State.parserPaused, State.flagOf, State.reg_congr regs]
  have limit : (s.arrive .parse).gapLimit = s.gapLimit := by
    simp only [State.gapLimit, State.vcBitTime, State.fieldOf, State.reg_congr regs]
  have watched : (s.arrive .parse).gapWatched = s.gapWatched := by
    simp only [State.gapWatched, suspended, vc]
  have bumped : ∀ c, ((s.arrive .parse).bump c).counters = (s.bump c).counters := fun c => by
    simp only [State.bump, State.bumpBy, State.counter, counters]
  refine ⟨fun idle => ?_, fun on empty phase quiet none => ⟨?_, ?_⟩, fun busy => ⟨?_, ?_⟩, fun on sw hw txn fifo => ?_⟩
  · refine congrArg Host.Outcome.next (if_neg ?_)
    rw [State.parserReady, suspended, vc]
    rcases idle with idle | idle <;> simp [idle]
  · have watch : s.gapWatched = true := State.gapWatched_iff.mpr ⟨on, empty, phase, quiet⟩
    refine (congrArg Host.Outcome.next (if_pos (watched.trans watch))).trans ?_
    rw [State.truncate, State.discardPacket_eq, hdrop, hdrop, limit, vc, rc, none, ← empty]
    exact congrArg Host.Outcome.next (by rw [← bumped]; rfl)
  · have watch : s.gapWatched = true := State.gapWatched_iff.mpr ⟨on, empty, phase, quiet⟩
    rw [State.gapCheck, hdrop, State.discardPacket_eq, none, ← empty]
    simp only [watch, true_and]
  · have off : ¬ s.gapWatched = true := by
      rw [State.gapWatched_iff]
      rintro ⟨on, empty, phase, quiet⟩
      rcases busy with busy | busy | busy | busy
      · exact absurd (on.symm.trans busy) (by decide)
      · exact busy empty
      · exact phase busy
      · exact busy quiet
    exact congrArg Host.Outcome.next (if_neg (watched.symm ▸ off))
  · have off : ¬ s.gapWatched = true := by
      rw [State.gapWatched_iff]
      rintro ⟨on, empty, phase, quiet⟩
      rcases busy with busy | busy | busy | busy
      · exact absurd (on.symm.trans busy) (by decide)
      · exact busy empty
      · exact phase busy
      · exact busy quiet
    exact if_neg fun h => off h.1
  · have head := exec_parseEntry_of_head on sw hw txn fifo
    rw [head]
    have addr : (s.headTaken rest).vcAddr = s.vcAddr := by
      have same : (s.headTaken rest).regs = s.regs := regs
      simp only [State.vcAddr, State.reg_congr same]
    have parser : (s.headTaken rest).vc.parser = s.vc.parser := rfl
    have counted : ∀ c, (s.headTaken rest).bump c = { s.headTaken rest with counters := (s.bump c).counters } :=
      fun c => by
        rw [← bumped]
        rfl
    have dropped : ∀ k, (s.headTaken rest).discardPacket k = drop (s.arrive .parse) k := fun k => by
      rw [hdrop, State.discardPacket_eq, counted, ← rc]
      rfl
    have addr' : ∀ k, ((s.headTaken rest).discardPacket k).vcAddr = s.vcAddr := fun k => by
      have same : ((s.headTaken rest).discardPacket k).regs = s.regs := by
        rw [State.discardPacket_eq]
        exact regs
      simp only [State.vcAddr, State.reg_congr same]
    refine ⟨fun phase marker own => ?_, fun phase marker other all => ?_, fun phase marker => ?_,
      fun phase gap marker => ?_, fun phase gap marker own => ?_, fun gap marker => ⟨fun phase first => ?_,
      fun phase second least most => ?_, fun phase second bad => ?_, fun phase => ?_, fun phase poisoned => ?_,
      fun phase clean clean' sum => ?_, fun phase clean clean' sum second least most => ?_⟩⟩
    · rw [State.parse_of_hunting (by rwa [parser]), State.hunt_of_own marker (by rwa [addr])]
      rfl
    · rw [State.parse_of_hunting (by rwa [parser]), State.hunt_of_foreign marker (by rwa [addr]) all, counted]
      rfl
    · rw [State.parse_of_hunting (by rwa [parser]), State.hunt_of_unmarked marker, counted]
      rfl
    · rw [State.parse_of_gap (by rwa [parser]) gap, State.hunt_of_unmarked marker, dropped, hdrop]
      refine congrArg Host.Outcome.next ?_
      simp only [State.bump, State.bumpBy, State.counter]
    · rw [State.parse_of_marker (by rwa [parser]) gap marker, State.hunt_of_own marker (by rwa [addr']), dropped, hdrop]
      rfl
    · have inside : s.vc.parser.phase ≠ .hunting := by rw [phase]; decide
      rw [State.parse_of_inside (by rwa [parser]) gap marker, State.collect_of_header (by rwa [parser])]
      simp only [State.takeHeader, State.summed, parser, first]
      rfl
    · have inside : s.vc.parser.phase ≠ .hunting := by rw [phase]; decide
      have some : ((s.headTaken rest).summed e).seqNo = some n := second
      rw [State.parse_of_inside (by rwa [parser]) gap marker, State.collect_of_header (by rwa [parser])]
      simp only [State.takeHeader, some]
      rw [if_neg (by omega), ← second]
      rfl
    · have inside : s.vc.parser.phase ≠ .hunting := by rw [phase]; decide
      have some : ((s.headTaken rest).summed e).seqNo = some n := second
      rw [State.parse_of_inside (by rwa [parser]) gap marker, State.collect_of_header (by rwa [parser])]
      simp only [State.takeHeader, some]
      rw [if_pos bad, dropped]
    · have inside : s.vc.parser.phase ≠ .hunting := by rw [phase]; decide
      rw [State.parse_of_inside (by rwa [parser]) gap marker, State.collect_of_records (by rwa [parser])]
      rfl
    · have inside : s.vc.parser.phase ≠ .hunting := by rw [phase]; decide
      rw [State.parse_of_inside (by rwa [parser]) gap marker, State.collect_of_check (by rwa [parser]), State.takeCheck,
        if_pos (by exact poisoned), dropped]
    · have inside : s.vc.parser.phase ≠ .hunting := by rw [phase]; decide
      have good : ¬ ((s.headTaken rest).summed e).poisoned = true := by
        simp [State.summed, parser, clean, clean']
      rw [State.parse_of_inside (by rwa [parser]) gap marker, State.collect_of_check (by rwa [parser]), State.takeCheck,
        if_neg good, if_pos (by exact sum), dropped]
    · have inside : s.vc.parser.phase ≠ .hunting := by rw [phase]; decide
      have good : ¬ ((s.headTaken rest).summed e).poisoned = true := by
        simp [State.summed, parser, clean, clean']
      rw [State.parse_of_inside (by rwa [parser]) gap marker, State.collect_of_check (by rwa [parser]), State.takeCheck,
        if_neg good, if_neg (by exact not_not.mpr sum)]
      obtain ⟨x, hx⟩ : ∃ x, x = ({ s with vc := { s.vc with fifo := rest, parser := Parser.cleared } } : State) :=
        ⟨_, rfl⟩
      have seqNo : ((s.headTaken rest).summed e).seqNo.getD 0#8 = n := by
        simp [State.summed, parser, second]
      have chars : ((s.headTaken rest).summed e).chars = s.vc.parser.chars := rfl
      have ready : recordCountOk (decodeRecords s.vc.parser.chars) = true := by simp [recordCountOk, least, most]
      have begun : ({ s.headTaken rest with vc := { (s.headTaken rest).vc with parser := Parser.cleared } } : State) =
          x.placed .parse (s.earlierAt .parse) := by
        rw [hx, State.headTaken, State.arrive_eq_placed]
        rfl
      have link : (s.arrive .parse).sl = { s.sl with place := .parse, earlier := s.earlierAt .parse } := by
        rw [State.arrive_eq_placed]
        rfl
      have same : (x.acceptPacket n (decodeRecords s.vc.parser.chars)).sl = s.sl := by
        simp [hx]
      rw [seqNo, chars, begun, ← hx]
      refine ⟨_, exec_packetAccept ready x, congrArg Host.Outcome.next ?_⟩
      have moved : ∀ p q, (x.placed p q).acceptPacket n (decodeRecords s.vc.parser.chars) =
          (x.acceptPacket n (decodeRecords s.vc.parser.chars)).placed p q := Steady.acceptPacket n _ x
      rw [State.arrive_eq_placed x, moved, moved, link, ← same]
      rfl

end Sys2Proof.Machine
end

section
/-! SUPPORT. The receiver and the receive FIFO (sections 6.2, 6.3 and 6.7). -/

namespace Sys2Proof.Machine

/-! ### The receiver at an edge (R90) -/

theorem testBit_zero_pushed (b : Bool) (v : Nat) : (b.toNat + 2 * v).testBit 0 = b := by
  rw [Nat.testBit_zero, Nat.add_mul_mod_self_left]
  cases b <;> rfl

theorem testBit_succ_pushed (b : Bool) (v i : Nat) : (b.toNat + 2 * v).testBit (i + 1) = v.testBit i := by
  have small := b.toNat_lt
  rw [Nat.testBit_succ]
  congr 1
  omega

/-- The bits that were sampled, the first one lowest, read back one by one. -/
theorem data_of_bits (b0 b1 b2 b3 b4 b5 b6 b7 : Bool) :
    [0, 1, 2, 3, 4, 5, 6, 7].map
      (BitVec.ofNat 8 ([b0, b1, b2, b3, b4, b5, b6, b7].foldr (fun b v => b.toNat + 2 * v) 0)).getLsbD =
      [b0, b1, b2, b3, b4, b5, b6, b7] := by
  simp only [List.map_cons, List.map_nil, BitVec.getLsbD_ofNat, List.foldr_cons, testBit_zero_pushed,
    testBit_succ_pushed, Nat.reduceLT, decide_true, Bool.true_and]

section
variable {r : Receiver} {x : Reception} (level gap : Bool) (bitTime : Nat)

theorem Receiver.edge_of_quiet (quiet : r.char = none) : r.edge level bitTime gap =
    ({ last := some level
       char := if r.last = some true ∧ level = false then
         some { bitTime := bitTime, gap := gap, left := bitTime / 2, confirmed := false, bits := [] } else none },
      none) := by
  have falls : fallen r.last level = true ↔ r.last = some true ∧ level = false := by simp [fallen]
  simp only [Receiver.edge, quiet, falls, Reception.begun]

theorem Receiver.edge_of_char (char : r.char = some x) :
    r.edge level bitTime gap = ({ last := some level, char := (x.sample level).1 }, (x.sample level).2) := by
  simp only [Receiver.edge, char]

theorem Reception.sample_of_early (h : 1 < x.left) : x.sample level = (some { x with left := x.left - 1 }, none) :=
  if_pos h

theorem Reception.sample_of_start (h : x.left ≤ 1) (unconfirmed : x.confirmed = false) : x.sample level =
    (if level then none else some { x with left := x.bitTime, confirmed := true }, none) := by
  rw [Reception.sample, if_neg (by omega), if_neg (by simp [unconfirmed])]
  cases level <;> rfl

theorem Reception.sample_of_bit (h : x.left ≤ 1) (confirmed : x.confirmed = true) (bits : x.bits.length < 9) :
    x.sample level = (some { x with left := x.bitTime, bits := x.bits ++ [level] }, none) := by
  rw [Reception.sample, if_neg (by omega), if_pos confirmed, if_pos bits]

theorem Reception.sample_of_stop (h : x.left ≤ 1) (confirmed : x.confirmed = true) (bits : 9 ≤ x.bits.length) :
    x.sample level = (none, some (charOf x.bits level, x.gap)) := by
  rw [Reception.sample, if_neg (by omega), if_pos confirmed, if_neg (by omega)]

end

/-! ### The channel's work does not look at the place of its row -/

theorem Steady.discardPacket (k : Nat) : Steady (·.discardPacket k) := fun _ _ _ => rfl

theorem Steady.hunt (e : FifoEntry) : Steady (·.hunt e) :=
  Steady.ite (c := fun _ => e.marker = true) (fun _ _ _ => Iff.rfl)
    (Steady.ite (c := fun s => e.data = s.vcAddr ∨ e.data = 255#8) (fun _ _ _ => Iff.rfl) (fun _ _ _ => rfl)
      fun _ _ _ => rfl)
    fun _ _ _ => rfl

theorem Steady.takeHeader (p : Parser) (data : Byte) : Steady (·.takeHeader p data) := fun s q x => by
  dsimp only [State.takeHeader]
  cases p.seqNo with
  | none => rfl
  | some n =>
    dsimp only
    split <;> rfl

theorem Steady.takeCheck (p : Parser) : Steady (·.takeCheck p) :=
  Steady.ite (c := fun _ => p.poisoned = true) (fun _ _ _ => Iff.rfl) (Steady.discardPacket 4)
    (Steady.ite (c := fun _ => p.sum ≠ 0#8) (fun _ _ _ => Iff.rfl) (Steady.discardPacket 5)
      (Steady.comp (f := fun s => { s with vc := { s.vc with parser := Parser.cleared } }) (fun _ _ _ => rfl)
        (Steady.acceptPacket (p.seqNo.getD 0#8) (decodeRecords p.chars))))

theorem Steady.collect (e : FifoEntry) : Steady (·.collect e) := fun s q x => by
  dsimp only
  have phase : (s.placed q x).vc.parser.phase = s.vc.parser.phase := rfl
  have summed : (s.placed q x).summed e = s.summed e := rfl
  cases h : s.vc.parser.phase with
  | hunting => simp only [State.collect, h, phase]
  | header =>
    rw [State.collect_of_header h, State.collect_of_header (phase.trans h), summed]
    exact Steady.takeHeader _ e.data s q x
  | records =>
    rw [State.collect_of_records h, State.collect_of_records (phase.trans h)]
    rfl
  | check =>
    rw [State.collect_of_check h, State.collect_of_check (phase.trans h), summed]
    exact Steady.takeCheck _ s q x

theorem Steady.parse (e : FifoEntry) : Steady (·.parse e) :=
  Steady.ite (c := fun s => s.vc.parser.phase = .hunting) (fun _ _ _ => Iff.rfl) (Steady.hunt e)
    (Steady.ite (c := fun _ => e.gap = true) (fun _ _ _ => Iff.rfl) ((Steady.discardPacket 2).comp (Steady.hunt e))
      (Steady.ite (c := fun _ => e.marker = true) (fun _ _ _ => Iff.rfl) ((Steady.discardPacket 1).comp (Steady.hunt e))
        (Steady.collect e)))

theorem Steady.dropRawElement : Steady State.dropRawElement := fun s q x => by
  simp only [State.dropRawElement]
  cases h : s.port.txn with
  | none =>
    have h' : (s.placed q x).port.txn = none := h
    simp only [h']
  | some t =>
    have h' : (s.placed q x).port.txn = some t := h
    simp only [h']
    split <;> rfl

theorem Steady.parserTake : Steady State.parserTake := fun s q x => by
  have on : (s.placed q x).suspended = s.suspended := rfl
  unfold State.parserTake
  rw [on]
  split
  · rfl
  · cases h : s.vc.fifo with
    | nil =>
      have h' : (s.placed q x).vc.fifo = [] := h
      simp only [h']
    | cons e rest =>
      have h' : (s.placed q x).vc.fifo = e :: rest := h
      simp only [h']
      exact (Steady.dropRawElement.comp (Steady.parse e)) { s with vc := { s.vc with fifo := rest } } q x

theorem Steady.requestTx (c : FlowChar) : Steady (·.requestTx c) := fun s q x => by
  dsimp only
  rw [State.requestTx_eq, State.requestTx_eq]
  by_cases idle : s.vc.tx = none
  · have idle' : (s.placed q x).vc.tx = none := idle
    simp only [idle, idle', if_true]
    rfl
  · have idle' : ¬ (s.placed q x).vc.tx = none := idle
    simp only [idle, idle', if_false]
    rfl

theorem Steady.evalFlow : Steady State.evalFlow :=
  Steady.comp (f := State.evalPause)
    (Steady.ite (c := fun s => s.swFlow = true) (fun _ _ _ => Iff.rfl)
      (Steady.ite (c := fun s => s.vc.flowPaused = true) (fun _ _ _ => Iff.rfl)
        (Steady.ite (c := fun s => s.vc.fifo.length ≤ s.lowerLevel) (fun _ _ _ => Iff.rfl)
          (Steady.comp (f := fun s => { s with vc := { s.vc with flowPaused := false } }) (fun _ _ _ => rfl)
            (Steady.requestTx .resume))
          Steady.id)
        (Steady.ite (c := fun s => s.upperLevel < s.vc.fifo.length) (fun _ _ _ => Iff.rfl)
          (Steady.comp (f := fun s => { s with vc := { s.vc with flowPaused := true, resend := 0 } })
            (fun _ _ _ => rfl) (Steady.requestTx .pause))
          Steady.id))
      Steady.id)
    (fun s q x => by
      rw [State.evalStall_eq, State.evalStall_eq]
      rfl)

/-! ### A completed character (R90 to R92, R105, R107) -/

section
variable (s : State) (c : LineChar) (gap : Bool)

/-- The entry that a completed character makes (R92). -/
def entryOf (c : LineChar) (gap : Bool) : FifoEntry :=
  { data := c.data, marker := c.marker, error := !c.stop, gap := gap }

/-- A character in the FIFO, or lost to a full one, before it counts toward a re-send. -/
def State.taken (s : State) (c : LineChar) (gap : Bool) : State :=
  if s.vc.fifo.length < 256 then
    { s with
      vc := { s.vc with idle := 0, fifo := s.vc.fifo ++ [entryOf c gap] }
      counters := if c.stop then s.counters else (s.bump .framingErrors).counters }
  else
    { s with
      vc := { s.vc with idle := 0 }
      counters := ((if c.stop then s else s.bump .framingErrors).bump .rxOverrun).counters
      rc := { s.rc with flags := s.rc.flags ||| 0x1000#32 } }

theorem State.receive_eq : s.receive c gap = (s.taken c gap).countResend := by
  unfold State.receive State.taken entryOf
  by_cases room : s.vc.fifo.length < 256
  · cases c.stop <;> simp [room, Config.fifo, State.bump, State.bumpBy, State.counter]
  · cases c.stop <;>
      simp [room, Config.fifo, State.bump, State.bumpBy, State.counter, State.raise, Event.num]

end

/-- The idle measure restarts with a character whatever it was. -/
theorem State.taken_of_restarted (s : State) (c : LineChar) (gap : Bool) :
    ({ s with vc := { s.vc with idle := 0 } } : State).taken c gap = s.taken c gap := by
  unfold State.taken
  by_cases room : s.vc.fifo.length < 256
  · cases c.stop <;> simp [room, State.bump, State.bumpBy, State.counter]
  · cases c.stop <;> simp [room, State.bump, State.bumpBy, State.counter]

theorem State.countResend_of_running {s : State} (h : s.vc.flowPaused = false) : s.countResend = s :=
    if_neg (by simp [h])

theorem State.parserTake_of_suspended {s : State} (h : s.suspended = true) : s.parserTake = s := if_pos h

section
variable {s : State}

theorem State.countResend_of_few (paused : s.vc.flowPaused = true) (few : s.vc.resend + 1 < s.resendK) :
    s.countResend = { s with vc := { s.vc with resend := s.vc.resend + 1 } } := by
  rw [State.countResend, if_pos paused, if_neg (by omega)]

/-- A Pause sent again on an idle VC_TX (R105). -/
theorem State.countResend_of_many (paused : s.vc.flowPaused = true) (many : s.resendK ≤ s.vc.resend + 1)
    (idle : s.vc.tx = none) : s.countResend = { s with
      vc := { s.vc with resend := 0, tx := some (s.flowTx .pause) }, counters := (s.bump .pauseSent).counters } := by
  rw [State.countResend, if_pos paused, if_pos many, State.requestTx, idle]
  rfl

/-- A fill that rises above UPPER with the line free (R105, R107). -/
theorem State.evalFlow_of_rise (sw : s.swFlow = true) (hw : s.hwFlow = true) (runs : s.vc.flowPaused = false)
    (idle : s.vc.tx = none) (free : s.vc.stall = false) (high : s.upperLevel < s.vc.fifo.length) :
    s.evalFlow = { s with
      vc := { s.vc with flowPaused := true, resend := 0, stall := true, tx := some (s.flowTx .pause) }
      counters := (s.bump .pauseSent).counters } := by
  have pause : s.evalPause = { s with
      vc := { s.vc with flowPaused := true, resend := 0, tx := some (s.flowTx .pause) }
      counters := (s.bump .pauseSent).counters } := by
    rw [State.evalPause, if_pos sw, if_neg (by simp [runs]), if_pos high, State.requestTx, idle]
    rfl
  rw [State.evalFlow, pause, State.evalStall, if_pos (by exact hw), if_neg (by simp [free]), if_pos (by exact high)]

/-- A fill that stands above both limits while Paused stalls a free line (R107). -/
theorem State.evalFlow_of_standing (hw : s.hwFlow = true) (paused : s.vc.flowPaused = true)
    (free : s.vc.stall = false) (high : s.upperLevel < s.vc.fifo.length) (low : s.lowerLevel < s.vc.fifo.length) :
    s.evalFlow = { s with vc := { s.vc with stall := true } } := by
  have pause : s.evalPause = s := by
    rw [State.evalPause, if_pos paused, if_neg (by omega : ¬ s.vc.fifo.length ≤ s.lowerLevel), ite_self]
  rw [State.evalFlow, pause, State.evalStall, if_pos hw, if_neg (by simp [free]), if_pos high]

end

/-- Settles O47. -/
theorem charactersAreReceived : Obligations.CharactersAreReceived := by
  refine ⟨fun r x level gap bitTime b0 b1 b2 b3 b4 b5 b6 b7 b8 => ⟨fun quiet => ?_, fun char early => ?_,
    fun char late start => ?_, fun char late confirmed bits => ?_, fun char late confirmed bits => ?_⟩, ?_⟩
  · exact Receiver.edge_of_quiet level gap bitTime quiet
  · rw [Receiver.edge_of_char level gap bitTime char, Reception.sample_of_early level early]
  · rw [Receiver.edge_of_char level gap bitTime char, Reception.sample_of_start level late start]
  · rw [Receiver.edge_of_char level gap bitTime char, Reception.sample_of_bit level late confirmed bits]
  · rw [Receiver.edge_of_char level gap bitTime char,
      Reception.sample_of_stop level late confirmed (by rw [bits]; exact le_rfl), bits]
    exact ⟨_, rfl, data_of_bits b0 b1 b2 b3 b4 b5 b6 b7, rfl, rfl⟩
  intro s u c idle gap e under quiet he hu
  have arrived : (s.arrive .parse).vc = s.vc ∧ (s.arrive .parse).regs = s.regs ∧ (s.arrive .parse).rc = s.rc ∧
      (s.arrive .parse).counters = s.counters := by simp
  obtain ⟨vc, regs, rc, counters⟩ := arrived
  have regsU : u.regs = s.regs := by rw [hu]; exact regs
  have limit : (s.arrive .parse).gapLimit = s.gapLimit := by
    simp only [State.gapLimit, State.vcBitTime, State.fieldOf, State.reg_congr regs]
  have flag : (s.arrive .parse).commandGap idle = gap := by
    unfold State.commandGap State.gapFlag
    rw [vc, limit]
    cases char : s.vc.rx.char with
    | none => exact (quiet char).symm
    | some x => exact (under x char).symm
  have entry : entryOf c gap = e := he.symm
  have step : exec (.vcCharacter c idle) s = .next ((u.taken c gap).countResend.parserTake.evalFlow) := by
    have begun : ({ s.arrive .parse with vc := { (s.arrive .parse).vc with rx := Receiver.rested c.stop } } :
        State).taken c gap = u.taken c gap := by
      rw [hu, vc, ← State.taken_of_restarted]
      rfl
    have edge : (s.arrive .parse).characterEdge c idle = (u.taken c gap).countResend.parserTake.evalFlow := by
      rw [State.characterEdge, flag, State.receive_eq, begun]
    exact congrArg Host.Outcome.next edge
  rw [step]
  have fifo : u.vc.fifo = s.vc.fifo := by rw [hu]
  have bumped : ∀ k, (u.bump k).counters = (s.bump k).counters := fun k => by
    have same : u.counters = s.counters := by rw [hu]; exact counters
    simp only [State.bump, State.bumpBy, State.counter, same]
  have countersU : u.counters = s.counters := by rw [hu]; exact counters
  have rcU : u.rc = s.rc := by rw [hu]; exact rc
  have idleU : u.vc.idle = 0 := by rw [hu]
  have room : s.vc.fifo.length < 256 → u.taken c gap = { u with
      vc := { u.vc with fifo := s.vc.fifo ++ [e] }
      counters := if c.stop then s.counters else (s.bump .framingErrors).counters } := fun room => by
    rw [State.taken, fifo, if_pos room, entry, bumped, countersU, ← idleU]
  have rise : s.vc.fifo.length < 256 → c.stop = true →
      u.taken c gap = { u with vc := { u.vc with fifo := s.vc.fifo ++ [e] } } := fun least stop => by
    rw [room least, if_pos stop, ← countersU]
  have full : 256 ≤ s.vc.fifo.length → u.taken c gap = { u with
      counters := ((if c.stop then s else s.bump .framingErrors).bump .rxOverrun).counters
      rc := { s.rc with flags := s.rc.flags ||| 0x1000#32 } } := fun full => by
    have lost : ((if c.stop then u else u.bump .framingErrors).bump .rxOverrun).counters =
        ((if c.stop then s else s.bump .framingErrors).bump .rxOverrun).counters := by
      cases c.stop <;> simp [State.bump, State.bumpBy, State.counter, countersU]
    rw [State.taken, fifo, if_neg (by omega), lost, rcU, ← idleU]
  have paused : u.vc.flowPaused = s.vc.flowPaused := by rw [hu]
  have reg : ∀ x : State, x.regs = u.regs → (x.suspended = s.suspended ∧ x.swFlow = s.swFlow ∧ x.hwFlow = s.hwFlow) :=
    fun x same => by
      have regsX := same.trans regsU
      simp only [State.suspended, State.rawMode, State.parserPaused, State.swFlow, State.hwFlow, State.flagOf,
        State.reg_congr regsX, and_self]
  have levels : ∀ x : State, x.regs = u.regs → (x.upperLevel = s.upperLevel ∧ x.lowerLevel = s.lowerLevel ∧
      x.resendK = s.resendK ∧ x.flowTx .pause =
        { char := .pause, data := s.flowData .pause, bitTime := s.vcBitTime, left := 11 * s.vcBitTime }) :=
    fun x same => by
      have regsX := same.trans regsU
      simp only [State.upperLevel, State.lowerLevel, State.resendK, State.flowTx, State.flowData, State.vcBitTime,
        State.fieldOf, State.reg_congr regsX, and_self]
  have line : u.vc.tx = s.vc.tx ∧ u.vc.stall = s.vc.stall := by rw [hu]; exact ⟨rfl, rfl⟩
  have resend : u.vc.resend = s.vc.resend := by rw [hu]
  refine ⟨fun on sw hw runs => ⟨fun least => ?_, fun most => ?_⟩, fun on least runs => ?_,
    fun on sw hw stall idle stop least high => ⟨fun runs => ?_, fun pauses low few => ?_, fun pauses low many => ?_⟩⟩
  · rw [room least, State.countResend_of_running (by exact paused.trans runs)]
    generalize hx : ({ u with
      vc := { u.vc with fifo := s.vc.fifo ++ [e] }
      counters := if c.stop then s.counters else (s.bump .framingErrors).counters } : State) = x
    obtain ⟨on', sw', hw'⟩ := reg x (by rw [← hx])
    rw [State.parserTake_of_suspended (on'.trans on), State.evalFlow_of_off (sw'.trans sw) (hw'.trans hw)]
  · rw [full most, State.countResend_of_running (by exact paused.trans runs)]
    generalize hx : ({ u with
      counters := ((if c.stop then s else s.bump .framingErrors).bump .rxOverrun).counters
      rc := { s.rc with flags := s.rc.flags ||| 0x1000#32 } } : State) = x
    obtain ⟨on', sw', hw'⟩ := reg x (by rw [← hx])
    rw [State.parserTake_of_suspended (on'.trans on), State.evalFlow_of_off (sw'.trans sw) (hw'.trans hw)]
  · rw [room least, State.countResend_of_running (by exact paused.trans runs)]
    generalize hx : ({ u with
      vc := { u.vc with fifo := s.vc.fifo ++ [e] }
      counters := if c.stop then s.counters else (s.bump .framingErrors).counters } : State) = x
    obtain ⟨on', -, -⟩ := reg x (by rw [← hx])
    have link : x.sl = u.sl := by rw [← hx]
    have ready : (x.arrive .parse).parserReady = true := by
      have regsA : (x.arrive .parse).regs = u.regs := by rw [← hx]; simp
      obtain ⟨onA, -, -⟩ := reg _ regsA
      have fifoA : (x.arrive .parse).vc.fifo = s.vc.fifo ++ [e] := by rw [← hx]; simp
      rw [State.parserReady, onA, on, fifoA]
      simp
    have moved := (Steady.parserTake.comp Steady.evalFlow) x .parse (x.earlierAt .parse)
    have kept : x.parserTake.evalFlow.sl = u.sl := by simp [link]
    rw [← State.arrive_eq_placed] at moved
    refine ⟨_, congrArg Host.Outcome.next (if_pos ready), congrArg Host.Outcome.next ?_⟩
    dsimp only at moved
    generalize x.parserTake.evalFlow = y at *
    rw [moved, ← kept]
    rfl
  · obtain ⟨y, hy⟩ : ∃ y, y = ({ u with vc := { u.vc with fifo := s.vc.fifo ++ [e] } } : State) := ⟨_, rfl⟩
    have regsY : y.regs = u.regs := by rw [hy]
    obtain ⟨on', sw', hw'⟩ := reg y regsY
    obtain ⟨upper, -, -, tx⟩ := levels y regsY
    have runs' : y.vc.flowPaused = false := by rw [hy]; exact paused.trans runs
    have idle' : y.vc.tx = none := by rw [hy]; exact line.1.trans idle
    have free : y.vc.stall = false := by rw [hy]; exact line.2.trans stall
    have more : y.vc.fifo.length = s.vc.fifo.length + 1 := by rw [hy]; simp
    have bumpedY : (y.bump .pauseSent).counters = (s.bump .pauseSent).counters := by rw [← bumped, hy]; rfl
    rw [rise least stop, ← hy, State.countResend_of_running runs', State.parserTake_of_suspended (on'.trans on),
      State.evalFlow_of_rise (sw'.trans sw) (hw'.trans hw) runs' idle' free (by rwa [upper, more]), tx, bumpedY, hy]
  · obtain ⟨y, hy⟩ : ∃ y, y = ({ u with vc := { u.vc with fifo := s.vc.fifo ++ [e] } } : State) := ⟨_, rfl⟩
    have regsY : y.regs = u.regs := by rw [hy]
    obtain ⟨-, -, limit, -⟩ := levels y regsY
    have pauses' : y.vc.flowPaused = true := by rw [hy]; exact paused.trans pauses
    have count : y.vc.resend = s.vc.resend := by rw [hy]; exact resend
    rw [rise least stop, ← hy, State.countResend_of_few pauses' (by rwa [limit, count]), count]
    obtain ⟨z, hz⟩ : ∃ z, z = ({ y with vc := { y.vc with resend := s.vc.resend + 1 } } : State) := ⟨_, rfl⟩
    have regsZ : z.regs = u.regs := by rw [hz, hy]
    obtain ⟨on', -, hw'⟩ := reg z regsZ
    obtain ⟨upper, lower, -, -⟩ := levels z regsZ
    have more : z.vc.fifo.length = s.vc.fifo.length + 1 := by rw [hz, hy]; simp
    have pausesZ : z.vc.flowPaused = true := by rw [hz]; exact pauses'
    have free : z.vc.stall = false := by rw [hz, hy]; exact line.2.trans stall
    rw [← hz, State.parserTake_of_suspended (on'.trans on), State.evalFlow_of_standing (hw'.trans hw) pausesZ free
      (by rwa [upper, more]) (by rwa [lower, more]), hz, hy]
  · obtain ⟨y, hy⟩ : ∃ y, y = ({ u with vc := { u.vc with fifo := s.vc.fifo ++ [e] } } : State) := ⟨_, rfl⟩
    have regsY : y.regs = u.regs := by rw [hy]
    obtain ⟨-, -, limit, tx⟩ := levels y regsY
    have pauses' : y.vc.flowPaused = true := by rw [hy]; exact paused.trans pauses
    have idle' : y.vc.tx = none := by rw [hy]; exact line.1.trans idle
    have count : y.vc.resend = s.vc.resend := by rw [hy]; exact resend
    have bumpedY : (y.bump .pauseSent).counters = (s.bump .pauseSent).counters := by rw [← bumped, hy]; rfl
    rw [rise least stop, ← hy, State.countResend_of_many pauses' (by rwa [limit, count]) idle', tx, bumpedY]
    obtain ⟨z, hz⟩ : ∃ z, z = ({ y with
      vc := { y.vc with
        resend := 0
        tx := some { char := .pause, data := s.flowData .pause, bitTime := s.vcBitTime, left := 11 * s.vcBitTime } }
      counters := (s.bump .pauseSent).counters } : State) := ⟨_, rfl⟩
    have regsZ : z.regs = u.regs := by rw [hz, hy]
    obtain ⟨on', -, hw'⟩ := reg z regsZ
    obtain ⟨upper, lower, -, -⟩ := levels z regsZ
    have more : z.vc.fifo.length = s.vc.fifo.length + 1 := by rw [hz, hy]; simp
    have pausesZ : z.vc.flowPaused = true := by rw [hz]; exact pauses'
    have free : z.vc.stall = false := by rw [hz, hy]; exact line.2.trans stall
    rw [← hz, State.parserTake_of_suspended (on'.trans on), State.evalFlow_of_standing (hw'.trans hw) pausesZ free
      (by rwa [upper, more]) (by rwa [lower, more]), hz, hy]

end Sys2Proof.Machine
end

section
/-! SUPPORT. Travel, the item numbering and the epoch: what each command and what an edge of the clock make of them. -/

namespace Sys2Proof.Machine

/-- The numbering of items (R65): the next item ID and the epoch. -/
def State.numbering (s : State) : BitVec 24 × BitVec 4 := (s.ad.nextId, s.ad.epoch)

theorem State.numbering_of_ad {s t : State} (h : t.ad = s.ad) : t.numbering = s.numbering := by
  simp [State.numbering, h]

section
variable (s : State)

/-! ### Travel moves on by step 1 alone (R22) -/

@[simp] theorem State.forwardStep_travel : s.forwardStep.lp.travel = s.lp.travel := by
  unfold State.forwardStep State.offerPosition
  (repeat' split) <;> simp

@[simp] theorem State.takeStep_travel (forward : Bool) : (s.takeStep forward).lp.travel = s.lp.travel := by
  unfold State.takeStep State.reverseStep
  (repeat' split) <;> simp

@[simp] theorem State.genTick_travel : s.genTick.lp.travel = s.lp.travel := by
  unfold State.genTick
  (repeat' split) <;> simp

@[simp] theorem State.takeIndexEdge_travel : s.takeIndexEdge.lp.travel = s.lp.travel := by
  unfold State.takeIndexEdge
  split <;> rfl

@[simp] theorem State.advanceIndex_travel : s.advanceIndex.lp.travel = s.lp.travel := by
  unfold State.advanceIndex
  split <;> rfl

@[simp] theorem State.incSince_travel : s.incSince.lp.travel = s.lp.travel := by
  unfold State.incSince
  split <;> rfl

@[simp] theorem State.countSince_travel : s.countSince.lp.travel = s.lp.travel := by
  rw [State.countSince_eq]
  split <;> simp

@[simp] theorem State.stepTwo_travel (start : Bool) : (s.stepTwo start).lp.travel = s.lp.travel := by
  rw [State.stepTwo_line]

@[simp] theorem State.expireStall_travel : s.expireStall.lp.travel = s.lp.travel := by
  simp [State.expireStall]

theorem State.changeLine_travel (before : Word) : (s.changeLine before).lp.travel = s.lp.travel := by
  have switched : ∀ x : State, x.lp.travel = s.lp.travel →
      (if bit before 1 = true ∧ x.indexUse = false then
        { x with lp := { x.lp with indexPending := false } }
      else if bit before 1 = false ∧ x.indexUse = true ∧ x.sourceInternal = false then
        { x with lp := { x.lp with sinceIndex := 0 } }
      else x).lp.travel = s.lp.travel := fun x same => by
    (repeat' split) <;> exact same
  exact switched _ (by split <;> rfl)

theorem State.changeGenerator_travel (before : Word) : (s.changeGenerator before).lp.travel = s.lp.travel := by
  unfold State.changeGenerator
  (repeat' split) <;> rfl

theorem State.changeStall_travel (before : Word) : (s.changeStall before).lp.travel = s.lp.travel := by
  unfold State.changeStall
  (repeat' split) <;> rfl

/-! ### The numbering moves on by admissions and restarts with the start of a full reset (R65) -/

@[simp] theorem State.setFire_numbering (g : Group) (x : Option Nat) : (s.setFire g x).numbering = s.numbering := by
  cases g <;> rfl

@[simp] theorem State.setModel_numbering (g : Group) (x : Model) : (s.setModel g x).numbering = s.numbering := by
  cases g <;> rfl

@[simp] theorem State.drainModel_numbering (g : Group) : (s.drainModel g).numbering = s.numbering := by
  simp [State.drainModel]

/-- Step 7 moves the numbering on by at most one item. -/
theorem State.stepSeven_numbering : s.stepSeven.numbering = s.numbering ∨
    s.stepSeven.numbering = (s.ad.nextId + 1#24, s.ad.epoch) := by
  cases proposed : s.proposal with
  | none =>
    simp only [State.stepSeven, proposed]
    exact .inl rfl
  | some p =>
    by_cases hold : s.globalHold = true
    · simp only [State.stepSeven, proposed, hold, if_true]
      exact .inl (State.numbering_of_ad (by simp))
    · obtain ⟨a, c, fired, next, epoch, -⟩ := s.fired_eq p
      have ad : s.stepSeven.ad = a := by
        have batch : ((s.entered p).countIntoBatch s.ad.epoch).ad = (s.entered p).ad := by simp
        have entry : (s.entered p).ad = (s.fired p).ad := by rw [State.entered_eq]
        rw [State.stepSeven_parts proposed (by simpa using hold)]
        exact batch.trans (entry.trans (by rw [fired]))
      exact .inr (by rw [State.numbering, ad, next, epoch])

@[simp] theorem State.stepEight_numbering (active : List Bool) (global admitted flush : Bool) :
    (s.stepEight active global admitted flush).numbering = s.numbering := by
  have judged : (s.evaluated active global admitted).numbering = s.numbering := by
    rw [(s.evaluated_spec active global admitted).1]
    rfl
  have rest : s.stepEight active global admitted flush = (if flush then (s.evaluated active global admitted).flushRoute
      else s.evaluated active global admitted).settleFaults.drainedTest := rfl
  rw [rest, ← judged]
  exact State.numbering_of_ad (by split <;> simp)

/-- A position event moves travel on by one, and the numbering by at most one item. -/
theorem State.positionEvent_marks : s.positionEvent.lp.travel = s.lp.travel + 1#32 ∧
    (s.positionEvent.numbering = s.numbering ∨ s.positionEvent.numbering = (s.ad.nextId + 1#24, s.ad.epoch)) := by
  unfold State.positionEvent
  dsimp only
  generalize begun : ({ s with
    lp := { s.lp with acc := s.lp.acc - 1 }
    clk := { s.clk with sincePosition := 0 } } : State) = b
  have one : b.stepOne.lp.travel = s.lp.travel + 1#32 := by
    subst begun
    unfold State.stepOne
    rw [State.advanceIndex_travel]
    rfl
  have ad : b.ad = s.ad := by rw [← begun]
  obtain ⟨u, hu⟩ : ∃ u, u = b.stepOne.stepTwo s.wraps := ⟨_, rfl⟩
  have adu : u.ad = s.ad := by simp [hu, ad]
  rw [← hu]
  generalize (s.wraps || u.lp.cycleIndex == 0) = start
  have six : (u.upToSix start).ad = s.ad := by
    rw [← adu]
    simp [State.upToSix, State.upToSampler, State.upToBrackets, State.upToSlots]
  refine ⟨?_, ?_⟩
  · simp [hu, one]
  · rw [State.stepsFromThree_eq, State.stepEight_numbering]
    have seven := (u.upToSix start).stepSeven_numbering
    rwa [State.numbering_of_ad six, six] at seven

/-- A slot's frame leaves the numbering, or restarts it in the next epoch (R65). -/
theorem State.startSlot_numbering (i : SlotId) : (s.startSlot i).numbering = s.numbering ∨
    (s.startSlot i).numbering = (0#24, s.ad.epoch + 1#4) := by
  cases i with
  | cycleMark =>
    simp only [State.startSlot, State.startMark]
    split
    · exact .inr (by simp [State.numbering, State.restartCount])
    · exact .inl (by simp [State.numbering])
  | fullReset => exact .inr (by simp [State.startSlot, State.startFullReset_eq, State.numbering])
  | stationReset => exact .inl (by simp [State.startSlot, State.startStationReset_eq, State.numbering])
  | _ => exact .inl (State.numbering_of_ad (by simp [State.startSlot]))

/-- The start of a frame leaves the numbering, or restarts it in the next epoch, on a link that was idle (R65). -/
theorem State.select_numbering (old : Startable) : (s.select old).numbering = s.numbering ∨
    (s.select old).numbering = (0#24, s.ad.epoch + 1#4) ∧ s.sl.link = .idle := by
  unfold State.select
  split
  · next free =>
    split
    · exact (s.startSlot_numbering _).imp_right fun restarts => ⟨restarts, free.1⟩
    · split
      · exact .inl rfl
      · exact .inl (State.numbering_of_ad (by simp))
  · exact .inl rfl

end

/-! ### Write words -/

/-- START keeps the numbering, and travel unless it is accepted (R168). -/
theorem State.start_marks (s : State) : s.start.numbering = s.numbering ∧
    (s.start.lp.travel = s.lp.travel ∨ s.start.lp.travel = 0#32 ∧ s.rc.state = .halted ∧
      s.start.rc.state = .running) := by
  have refused : ∀ why, ((s.nameCommand 0).refuseCommand why).numbering = s.numbering ∧
      ((s.nameCommand 0).refuseCommand why).lp.travel = s.lp.travel := fun why =>
    ⟨State.numbering_of_ad (by simp), by simp⟩
  unfold State.start
  dsimp only
  split
  · next halted =>
    split
    · exact (refused _).imp id .inl
    · refine ⟨?_, .inr ⟨rfl, halted, rfl⟩⟩
      simp [State.startRun, State.numbering]
  · exact (refused _).imp id .inl
  · exact (refused _).imp id .inl
  · exact (refused _).imp id .inl

/-- The commands of the run keep the numbering, and all but an accepted Start keep travel (R167). -/
theorem State.command_marks (s : State) (v : Word) : (s.command v).numbering = s.numbering ∧
    ((s.command v).lp.travel = s.lp.travel ∨ (s.command v).lp.travel = 0#32 ∧ s.rc.state = .halted ∧
      (s.command v).rc.state = .running ∧ v &&& 0xF#32 = 1#32) := by
  unfold State.command
  split
  · exact ⟨rfl, .inl rfl⟩
  · next b0 b1 b2 b3 =>
    have one : v &&& 0xF#32 = 1#32 := by
      refine BitVec.eq_of_getLsbD_eq fun i hi => ?_
      have low : ∀ j, j < 4 → bit v j = decide (j = 0) := fun j hj => by
        match j, hj with
        | 0, _ => exact b0
        | 1, _ => exact b1
        | 2, _ => exact b2
        | 3, _ => exact b3
      have mask : (0xF#32).getLsbD i = decide (i < 4) := by
        revert i
        decide
      have unit : (1#32).getLsbD i = decide (i = 0) := by
        revert i
        decide
      rw [BitVec.getLsbD_and, mask, unit]
      by_cases h : i < 4
      · simpa [h, bit] using low i h
      · simp [h, show i ≠ 0 by omega]
    exact s.start_marks.imp id fun travel => travel.imp id fun ⟨zero, halted, running⟩ => ⟨zero, halted, running, one⟩
  · exact ⟨State.numbering_of_ad (by simp), .inl (by simp)⟩
  · exact ⟨State.numbering_of_ad (by simp), .inl (by simp)⟩
  · exact ⟨State.numbering_of_ad (by simp), .inl (by simp)⟩
  · exact ⟨State.numbering_of_ad (by simp), .inl (by simp)⟩

/-- A register's effect keeps the numbering, unless it is an action, and travel, unless it is a run command too. -/
theorem State.applyWord_marks (s : State) (r : Reg) (v : Word) (armed : Bool) (action : r ≠ .rcAction) :
    (s.applyWord r v armed).numbering = s.numbering ∧
      (r ≠ .rcCommand → (s.applyWord r v armed).lp.travel = s.lp.travel) := by
  unfold State.applyWord
  split
  case h_29 => exact absurd rfl action
  case h_26 => exact ⟨(s.command_marks v).1, fun h => absurd rfl h⟩
  all_goals refine ⟨State.numbering_of_ad (by simp [apply_ite State.ad]), fun _ => ?_⟩
  case h_12 => exact State.changeLine_travel _ _
  case h_13 => exact State.changeGenerator_travel _ _
  case h_14 => exact State.changeStall_travel _ _
  all_goals simp [apply_ite State.lp]

/-- What a word to RC_ACTION makes of travel and the numbering: the soft reset alone touches them (R176). -/
theorem State.action_marks (s : State) (v : Word) (armed : Bool) :
    (s.action v armed).numbering = s.numbering ∧ (s.action v armed).lp.travel = s.lp.travel ∨
      ((s.action v armed).numbering = (0#24, 0#4) ∧ (s.action v armed).lp.travel = 0#32) ∧
        armed = true ∧ bit v 4 = true := by
  have lp : (s.cleared v).lp = s.lp := by
    simp [State.cleared, State.snapshot, State.clearCounters, apply_ite State.lp]
  have ad : (s.cleared v).ad = s.ad := by
    simp [State.cleared, State.snapshot, State.clearCounters, apply_ite State.ad]
  rw [State.action_eq]
  by_cases fires : bit v 4 = true
  · rw [if_pos fires]
    cases armed with
    | true => exact .inr ⟨⟨rfl, rfl⟩, rfl, fires⟩
    | false => exact .inl ⟨State.numbering_of_ad ad, congrArg Line.travel lp⟩
  · rw [if_neg fires]
    exact .inl ⟨State.numbering_of_ad ad, congrArg Line.travel lp⟩

/-- What a write word makes of travel and the numbering: a reset, an accepted Start, or nothing. -/
theorem State.hostWrite_marks (s : State) (a : Addr) (v : Word) :
    ((s.hostWrite a v).numbering = s.numbering ∧ (s.hostWrite a v).lp.travel = s.lp.travel) ∨
    (a = Reg.rcAction.address ∧ ((s.hostWrite a v).numbering = (0#24, 0#4) ∧ (s.hostWrite a v).lp.travel = 0#32) ∧
      s.rc.resetArmed = true ∧ bit v 4 = true) ∨
    a = Reg.rcCommand.address ∧ (s.hostWrite a v).numbering = s.numbering ∧ (s.hostWrite a v).lp.travel = 0#32 ∧
      s.rc.state = .halted ∧ (s.hostWrite a v).rc.state = .running ∧ v &&& 0xF#32 = 1#32 := by
  rcases s.hostWrite_cases a v with heard | ⟨txn, dropped | written⟩
  · exact .inl (by rw [heard]; exact ⟨rfl, rfl⟩)
  · exact .inl (by rw [dropped]; exact ⟨State.numbering_of_ad (by simp; rfl), by simp; rfl⟩)
  · have ad : (s.hostWrite a v).ad = ((s.begun txn).writeWord a v).ad := by simp [written]
    have lp : (s.hostWrite a v).lp = ((s.begun txn).writeWord a v).lp := by simp [written]
    have rc : (s.hostWrite a v).rc.state = ((s.begun txn).writeWord a v).rc.state := by simp [written]
    rw [lp, rc, State.numbering_of_ad ad]
    rcases (s.begun txn).writeWord_cases a v with ⟨r, hr, applied⟩ | ⟨t, table⟩ | ⟨why, refused⟩
    · rw [applied]
      by_cases action : r = .rcAction
      · subst action
        refine ((s.begun txn).disarm.action_marks v _).imp id fun ⟨marks, fires⟩ => ?_
        exact .inl ⟨regAt_eq_some hr, marks, fires⟩
      · obtain ⟨numbering, travel⟩ := (s.begun txn).disarm.applyWord_marks r v s.rc.resetArmed action
        by_cases command : r = .rcCommand
        · subst command
          obtain ⟨numbering, travel⟩ := (s.begun txn).disarm.command_marks v
          rcases travel with travel | started
          · exact .inl ⟨numbering, travel⟩
          · exact .inr (.inr ⟨regAt_eq_some hr, numbering, started⟩)
        · exact .inl ⟨numbering, travel command⟩
    · rw [table]
      exact .inl ⟨State.numbering_of_ad (by simp; rfl), by simp; rfl⟩
    · rw [refused]
      exact .inl ⟨State.numbering_of_ad (by simp; rfl), by simp; rfl⟩

/-! ### An edge of the clock -/

section
variable (s : State)

@[simp] theorem State.raiseFault_link (e : Event) : (s.raiseFault e).sl.link = s.sl.link := by
  have entered : ∀ x : State, (x.enterFault e [e]).sl.link = x.sl.link :=
    fun x => by rw [(x.enterFault_stands e [e]).link]
  unfold State.raiseFault
  (repeat' split) <;> simp [entered]

@[simp] theorem State.forwardStep_link : s.forwardStep.sl.link = s.sl.link := by
  unfold State.forwardStep State.offerPosition
  (repeat' split) <;> simp

@[simp] theorem State.takeStep_link (forward : Bool) : (s.takeStep forward).sl.link = s.sl.link := by
  unfold State.takeStep State.reverseStep
  (repeat' split) <;> simp

@[simp] theorem State.genTick_link : s.genTick.sl.link = s.sl.link := by
  unfold State.genTick
  (repeat' split) <;> simp

/-- A step that happens or not leaves alone what it leaves alone when it happens. -/
theorem leaves_ite {α : Type} {p : State → α} {x y : State} (c : Prop) [Decidable c] (h : p x = p y) :
    p (if c then x else y) = p y := by
  split
  · exact h
  · rfl

/-- What each recognised input leaves alone, the recognition leaves alone. -/
theorem State.recognise_leaves {α : Type} {p : State → α} (kept : p s.keepSample = p s)
    (step : ∀ x forward, p (State.takeStep x forward) = p x) (index : ∀ x, p (State.takeIndexEdge x) = p x)
    (sense : ∀ x, p (State.takeSense x) = p x) : p s.recognise = p s := by
  unfold State.recognise
  exact (leaves_ite _ (sense _)).trans ((leaves_ite _ (index _)).trans ((leaves_ite _ (step _ _)).trans kept))

@[simp] theorem State.recognise_link : s.recognise.sl.link = s.sl.link :=
  s.recognise_leaves (p := (·.sl.link)) rfl (fun x f => x.takeStep_link f) (fun x => by simp) (fun x => by simp)

@[simp] theorem State.recognise_travel : s.recognise.lp.travel = s.lp.travel :=
  s.recognise_leaves (p := (·.lp.travel)) rfl (fun x f => x.takeStep_travel f) (fun x => by simp) (fun x => by simp)

@[simp] theorem State.recognise_ad : s.recognise.ad = s.ad :=
  s.recognise_leaves (p := (·.ad)) rfl (fun x f => by simp) (fun x => by simp) (fun x => by simp)

@[simp] theorem State.positionEvent_link : s.positionEvent.sl.link = s.sl.link := by
  have stands := (({ s with
    lp := { s.lp with acc := s.lp.acc - 1 }
    clk := { s.clk with sincePosition := 0 } } : State).stepOne.stepTwo s.wraps).stepsFromThree_stands
  unfold State.positionEvent
  dsimp only
  rw [(stands _).link]
  simp

@[simp] theorem State.channelEdge_link : s.channelEdge.sl.link = s.sl.link := by
  simp [State.channelEdge, apply_ite State.sl]

/-- The receiver of the link leaves the link where it is, or ends a transaction in Spacing (R134). -/
theorem State.linkReceive_link : s.linkReceive.sl.link = s.sl.link ∨ s.linkReceive.sl.link = .spacing := by
  unfold State.linkReceive
  split
  · exact .inl rfl
  · dsimp only
    split
    · unfold State.linkTake
      split
      · exact .inl rfl
      · unfold State.replyTake State.judgeReply
        (repeat' split) <;> first | exact .inl rfl | exact .inr rfl
      · exact .inl rfl
      · exact .inl rfl
    · unfold State.replyExpiry
      split
      · exact .inr rfl
      · exact .inl rfl

@[simp] theorem State.endFrame_link : s.endFrame.sl.link ≠ .idle := by
  unfold State.endFrame
  dsimp only
  split
  · exact fun h => nomatch h
  · exact fun h => nomatch h

/-- What the link's part of an edge leaves of the line and the numbering; `old` is the state at the edge's start. -/
theorem State.linkEdge_marks (old : State) : (s.linkEdge old).lp = s.lp ∧ ((s.linkEdge old).numbering = s.numbering ∨
    (s.linkEdge old).numbering = (0#24, s.ad.epoch + 1#4) ∧
      (s.sl.link = .idle ∨ s.sl.link = .spacing ∨ old.sl.link = .spacing)) := by
  unfold State.linkEdge
  dsimp only
  have received := s.linkReceive_link
  have ad : s.linkReceive.ad = s.ad := by simp
  have lp : s.linkReceive.lp = s.lp := by simp
  generalize s.linkReceive = r at *
  obtain ⟨f, hf⟩ : ∃ f, f = (if r.sl.link = .sending ∧ old.sl.link = .sending ∧ r.sl.left = 0 then r.endFrame else r) :=
    ⟨_, rfl⟩
  have ended : f.lp = s.lp ∧ f.ad = s.ad ∧ (f.sl.link = .idle → r.sl.link = .idle) := by
    rw [hf]
    split
    · exact ⟨by simp [lp], by simp [ad], fun h => absurd h r.endFrame_link⟩
    · exact ⟨lp, ad, id⟩
  rw [← hf]
  clear hf
  obtain ⟨lp', ad', idle⟩ := ended
  obtain ⟨g, hg⟩ :
    ∃ g, g = (if f.sl.link = .spacing ∧ old.sl.link = .spacing ∧ f.sl.left = 0 then f.endSpacing else f) :=
    ⟨_, rfl⟩
  have free : g.lp = s.lp ∧ g.ad = s.ad ∧ (g.sl.link = .idle → r.sl.link = .idle ∨ old.sl.link = .spacing) := by
    rw [hg]
    split
    · next spacing => exact ⟨lp', ad', fun _ => .inr spacing.2.1⟩
    · exact ⟨lp', ad', fun h => .inl (idle h)⟩
  rw [← hg]
  obtain ⟨lp'', ad'', idle'⟩ := free
  refine ⟨by simp [lp''], (g.select_numbering _).imp (fun kept => kept.trans (State.numbering_of_ad ad''))
    fun ⟨restarted, link⟩ => ⟨by rw [restarted, ad''], ?_⟩⟩
  rcases idle' link with was | was
  · rcases received with same | spacing
    · exact .inl (same ▸ was)
    · rw [spacing] at was
      cases was
  · exact .inr (.inr was)

/-- The expiries of a boundary leave travel and the numbering. -/
theorem State.boundary_marks : s.boundary.lp.travel = s.lp.travel ∧ s.boundary.numbering = s.numbering := by
  have fire : ∀ (x : State) g, (x.fireBoundary g).lp = x.lp ∧ (x.fireBoundary g).numbering = x.numbering :=
    fun x g => by
    unfold State.fireBoundary
    split <;> simp
  have drain : ∀ (x : State) g, (x.drainBoundary g).lp = x.lp ∧ (x.drainBoundary g).numbering = x.numbering :=
    fun x g => by
      unfold State.drainBoundary
      split <;> simp
  obtain ⟨y, hy⟩ : ∃ y, y = allGroups.foldl State.drainBoundary (allGroups.foldl State.fireBoundary s) := ⟨_, rfl⟩
  have pulses : y.lp = s.lp ∧ y.numbering = s.numbering := by
    simp [hy, allGroups, fire, drain]
  have rest : s.boundary = y.pollBoundary.silenceBoundary.stallBoundary.readyBoundary := by rw [hy]; rfl
  have poll : y.pollBoundary.lp = y.lp ∧ y.pollBoundary.ad = y.ad := by
    unfold State.pollBoundary
    split <;> exact ⟨rfl, rfl⟩
  have silence : ∀ x : State, x.silenceBoundary.lp = x.lp ∧ x.silenceBoundary.ad = x.ad := fun x => by
    unfold State.silenceBoundary
    split <;> simp
  have stall : ∀ x : State, x.stallBoundary.lp.travel = x.lp.travel ∧ x.stallBoundary.ad = x.ad := fun x => by
    unfold State.stallBoundary
    split <;> simp
  have ready : ∀ x : State, x.readyBoundary.lp = x.lp ∧ x.readyBoundary.ad = x.ad := fun x => by
    unfold State.readyBoundary
    split <;> simp
  rw [rest, ← pulses.1, ← pulses.2]
  exact ⟨by rw [(ready _).1, (stall _).1, (silence _).1, poll.1],
    State.numbering_of_ad (by rw [(ready _).2, (stall _).2, (silence _).2, poll.2])⟩

@[simp] theorem State.channelEdge_line : s.channelEdge.lp = s.lp ∧ s.channelEdge.ad = s.ad := by
  simp [State.channelEdge, apply_ite State.lp, apply_ite State.ad]

/-- The state at which an edge's work begins: the levels taken, the periods and, at a boundary, the timers counted. -/
def State.edgeBegun (s : State) : State :=
  let x := s.takeSample.divide.countPeriods
  if x.clk.divider == 0 then x.countTimers else x

/-- The work of an edge at the state where it begins, up to the boundary's expiries (R28, R32). -/
def State.edgeWorked (s : State) : State :=
  let x := (if s.positionReady then s.positionEvent else s).recognise
  (if s.clk.divider == 0 then x.genTick else x).channelEdge.linkEdge s

/-- That work with the expiries of the boundary (R28). -/
def State.edgeExpired (s : State) : State := if s.clk.divider == 0 then s.edgeWorked.boundary else s.edgeWorked

/-- An edge in its parts: its beginning, its work with the boundary's expiries, and the host's port. -/
theorem State.tick_eq : s.tick = ((if s.turnsNow then s.edgeBegun.edgeExpired.endTurnaround
    else s.edgeBegun.edgeExpired).followSelect s.lines.csN).closeEdge := by
  have divider : s.edgeBegun.clk.divider = s.takeSample.divide.countPeriods.clk.divider := by
    unfold State.edgeBegun
    dsimp only
    split <;> rfl
  unfold State.edgeExpired State.edgeWorked
  rw [divider]
  rfl

/-- What an edge leaves as it is before its work begins. -/
theorem State.edgeBegun_marks : s.edgeBegun.lp.travel = s.lp.travel ∧ s.edgeBegun.numbering = s.numbering ∧
    s.edgeBegun.sl.link = s.sl.link ∧
    s.edgeBegun.positionReady = (decide (s.lp.acc ≠ 0) && decide (39 ≤ s.clk.sincePosition)) := by
  have sample :
    s.takeSample.lp = s.lp ∧ s.takeSample.ad = s.ad ∧ s.takeSample.sl = s.sl ∧ s.takeSample.clk = s.clk := by
    unfold State.takeSample
    split <;> exact ⟨rfl, rfl, rfl, rfl⟩
  have begun : s.edgeBegun.lp.travel = s.takeSample.lp.travel ∧ s.edgeBegun.numbering = s.takeSample.numbering ∧
      s.edgeBegun.sl.link = s.takeSample.sl.link ∧ s.edgeBegun.lp.acc = s.takeSample.lp.acc ∧
      s.edgeBegun.clk.sincePosition = min 40 (s.takeSample.clk.sincePosition + 1) := by
    unfold State.edgeBegun
    dsimp only
    split <;> exact ⟨rfl, rfl, rfl, rfl, rfl⟩
  obtain ⟨lp, ad, sl, clk⟩ := sample
  obtain ⟨travel, numbering, link, acc, since⟩ := begun
  refine ⟨by rw [travel, lp], numbering.trans (State.numbering_of_ad ad), by rw [link, sl], ?_⟩
  rw [State.positionReady, acc, since, lp, clk]
  congr 1
  exact decide_eq_decide.mpr (by simp only [Config.eventSpacing]; omega)

/-- What an edge's work makes of travel and the numbering. -/
theorem State.edgeWorked_marks :
    s.edgeWorked.lp.travel = (if s.positionReady then s.lp.travel + 1#32 else s.lp.travel) ∧
    (s.edgeWorked.numbering = s.numbering ∨
      s.positionReady = true ∧ s.edgeWorked.numbering = (s.ad.nextId + 1#24, s.ad.epoch) ∨
      s.edgeWorked.numbering = (0#24, s.ad.epoch + 1#4) ∧ (s.sl.link = .idle ∨ s.sl.link = .spacing)) := by
  obtain ⟨p, hp⟩ : ∃ p, p = if s.positionReady then s.positionEvent else s := ⟨_, rfl⟩
  have event : p.lp.travel = (if s.positionReady then s.lp.travel + 1#32 else s.lp.travel) ∧
      (p.numbering = s.numbering ∨ s.positionReady = true ∧ p.numbering = (s.ad.nextId + 1#24, s.ad.epoch)) ∧
      p.ad.epoch = s.ad.epoch ∧ p.sl.link = s.sl.link := by
    obtain ⟨travel, numbering⟩ := s.positionEvent_marks
    rw [hp]
    split
    · next ready =>
      refine ⟨travel, numbering.imp id fun moved => ⟨ready, moved⟩, ?_, s.positionEvent_link⟩
      rcases numbering with kept | moved
      · exact congrArg Prod.snd kept
      · exact congrArg Prod.snd moved
    · exact ⟨rfl, .inl rfl, rfl, rfl⟩
  obtain ⟨c, hc⟩ : ∃ c, c = (if s.clk.divider == 0 then p.recognise.genTick else p.recognise).channelEdge := ⟨_, rfl⟩
  have channel : c.lp.travel = p.lp.travel ∧ c.ad = p.ad ∧ c.sl.link = p.sl.link := by
    rw [hc]
    split <;> simp
  have work : s.edgeWorked = c.linkEdge s := by rw [hc, hp]; rfl
  obtain ⟨lp, numbering⟩ := c.linkEdge_marks s
  rw [work, lp]
  obtain ⟨travel, ad, link⟩ := channel
  obtain ⟨travel', numbering', epoch, link'⟩ := event
  refine ⟨travel.trans travel', ?_⟩
  rw [State.numbering_of_ad ad, ad, epoch, link, link'] at numbering
  rcases numbering with same | ⟨restarted, idle⟩
  · rw [same]
    exact numbering'.imp id .inl
  · exact .inr (.inr ⟨restarted, by tauto⟩)

/-- What an edge makes of travel and the numbering (R21, R22, R65). -/
theorem State.tick_marks : s.tick.lp.travel = s.edgeBegun.edgeWorked.lp.travel ∧
    s.tick.numbering = s.edgeBegun.edgeWorked.numbering := by
  have expired : ∀ x : State, x.edgeExpired.lp.travel = x.edgeWorked.lp.travel ∧
      x.edgeExpired.numbering = x.edgeWorked.numbering := fun x => by
    unfold State.edgeExpired
    split
    · exact x.edgeWorked.boundary_marks
    · exact ⟨rfl, rfl⟩
  have port : s.tick.lp = s.edgeBegun.edgeExpired.lp ∧ s.tick.ad = s.edgeBegun.edgeExpired.ad := by
    rw [State.tick_eq]
    split <;> simp
  rw [port.1, State.numbering_of_ad port.2]
  exact expired _

end

/-- What each command makes of travel and the numbering. -/
theorem exec_marks {s t : State} {c : Instr} (hw : writtenWord s c = none) (h : exec c s = .next t) :
    (t.lp.travel = s.lp.travel ∧ t.numbering = s.numbering) ∨
    (t.lp.travel = s.lp.travel + 1#32 ∧
      (t.numbering = s.numbering ∨ t.numbering = (s.ad.nextId + 1#24, s.ad.epoch))) ∧ (∃ p, c = .positionEvent p) ∨
    (t.lp.travel = s.lp.travel ∧ t.numbering = (0#24, s.ad.epoch + 1#4)) ∧ c = .frameSelection ∨
    (t.lp.travel = 0#32 ∧ t.numbering = (0#24, 0#4)) ∧ c = .pinReset := by
  cases c with
  | pinReset =>
    cases h
    exact .inr (.inr (.inr ⟨⟨rfl, rfl⟩, rfl⟩))
  | positionEvent p =>
    refine of_exec (P := fun u => (u.lp.travel = s.lp.travel ∧ u.numbering = s.numbering) ∨
      (u.lp.travel = s.lp.travel + 1#32 ∧
        (u.numbering = s.numbering ∨ u.numbering = (s.ad.nextId + 1#24, s.ad.epoch))) ∧ _ ∨ _) rfl ?_ h
    split
    · exact .inl ⟨rfl, rfl⟩
    · have marks := (({ s with pins := p } : State).arrive .position).positionEvent_marks
      simp only [State.numbering, State.arrive_frame] at marks
      exact .inr (.inl ⟨marks, p, rfl⟩)
  | frameSelection =>
    refine of_exec (P := fun u => (u.lp.travel = s.lp.travel ∧ u.numbering = s.numbering) ∨ _ ∨
      (u.lp.travel = s.lp.travel ∧ u.numbering = (0#24, s.ad.epoch + 1#4)) ∧ _ ∨ _) rfl ?_ h
    have marks := (s.arrive .selection).select_numbering (s.arrive .selection).sl.earlier
    have travel :
      ((s.arrive .selection).select (s.arrive .selection).sl.earlier).closeEdge.lp.travel = s.lp.travel := by
      simp
    have ad : (s.arrive .selection).ad = s.ad := by simp
    rw [State.numbering_of_ad ad, ad] at marks
    rcases marks with kept | ⟨restarted, -⟩
    · exact .inl ⟨travel, kept⟩
    · exact .inr (.inr (.inl ⟨⟨travel, restarted⟩, rfl⟩))
  | firePulseEnd group =>
    exact .inl (of_exec (P := fun u => u.lp.travel = s.lp.travel ∧ u.numbering = s.numbering) rfl
      ⟨by simp, ((s.arrive .late).setFire_numbering group none).trans (State.numbering_of_ad (by simp))⟩ h)
  | modelDrain group =>
    refine .inl (of_exec (P := fun u => u.lp.travel = s.lp.travel ∧ u.numbering = s.numbering) rfl ⟨?_, ?_⟩ h)
    · simp [apply_ite State.lp]
    · exact (leaves_ite (p := State.numbering) _ ((s.arrive .late).drainModel_numbering group)).trans
        (State.numbering_of_ad (by simp))
  | packetAccept seqNo records =>
    by_cases ok : recordCountOk records = true
    · have answer : exec (.packetAccept seqNo records) s = .next ((s.arrive .accept).acceptPacket seqNo records) :=
        if_pos ok
      exact .inl (of_exec (P := fun u => u.lp.travel = s.lp.travel ∧ u.numbering = s.numbering) answer
        ⟨by simp, State.numbering_of_ad (by simp)⟩ h)
    · rw [show exec (.packetAccept seqNo records) s = .refused .malformedPacket from if_neg ok] at h
      cases h
  | cycleStart =>
    refine .inl (of_exec (P := fun u => u.lp.travel = s.lp.travel ∧ u.numbering = s.numbering) rfl ⟨?_, ?_⟩ h)
    · exact (leaves_ite (p := (·.lp.travel)) _ (by
        rw [State.foldl_leaves (p := (·.lp.travel)) (by simp)]
        simp)).trans (by simp)
    · exact (leaves_ite (p := State.numbering) _ (by
        rw [State.foldl_leaves (p := State.numbering) (fun x g => State.numbering_of_ad (by simp))]
        exact State.numbering_of_ad (by simp))).trans (State.numbering_of_ad (by simp))
  | _ =>
    first
    | cases hw; done
    | exact .inl (of_exec (P := fun u => u.lp.travel = s.lp.travel ∧ u.numbering = s.numbering) rfl
        ⟨by simp [apply_ite State.lp, apply_ite Line.travel],
          State.numbering_of_ad (by simp [apply_ite State.ad])⟩ h)

/-- Settles O57: of the commands, the position event, the frame selection, the resets and an accepted Start; of an edge,
the position event and the selection within it. -/
theorem travelAndIdentityAreKept : Obligations.TravelAndIdentityAreKept := by
  have parts : ∀ {u : State} {n : BitVec 24} {e : BitVec 4}, u.numbering = (n, e) → u.ad.nextId = n ∧ u.ad.epoch = e :=
    fun h => ⟨congrArg Prod.fst h, congrArg Prod.snd h⟩
  refine ⟨fun s t c h => ?_, fun s t taken empty h hk => ?_⟩
  · cases hw : writtenWord s c with
    | none =>
      rcases exec_marks hw h with ⟨travel, kept⟩ | ⟨⟨travel, moved⟩, event⟩ | ⟨⟨travel, restarted⟩, selection⟩ |
        ⟨⟨travel, restarted⟩, reset⟩
      · exact ⟨.inl travel, .inl (parts kept)⟩
      · refine ⟨.inr (.inl ⟨travel, event⟩), ?_⟩
        rcases moved with kept | moved
        · exact .inl (parts kept)
        · exact .inr (.inl ⟨(parts moved).1, (parts moved).2, event⟩)
      · exact ⟨.inl travel, .inr (.inr (.inl ⟨(parts restarted).1, (parts restarted).2, selection⟩))⟩
      · exact ⟨.inr (.inr ⟨travel, .inl reset⟩),
          .inr (.inr (.inr ⟨(parts restarted).1, (parts restarted).2, .inl reset⟩))⟩
    | some w =>
      obtain ⟨a, v⟩ := w
      rw [exec_of_writtenWord hw] at h
      cases h
      rcases s.hostWrite_marks a v with ⟨kept, travel⟩ | ⟨action, ⟨restarted, travel⟩, armed, fires⟩ |
        ⟨command, kept, travel, halted, running, one⟩
      · exact ⟨.inl travel, .inl (parts kept)⟩
      · have word : (actionWord c).any (bit · 4) = true := by
          rw [actionWord_of_writtenWord (action ▸ hw)]
          simpa using fires
        exact ⟨.inr (.inr ⟨travel, .inr (.inl ⟨armed, word⟩)⟩),
          .inr (.inr (.inr ⟨(parts restarted).1, (parts restarted).2, .inr ⟨armed, word⟩⟩))⟩
      · have word : (commandWord c).any (· &&& 0xF#32 == 1#32) = true := by
          rw [commandWord_of_writtenWord (command ▸ hw)]
          simpa using one
        exact ⟨.inr (.inr ⟨travel, .inr (.inr ⟨halted, running, word⟩)⟩), .inl (parts kept)⟩
  · have edge : t = s.tick := by
      unfold step at h
      rw [empty] at h
      cases h
      rfl
    obtain ⟨begun, numbering, link, ready⟩ := s.edgeBegun_marks
    obtain ⟨travel', numbering'⟩ := s.tick_marks
    obtain ⟨worked, moved⟩ := s.edgeBegun.edgeWorked_marks
    rw [← hk] at ready
    rw [← edge] at travel' numbering'
    rw [← numbering', ready, link, numbering] at moved
    rw [← travel', ready, begun] at worked
    refine ⟨worked, ?_⟩
    have id := parts numbering
    rw [id.1, id.2] at moved
    rcases moved with kept | ⟨takes, moved⟩ | ⟨restarted, free⟩
    · exact .inl ⟨(parts kept).2, .inl (parts kept).1⟩
    · exact .inl ⟨(parts moved).2, .inr ⟨takes, (parts moved).1⟩⟩
    · exact .inr ⟨(parts restarted).2, (parts restarted).1, free⟩

end Sys2Proof.Machine
end

section
/-! SUPPORT. A position event, and the rest of what an edge of the clock does, does not look at the place of its row. -/

namespace Sys2Proof.Machine

/-! ### Combinators -/

/-- An operation told by a part of the state that the place of the row leaves alone. -/
theorem Steady.on {α : Type} (r : State → α) {f : α → State → State} (hr : ∀ s p e, r (s.placed p e) = r s)
    (hf : ∀ a, Steady (f a)) : Steady fun s => f (r s) s := fun s p e => by
  dsimp only
  rw [hr]
  exact hf (r s) s p e

theorem Steady.iterate {f : State → State} (hf : Steady f) (n : Nat) : Steady fun s => iterate f n s := by
  induction n with
  | zero => exact Steady.id
  | succ n ih => exact hf.comp ih

/-- A test at an event's step, then the operation. -/
theorem Steady.when {f : State → State} {c : State → Prop} [∀ s, Decidable (c s)]
    (hc : ∀ (s : State) (p : Place) (e : Startable), c (s.placed p e) ↔ c s) (hf : Steady f) :
    Steady fun s => if c s then f s else s := Steady.ite hc hf Steady.id

/-! ### Faults -/

theorem Steady.raiseInEvent (e : Event) : Steady (·.raiseInEvent e) := fun s p x => by
  dsimp only
  rw [State.raiseInEvent_eq, State.raiseInEvent_eq]
  rfl

theorem Steady.enterFault (first : Event) (all : List Event) : Steady (·.enterFault first all) :=
  Steady.comp (f := fun s => ({ s with rc := { s.rc with
        state := .faulted
        faultFirst := Event.num first
        faultCauses := all.foldl (fun w e => w ||| causeBit e) 0#32 } } : State).raise .fault)
    (fun _ _ _ => rfl) Steady.flushRoute

theorem Steady.settleFaults : Steady State.settleFaults :=
  Steady.on (·.rc.deferred) (f := fun l s => match l with
      | [] => s
      | e :: es => ({ s with rc := { s.rc with deferred := [] } } : State).enterFault e (e :: es)) (fun _ _ _ => rfl)
    fun l => match l with
      | [] => Steady.id
      | e :: es => Steady.comp (f := fun s => { s with rc := { s.rc with deferred := [] } }) (fun _ _ _ => rfl)
          (Steady.enterFault e (e :: es))

theorem Steady.raiseFault (e : Event) : Steady (·.raiseFault e) :=
  Steady.ite (c := fun s => s.masked e = true) (fun _ _ _ => Iff.rfl)
    (Steady.on (·.rc.state) (f := fun r s => match r with
      | .running => (s.raise e).enterFault e [e]
      | .draining => (s.raise e).enterFault e [e]
      | .faulted => (s.raise e).addCause e
      | .halted => s.raise e) (fun _ _ _ => rfl) fun r => match r with
      | .running => (Steady.raise e).comp (Steady.enterFault e [e])
      | .draining => (Steady.raise e).comp (Steady.enterFault e [e])
      | .faulted => fun _ _ _ => rfl
      | .halted => Steady.raise e)
    (Steady.raise e)

/-! ### Steps 1 to 3 -/

theorem Steady.incSince : Steady State.incSince :=
  Steady.ite (c := fun s => s.lp.sinceIndex < 8191) (fun _ _ _ => Iff.rfl) (fun _ _ _ => rfl) (fun _ _ _ => rfl)

theorem Steady.phaseError (kind : PhaseKind) (offset : BitVec 16) : Steady (·.phaseError kind offset) :=
  Steady.comp (f := fun s => ({ s with lp := { s.lp with phaseKind := kind, phaseOffset := offset } } : State).bump
    .phaseErrors) (fun _ _ _ => rfl) (Steady.raiseInEvent .phaseError)

theorem Steady.countSince : Steady State.countSince :=
  Steady.incSince.comp (Steady.when (c := fun s => s.lp.sinceIndex = s.cycleLen + s.indexTol) (fun _ _ _ => Iff.rfl)
    (Steady.comp (f := fun s => { s with lp := { s.lp with sinceIndex := 0 } }) (fun _ _ _ => rfl)
      (Steady.phaseError .missing 0#16)))

theorem Steady.realign : Steady State.realign :=
  Steady.comp (f := fun s => { s with lp := { s.lp with cycleIndex := s.expectedIndex } }) (fun _ _ _ => rfl)
    (Steady.when (c := fun s => s.lp.cycleIndex = 0) (fun _ _ _ => Iff.rfl) (fun _ _ _ => rfl))

theorem Steady.checkIndex : Steady State.checkIndex :=
  Steady.comp (f := fun s => { s with lp := { s.lp with indexPending := false, sinceIndex := 0 } }) (fun _ _ _ => rfl)
    (Steady.ite (c := fun s => s.lp.cycleIndex = s.expectedIndex) (fun _ _ _ => Iff.rfl) Steady.id
      (Steady.comp (f := fun s => s.phaseError .mismatch (phaseOffsetOf s.cycleLen s.lp.cycleIndex s.expectedIndex))
        (fun s p e => Steady.phaseError _ _ s p e)
        (Steady.when (c := fun s => s.realigns = true) (fun _ _ _ => Iff.rfl) Steady.realign)))

theorem Steady.stepOne : Steady State.stepOne :=
  Steady.comp (f := fun s => (({ s with lp := { s.lp with travel := s.lp.travel + 1#32 } } : State).bump
    .positionEvents).restartStall) (fun _ _ _ => rfl) Steady.advanceIndex

theorem Steady.stepTwo (start : Bool) : Steady (·.stepTwo start) :=
  Steady.ite (c := fun s => s.sourceInternal = true) (fun _ _ _ => Iff.rfl)
    (Steady.ite (c := fun _ => start = true) (fun _ _ _ => Iff.rfl) (fun _ _ _ => rfl) Steady.incSince)
    (Steady.ite (c := fun s => s.indexUse = true) (fun _ _ _ => Iff.rfl)
      (Steady.ite (c := fun s => s.lp.indexPending = true) (fun _ _ _ => Iff.rfl) Steady.checkIndex Steady.countSince)
      fun _ _ _ => rfl)

theorem Steady.bracketAtIntake (w : Travel) : Steady (·.bracketAtIntake w) :=
  Steady.on (·.cs.bracket) (f := fun b s => match b with
      | some _ => s.bump .bracketBusy
      | none =>
        let m := missedProposals s.lp.travel w s.bracketWidth s.bracketStep
        let run : BracketRun :=
          ⟨w + BitVec.ofNat 32 (m * s.bracketStep), 2 * s.bracketWidth + 1 - m, s.bracketStep⟩
        ({ s with cs := { s.cs with bracket := some run } } : State).bumpBy .bracketSkip m) (fun _ _ _ => rfl)
    fun b => match b with
      | some _ => Steady.bump _
      | none => fun _ _ _ => rfl

theorem Steady.placeEntry (e : RingEntry) : Steady (·.placeEntry e) := by
  obtain ⟨due, marked, window, decided⟩ := e
  unfold State.placeEntry
  cases window with
  | none => exact fun _ _ _ => rfl
  | some w =>
    exact Steady.ite (c := fun s => later s.lp.travel w = true) (fun _ _ _ => Iff.rfl)
      (Steady.comp (f := fun s =>
        { s with cs := { s.cs with ring := insertRing ⟨due, marked, some w, true⟩ s.cs.ring } })
        (fun _ _ _ => rfl) (Steady.bracketAtIntake w))
      fun _ _ _ => rfl

theorem Steady.intake : Steady State.intake :=
  Steady.comp (f := fun s => { s with cs := { s.cs with sensePending := false } }) (fun _ _ _ => rfl)
    (Steady.ite (c := fun s => s.intakeOpen = true) (fun _ _ _ => Iff.rfl)
      (Steady.ite (c := fun s => s.cs.ring.length < Config.ring) (fun _ _ _ => Iff.rfl)
        (Steady.on (fun s => s.newEntry s.pins.mark) (f := fun e s => s.placeEntry e)
          (fun _ _ _ => rfl) Steady.placeEntry)
        ((Steady.bump .sensorOverrun).comp (Steady.raiseInEvent .blindItem)))
      (Steady.bump .sensorIgnored))

theorem Steady.stepThree : Steady State.stepThree :=
  Steady.comp (f := fun s => { s with cs := { s.cs with debounce := min 255 (s.cs.debounce + 1) } }) (fun _ _ _ => rfl)
    (Steady.when (c := fun s => s.cs.sensePending = true) (fun _ _ _ => Iff.rfl) Steady.intake)

/-! ### Steps 4 to 6 -/

theorem Steady.stepFour : Steady State.stepFour :=
  Steady.comp (f := fun s => Machine.iterate State.retireOne s.lg.entries.length s.countPulses)
    (Steady.on (·.lg.entries.length)
      (f := fun n s => Machine.iterate State.retireOne n s.countPulses) (fun _ _ _ => rfl)
      fun n => Steady.comp (f := State.countPulses) (fun _ _ _ => rfl) (Steady.iterate Steady.retireOne n))
    Steady.refreshSilence

theorem Steady.passSlot (i : SlotId) : Steady (·.passSlot i) :=
  Steady.comp
    (Steady.when (c := fun s => s.lp.cycleIndex = s.slotOpening i) (fun _ _ _ => by cases i <;> exact Iff.rfl)
      (Steady.openingArrives i))
    (Steady.when (c := fun s => s.lp.cycleIndex = s.slotAnchor i) (fun _ _ _ => by cases i <;> exact Iff.rfl)
      (Steady.anchorArrives i))

theorem Steady.seqWork (i : SeqId) : Steady (·.seqWork i) :=
  Steady.comp (f := fun s => s.countSeq i) (fun _ _ _ => by cases i <;> rfl)
    (Steady.on (fun s => (s.seq i).state) (f := fun q s => match q with
      | .idle => s
      | .quiescing => s.judgeQuiesce i
      | .signalling => s
      | .recovering => s.judgeRecover i) (fun _ _ _ => by cases i <;> rfl) fun q => match q with
      | .idle => Steady.id
      | .quiescing => Steady.judgeQuiesce i
      | .signalling => Steady.id
      | .recovering => Steady.judgeRecover i)

theorem Steady.periodicResync : Steady State.periodicResync :=
  Steady.when (c := fun s => s.fieldOf .sqSrPeriod 0 16 ≠ 0 ∧ s.lp.cycleIndex = s.seqStart .station ∧
    s.lp.cycleNumber.toNat % s.fieldOf .sqSrPeriod 0 16 = 0) (fun _ _ _ => Iff.rfl) (Steady.setSeqDemand .station true)

theorem Steady.seqStarts : Steady State.seqStarts :=
  Steady.comp (f := fun s => if s.fullStarts then s.startFull else s)
    (Steady.when (c := fun s => s.fullStarts = true) (fun _ _ _ => Iff.rfl) Steady.startFull)
    (Steady.when (c := fun s => s.stationStarts = true) (fun _ _ _ => Iff.rfl) Steady.startStation)

theorem Steady.slotPass : Steady State.slotPass := Steady.foldl Steady.passSlot allSlots

theorem Steady.stepFive : Steady State.stepFive := fun s p e => by
  have work := (Steady.slotPass.comp (Steady.seqWork .station)).comp (Steady.seqWork .full)
  have starts := (work.comp Steady.periodicResync).comp Steady.seqStarts
  exact starts.comp (Steady.foldl Steady.refMark allRefs) s p e

theorem Steady.refStep (start : Bool) (g : RefGen) : Steady (fun s => s.refStep start g) :=
  Steady.ite (c := fun _ => start = true) (fun _ _ _ => Iff.rfl)
    (Steady.ite (c := fun s => (s.ref g).due = true) (fun _ _ _ => by cases g <;> exact Iff.rfl)
      (Steady.on (fun s => Config.referenceTestFirst s.freeCount) (f := fun first s =>
          if first then (({ s with freeCount := s.freeCount + 1 } : State).refTest g).refPropose g
          else (({ s with freeCount := s.freeCount + 1 } : State).refPropose g).refTest g) (fun _ _ _ => rfl)
        fun first => by
          have counted : Steady fun s => { s with freeCount := s.freeCount + 1 } := fun _ _ _ => rfl
          cases first with
          | true => exact (counted.comp (Steady.refTest g)).comp (Steady.refPropose g)
          | false => exact (counted.comp (Steady.refPropose g)).comp (Steady.refTest g))
      (Steady.refTest g))
    (Steady.refPropose g)

theorem Steady.auditSensor : Steady State.auditSensor := fun _ _ _ => rfl

theorem Steady.patternStep : Steady State.patternStep :=
  Steady.when (c := fun s => s.patternEnabled = true) (fun _ _ _ => Iff.rfl)
    (Steady.on (fun s => readTable 0#32 s.pattern s.lp.cycleIndex) (f := fun e s =>
        if bit e 1 then (if bit e 0 then s.propose .pattern else s).auditSensor
        else if bit e 0 then s.propose .pattern else s) (fun _ _ _ => rfl)
      fun e => Steady.comp (Steady.when (c := fun _ => bit e 0 = true) (fun _ _ _ => Iff.rfl) (Steady.propose .pattern))
        (Steady.when (c := fun _ => bit e 1 = true) (fun _ _ _ => Iff.rfl) Steady.auditSensor))

theorem Steady.randomStep : Steady State.randomStep :=
  Steady.when (c := fun s => s.randomEnabled = true) (fun _ _ _ => Iff.rfl)
    (Steady.comp (f := fun s => { s with cs := { s.cs with sample := lfsr s.cs.sample, audit := lfsr s.cs.audit } })
      (fun _ _ _ => rfl)
      (Steady.comp
        (Steady.when (c := fun s => s.cs.sample.toNat < (s.reg .csSampleThresh).toNat) (fun _ _ _ => Iff.rfl)
          (Steady.propose .random))
        (Steady.when (c := fun s => s.cs.audit.toNat < (s.reg .csAuditThresh).toNat) (fun _ _ _ => Iff.rfl)
          Steady.auditSensor)))

theorem Steady.hostStep : Steady State.hostStep :=
  Steady.when (c := fun s => s.cs.captureNow = true) (fun _ _ _ => Iff.rfl) (fun _ _ _ => rfl)

theorem Steady.bracketStarts : Steady State.bracketStarts :=
  Steady.on (·.cs.ring.length) (f := fun n s => Machine.iterate State.bracketStartOne n s) (fun _ _ _ => rfl)
    fun n => Steady.iterate Steady.bracketStartOne n

theorem Steady.stepSix (start : Bool) : Steady (·.stepSix start) :=
  have brackets := (Steady.ringProposal.comp Steady.bracketPropose).comp Steady.bracketStarts
  have first := (brackets.comp (Steady.perTest .p1)).comp (Steady.perPropose .p1)
  have periodic := (first.comp (Steady.perTest .p2)).comp (Steady.perPropose .p2)
  have refs := ((periodic.comp (Steady.refStep start .a)).comp (Steady.refStep start .b)).comp (Steady.refStep start .c)
  ((refs.comp Steady.patternStep).comp Steady.randomStep).comp Steady.hostStep

/-! ### Steps 7 and 8 -/

theorem Steady.setFire (g : Group) (x : Option Nat) : Steady (·.setFire g x) := fun _ _ _ => by cases g <;> rfl

theorem Steady.setModel (g : Group) (x : Model) : Steady (·.setModel g x) := fun _ _ _ => by cases g <;> rfl

theorem Steady.pulseFire (g : Group) : Steady (·.pulseFire g) :=
  Steady.comp (f := fun s => if (s.fire g).isSome then s.bump (.fireOverlap g) else s)
    (Steady.when (c := fun s => (s.fire g).isSome = true) (fun _ _ _ => by cases g <;> exact Iff.rfl)
      (Steady.bump (.fireOverlap g)))
    (Steady.on (·.fireWidth) (f := fun w s => s.setFire g (some w)) (fun _ _ _ => rfl) fun w =>
      Steady.setFire g (some w))

theorem State.placed_model (s : State) (p : Place) (e : Startable) (g : Group) :
    (s.placed p e).model g = s.model g := by
  cases g <;> rfl

theorem Steady.fillModel (g : Group) : Steady (·.fillModel g) :=
  Steady.ite (c := fun s => (s.model g).occ < 63) (fun s p e => by rw [State.placed_model])
    (Steady.on (fun s =>
        let m := s.model g
        let m' : Model :=
          { occ := m.occ + 1, drain := if m.occ = 0 then some (s.drainUs g) else m.drain, hold := m.hold }
        m'.settle (s.modelHigh g) (s.modelLow g))
      (f := fun m s => s.setModel g m) (fun _ _ _ => by cases g <;> rfl) fun m => Steady.setModel g m)
    (Steady.bump .modelSaturate)

theorem Steady.checkReuse (id : Ident) : Steady (·.checkReuse id) :=
  Steady.when (c := fun s =>
    (s.lg.window.any (fun r => r.ident == id) || s.lg.entries.any (fun e => e.ident == some id))
    = true) (fun _ _ _ => Iff.rfl) fun _ _ _ => rfl

theorem Steady.pushTag (m : List Byte) : Steady (·.pushTag m) :=
  Steady.ite (c := fun s => s.sl.tagQ.length < Config.tagQueue) (fun _ _ _ => Iff.rfl) (fun _ _ _ => rfl)
    fun _ _ _ => rfl

theorem Steady.closeBatch (flush : Bool) (n : Nat) : Steady (·.closeBatch flush n) := fun s p e => by
  have routing : (s.placed p e).br = s.br := rfl
  have next : ∀ i, (s.placed p e).nextRoute i = s.nextRoute i := fun _ => rfl
  have veto : ∀ i, (s.placed p e).routeVeto i = s.routeVeto i := fun _ => rfl
  dsimp only
  rw [State.closeBatch_eq, State.closeBatch_eq, routing, next, veto]
  split
  · split
    · exact Steady.closed _ _ _ _ s p e
    · exact Steady.closed _ _ _ _ s p e
  · exact Steady.closed _ _ _ _ s p e

theorem Steady.countIntoBatch (epoch : BitVec 4) : Steady (·.countIntoBatch epoch) :=
  Steady.comp (f := fun s => { s with br := { s.br with openCount := s.br.openCount + 1, openEpoch := epoch } })
    (fun _ _ _ => rfl)
    (Steady.when (c := fun s => s.br.openCount = s.batchSize) (fun _ _ _ => Iff.rfl)
      (Steady.on (·.batchSize) (f := fun n s => s.closeBatch false n) (fun _ _ _ => rfl) (Steady.closeBatch false)))

theorem Steady.takeIn (p : Proposal) : Steady (·.takeIn p) :=
  Steady.on (·.nextIdent) (f := fun id s =>
      let t := (s.useIdent.fireMask p.mask).fillMask p.mask
      let t := (t.checkReuse id).appendEntry (t.newLedgerEntry p (some id))
      let t := t.pushTag (tagPayload p.cls p.item p.audit p.mask id t.pins.lane)
      let t := (t.countIntoBatch id.epoch).bump (.admitted p.cls)
      if p.mask = 0#4 then t.bump .unfiredAdmission else t) (fun _ _ _ => rfl) fun id s q e => by
    have fire : Steady (·.fireMask p.mask) :=
      Steady.foldl (f := fun s g => if inMask p.mask g then s.pulseFire g else s)
      (fun g =>
        Steady.when (c := fun _ => inMask p.mask g = true) (fun _ _ _ => Iff.rfl) (Steady.pulseFire g)) allGroups
    have fill : Steady (·.fillMask p.mask) :=
      Steady.foldl (f := fun s g => if inMask p.mask g then s.fillModel g else s)
      (fun g =>
        Steady.when (c := fun _ => inMask p.mask g = true) (fun _ _ _ => Iff.rfl) (Steady.fillModel g)) allGroups
    have pulsed := (Steady.comp (f := State.useIdent) (fun _ _ _ => rfl) fire).comp fill
    have entered : Steady fun t : State => (t.checkReuse id).appendEntry (t.newLedgerEntry p (some id)) :=
      Steady.on (fun t => t.newLedgerEntry p (some id)) (f := fun e t => (t.checkReuse id).appendEntry e)
        (fun _ _ _ => rfl) fun e => (Steady.checkReuse id).comp (g := fun t => t.appendEntry e) (fun _ _ _ => rfl)
    have tagged : Steady fun t : State => t.pushTag (tagPayload p.cls p.item p.audit p.mask id t.pins.lane) :=
      Steady.on (·.pins.lane)
        (f := fun l t => t.pushTag (tagPayload p.cls p.item p.audit p.mask id l)) (fun _ _ _ => rfl)
        fun l => Steady.pushTag _
    have counted := ((pulsed.comp entered).comp tagged).comp
      ((Steady.countIntoBatch id.epoch).comp (Steady.bump (.admitted p.cls)))
    exact counted.comp (Steady.when (c := fun _ => p.mask = 0#4) (fun _ _ _ => Iff.rfl) (Steady.bump .unfiredAdmission))
      s q e

theorem Steady.holdBack (p : Proposal) : Steady (·.holdBack p) :=
  (Steady.bump (.held p.cls)).comp (Steady.when (c := fun _ => p.item = true) (fun _ _ _ => Iff.rfl)
    (Steady.ite (c := fun s => s.lg.entries.length < Config.ledger)
      (f := fun s => s.appendEntry (s.newLedgerEntry p none))
      (fun _ _ _ => Iff.rfl) (fun _ _ _ => rfl) ((Steady.bump .gateBlind).comp (Steady.raiseInEvent .blindItem))))

theorem Steady.stepSeven : Steady State.stepSeven := fun s q e => by
  have cleared : Steady fun s => ({ s with candidates := [] } : State) := fun _ _ _ => rfl
  have proposal : (s.placed q e).proposal = s.proposal := rfl
  have hold : (s.placed q e).globalHold = s.globalHold := rfl
  unfold State.stepSeven
  rw [proposal, hold]
  cases s.proposal with
  | none => rfl
  | some p =>
    dsimp only
    split
    · exact (cleared.comp (Steady.holdBack p)).comp Steady.refreshSilence s q e
    · exact (cleared.comp (Steady.takeIn p)).comp Steady.refreshSilence s q e

theorem Steady.countAdmission (admitted : Bool) : Steady (·.countAdmission admitted) := fun s p e => by
  dsimp only
  rw [State.countAdmission_eq, State.countAdmission_eq]
  rfl

theorem Steady.evalLedgerHigh : Steady State.evalLedgerHigh := fun s p e => by
  rw [State.evalLedgerHigh_eq, State.evalLedgerHigh_eq]
  rfl

theorem Steady.writeHolds (active : List Bool) (global : Bool) : Steady (·.writeHolds active global) := fun s p e => by
  have noted :
    Steady fun s => ({ s with ad := { s.ad with holdStatus := flagWord active ||| flagAt global 31 } } : State) :=
    fun _ _ _ => rfl
  have counted := noted.comp (Steady.foldl (f := fun (s : State) (x : Bool × Nat) =>
    if x.1 then s.bump (.holdPosition x.2) else s) (fun x => Steady.when (c := fun _ => x.1 = true)
      (fun _ _ _ => Iff.rfl) (Steady.bump _)) active.zipIdx)
  exact counted.comp
    (Steady.when (c := fun _ => global = true) (fun _ _ _ => Iff.rfl) (Steady.bump .heldPositions)) s p e

theorem Steady.stepEight (active : List Bool) (global admitted flush : Bool) :
    Steady (·.stepEight active global admitted flush) := fun s p e => by
  have judged := ((Steady.countAdmission admitted).comp Steady.evalLedgerHigh).comp (Steady.writeHolds active global)
  have flushed := judged.comp (Steady.when (c := fun _ => flush = true) (fun _ _ _ => Iff.rfl) Steady.flushRoute)
  exact (flushed.comp Steady.settleFaults).comp Steady.drainedTest s p e

theorem Steady.stepsFromThree (start : Bool) : Steady (·.stepsFromThree start) := fun s p e => by
  have six := ((Steady.stepThree.comp Steady.stepFour).comp Steady.stepFive).comp (Steady.stepSix start)
  have rest : Steady fun s => s.stepSeven.stepEight s.activeHolds s.globalHold (s.proposal.isSome && !s.globalHold)
      s.flushDue :=
    Steady.on (fun s => (s.activeHolds, s.globalHold, s.proposal.isSome && !s.globalHold, s.flushDue))
      (f := fun x s => s.stepSeven.stepEight x.1 x.2.1 x.2.2.1 x.2.2.2) (fun _ _ _ => rfl)
      fun x => Steady.stepSeven.comp (Steady.stepEight x.1 x.2.1 x.2.2.1 x.2.2.2)
  exact six.comp rest s p e

theorem Steady.positionEvent : Steady State.positionEvent := fun s p e => by
  have begun : Steady fun s => ({ s with
      lp := { s.lp with acc := s.lp.acc - 1 }
      clk := { s.clk with sincePosition := 0 } } : State).stepOne :=
    Steady.comp (f := fun s => { s with
      lp := { s.lp with acc := s.lp.acc - 1 }
      clk := { s.clk with sincePosition := 0 } }) (fun _ _ _ => rfl) Steady.stepOne
  have wrapped : ∀ w : Bool, Steady fun s => s.stepsFromThree (w || s.lp.cycleIndex == 0) := fun w =>
    Steady.on (fun s => w || s.lp.cycleIndex == 0) (f := fun x s => s.stepsFromThree x) (fun _ _ _ => rfl)
      Steady.stepsFromThree
  exact (begun.comp (Steady.stepTwo s.wraps)).comp (wrapped s.wraps) s p e

end Sys2Proof.Machine
end

section
/-! SUPPORT. The inputs, the channel, the link and the expiries of an edge do not look at the place of their rows. -/

namespace Sys2Proof.Machine

/-! ### The inputs (R17, R24, R34) -/

theorem Steady.forwardStep : Steady State.forwardStep :=
  Steady.ite (c := fun s => s.lp.debt = 0) (fun _ _ _ => Iff.rfl)
    (Steady.ite (c := fun s => s.lp.acc < Config.accumulator) (fun _ _ _ => Iff.rfl) (fun _ _ _ => rfl)
      ((Steady.bump .stepOverrun).comp (Steady.raiseFault .lineAnomaly)))
    (Steady.ite (c := fun s => s.lp.debt = 1) (fun _ _ _ => Iff.rfl) (fun _ _ _ => rfl) (fun _ _ _ => rfl))

theorem Steady.reverseStep : Steady State.reverseStep :=
  Steady.ite (c := fun s => s.lp.debt < 65534) (fun _ _ _ => Iff.rfl) (fun _ _ _ => rfl)
    (Steady.when (c := fun s => s.lp.debt = 65534) (fun _ _ _ => Iff.rfl)
      (Steady.comp (f := fun s => { s with lp := { s.lp with debt := 65535, reverseSat := true } }) (fun _ _ _ => rfl)
        (Steady.raiseFault .lineAnomaly)))

theorem Steady.takeStep (forward : Bool) : Steady (·.takeStep forward) :=
  Steady.ite (c := fun s => s.sourceInternal = true) (fun _ _ _ => Iff.rfl) Steady.id
    (Steady.ite (c := fun _ => forward = true) (fun _ _ _ => Iff.rfl) Steady.forwardStep Steady.reverseStep)

theorem Steady.takeIndexEdge : Steady State.takeIndexEdge :=
  Steady.when (c := fun s => s.sourceInternal = false ∧ s.indexUse = true) (fun _ _ _ => Iff.rfl) fun _ _ _ => rfl

theorem Steady.takeSense : Steady State.takeSense :=
  Steady.ite (c := fun s => s.intakeOpen = true) (fun _ _ _ => Iff.rfl)
    (Steady.ite (c := fun s => s.cs.debounce < s.debounceSpan ∨ s.cs.sensePending = true) (fun _ _ _ => Iff.rfl)
      (Steady.bump .senseBounce) fun _ _ _ => rfl)
    (Steady.bump .sensorIgnored)

/-! ### The channel (R90, R100, R106) -/

theorem Steady.startTx (c : FlowChar) : Steady (·.startTx c) := fun _ _ _ => by cases c <;> rfl

theorem Steady.completeTx : Steady State.completeTx :=
  Steady.on (fun s => (s.vc.tx, s.vc.waiting)) (f := fun x s => match x.1 with
      | none => s
      | some _ =>
        match x.2 with
        | none => { s with vc := { s.vc with tx := none } }
        | some c => ({ s with vc := { s.vc with tx := none, waiting := none } } : State).startTx c) (fun _ _ _ => rfl)
    fun (tx, waiting) => match tx, waiting with
      | none, _ => Steady.id
      | some _, none => fun _ _ _ => rfl
      | some _, some c => Steady.comp (f := fun s => { s with vc := { s.vc with tx := none, waiting := none } })
          (fun _ _ _ => rfl) (Steady.startTx c)

theorem Steady.countResend : Steady State.countResend :=
  Steady.when (c := fun s => s.vc.flowPaused = true) (fun _ _ _ => Iff.rfl)
    (Steady.ite (c := fun s => s.resendK ≤ s.vc.resend + 1) (fun _ _ _ => Iff.rfl)
      (Steady.comp (f := fun s => { s with vc := { s.vc with resend := 0 } }) (fun _ _ _ => rfl)
        (Steady.requestTx .pause))
      fun _ _ _ => rfl)

theorem Steady.receive (c : LineChar) (gap : Bool) : Steady (·.receive c gap) := fun s p e => by
  have taken : (s.placed p e).taken c gap = (s.taken c gap).placed p e := by
    by_cases room : s.vc.fifo.length < 256
    · simp only [State.taken, State.placed, room, if_true]
      rfl
    · by_cases stop : c.stop = true
      · simp only [State.taken, State.placed, room, stop, if_false, if_true]
        rfl
      · simp only [State.taken, State.placed, room, stop, if_false]
        rfl
  dsimp only
  rw [State.receive_eq, State.receive_eq, taken]
  exact Steady.countResend (s.taken c gap) p e

theorem Steady.truncate : Steady State.truncate :=
  Steady.comp (f := fun s => { s with vc := { s.vc with idle := max s.vc.idle (s.gapLimit + 1) } }) (fun _ _ _ => rfl)
    (Steady.discardPacket 2)

theorem Steady.characterEdge (c : LineChar) (idle : Nat) : Steady (·.characterEdge c idle) :=
  Steady.on (·.commandGap idle) (f := fun gap s =>
      (({ s with vc := { s.vc with rx := Receiver.rested c.stop } } : State).receive c gap).parserTake.evalFlow)
    (fun _ _ _ => rfl) fun gap => by
    have rested : Steady fun s => ({ s with vc := { s.vc with rx := Receiver.rested c.stop } } : State) :=
      fun _ _ _ => rfl
    exact ((rested.comp (Steady.receive c gap)).comp Steady.parserTake).comp Steady.evalFlow

/-! ### The link (R124 to R136, R146) -/

theorem Steady.enterSpacing : Steady State.enterSpacing := fun _ _ _ => rfl

theorem Steady.endTransaction : Steady State.endTransaction := fun _ _ _ => rfl

theorem Steady.noteLoss (before after : StationState) : Steady (·.noteLoss before after) := by
  unfold State.noteLoss
  by_cases absent : after = .absent
  · simp only [absent, if_true]
    cases before with
    | unknown => exact Steady.bump _
    | present => exact Steady.raiseFault _
    | suspect => exact Steady.raiseFault _
    | absent => exact Steady.id
    | disabled => exact Steady.id
  · simp only [absent, if_false]
    exact Steady.id

theorem Steady.chargeMiss : Steady State.chargeMiss :=
  Steady.on (fun s => (s.polledIndex, s.station s.polledIndex, s.retry)) (f := fun (i, x, n) s =>
      (((s.setStation i { x with
          state := missState n (min 15 (x.misses + 1)) x.state
          misses := min 15 (x.misses + 1) }).bump .misses).noteLoss
        x.state (missState n (min 15 (x.misses + 1)) x.state))) (fun _ _ _ => rfl)
    fun (i, x, n) => Steady.comp (f := fun s => (s.setStation i { x with
          state := missState n (min 15 (x.misses + 1)) x.state, misses := min 15 (x.misses + 1) }).bump .misses)
        (fun _ _ _ => rfl) (Steady.noteLoss _ _)

theorem Steady.endWithMiss (reason : Nat) : Steady (·.endWithMiss reason) :=
  Steady.comp (f := fun s => if s.sl.discard then s else (s.setMissReason reason).chargeMiss)
    (Steady.ite (c := fun s => s.sl.discard = true) (fun _ _ _ => Iff.rfl) Steady.id
      (Steady.comp (f := fun s => s.setMissReason reason) (fun _ _ _ => rfl) Steady.chargeMiss))
    Steady.endTransaction

theorem Steady.creditReply (payload : Byte) : Steady (·.creditReply payload) := fun s p e => by
  have station : (s.placed p e).station (s.placed p e).polledIndex = s.station s.polledIndex := rfl
  simp only [State.creditReply, station]
  split <;> rfl

theorem Steady.judgeReply (h a b c : LineChar) : Steady (·.judgeReply h a b c) :=
  Steady.ite (c := fun s => s.sl.discard = true) (fun _ _ _ => Iff.rfl) Steady.endTransaction
    (Steady.on (fun s => replyFault s.sl.polled s.sl.pollSent h a b c) (f := fun r s => match r with
        | none => (s.creditReply a.data).endTransaction
        | some r => (if r = 4 then s.bump .linkCollision else s).endWithMiss r) (fun _ _ _ => rfl)
      fun r => match r with
        | none => (Steady.creditReply a.data).comp Steady.endTransaction
        | some r => Steady.comp (f := fun s => if r = 4 then s.bump .linkCollision else s)
            (Steady.when (c := fun _ => r = 4) (fun _ _ _ => Iff.rfl) (Steady.bump .linkCollision))
            (Steady.endWithMiss r))

theorem Steady.replyTake (c : LineChar) : Steady (·.replyTake c) :=
  Steady.on (·.sl.reply) (f := fun l s => match l with
      | h :: a :: b :: _ => s.judgeReply h a b c
      | l => { s with sl := { s.sl with reply := l ++ [c], left := 11 * s.sl.bitTime } }) (fun _ _ _ => rfl)
    fun l => match l with
      | h :: a :: b :: _ => Steady.judgeReply h a b c
      | [] => fun _ _ _ => rfl
      | [_] => fun _ _ _ => rfl
      | [_, _] => fun _ _ _ => rfl

theorem Steady.linkTake (c : LineChar) : Steady (·.linkTake c) :=
  Steady.on (·.sl.link) (f := fun l s => match l with
      | .sending => s
      | .reply => s.replyTake c
      | .idle => s.unsolicited
      | .spacing => s.unsolicited) (fun _ _ _ => rfl)
    fun l => match l with
      | .sending => Steady.id
      | .reply => Steady.replyTake c
      | .idle => fun _ _ _ => rfl
      | .spacing => fun _ _ _ => rfl

theorem Steady.linkCharacter (c : LineChar) : Steady (·.linkCharacter c) :=
  Steady.ite (c := fun s => s.sl.link = .sending) (fun _ _ _ => Iff.rfl) Steady.id
    (Steady.comp (f := fun s => { s with sl := { s.sl with rx := Receiver.rested c.stop } }) (fun _ _ _ => rfl)
      (Steady.linkTake c))

theorem Steady.endFrame : Steady State.endFrame := fun s p e => by
  have sending : (s.placed p e).sendingPoll = s.sendingPoll := rfl
  rw [State.endFrame_eq, State.endFrame_eq, sending]
  cases s.sendingPoll <;> rfl

theorem Steady.endSpacing : Steady State.endSpacing := fun _ _ _ => rfl

theorem Steady.startFrame (f : Frame) : Steady (·.startFrame f) := fun s p e => by
  have begun : (s.placed p e).frameBegun f = (s.frameBegun f).placed p e := rfl
  dsimp only
  rw [State.startFrame_eq, State.startFrame_eq, begun]
  exact Steady.drainedTest (s.frameBegun f) p e

theorem Steady.prepare (g : RefGen) : Steady (·.prepare g) :=
  Steady.when (c := fun s => (s.ref g).state = .requested) (fun _ _ _ => by cases g <;> exact Iff.rfl)
    (Steady.ite (c := fun s => (s.ref g).cancelled = true ∨ s.seqActive = true)
      (fun _ _ _ => by cases g <;> exact Iff.rfl) (fun _ _ _ => by cases g <;> rfl) fun _ _ _ => by cases g <;> rfl)

theorem Steady.startMark : Steady State.startMark :=
  Steady.on (·.rc.countRestart) (f := fun restart s =>
      let t := if restart then s.restartCount else s
      t.startFrame (t.markFrame restart)) (fun _ _ _ => rfl) fun restart =>
    Steady.comp (f := fun s => if restart then s.restartCount else s)
      (Steady.when (c := fun _ => restart = true) (fun _ _ _ => Iff.rfl) fun _ _ _ => rfl)
      (Steady.on (·.markFrame restart) (f := fun f s => s.startFrame f) (fun _ _ _ => rfl) Steady.startFrame)

theorem Steady.clearModels (mask : BitVec 4) : Steady (·.clearModels mask) :=
  Steady.foldl (f := fun s g => if inMask mask g then s.clearModel g else s) (fun g =>
    Steady.when (c := fun _ => inMask mask g = true) (fun _ _ _ => Iff.rfl) (Steady.setModel g Model.empty)) allGroups

theorem Steady.recoverFrom (i : SeqId) : Steady (·.recoverFrom i) :=
  Steady.when (c := fun s => (s.seq i).state = .signalling) (fun _ _ _ => by cases i <;> exact Iff.rfl)
    (Steady.enterSeq i .recovering)

theorem Steady.startFullReset : Steady State.startFullReset := fun s p e => by
  have restarted := Steady.comp (f := State.restartCount) (fun _ _ _ => rfl) (Steady.clearModels 0xF#4)
  have recovered := (restarted.comp (g := fun s => { s with lg := { s.lg with window := [] } }) fun _ _ _ => rfl).comp
    (Steady.recoverFrom .full)
  exact recovered.comp (Steady.on (·.ad.epoch) (f := fun n s => s.startFrame
    { kind := 2#4, addr := 0#4, payload := [0#4 ++ n, 0#8] }) (fun _ _ _ => rfl) fun _ => Steady.startFrame _) s p e

theorem Steady.startStationReset : Steady State.startStationReset := fun s p e => by
  have counted : Steady fun s => ({ s with sq := { s.sq with srCount := s.sq.srCount + 1#16 } } : State) :=
    fun _ _ _ => rfl
  have cleared := counted.comp (Steady.on (·.srGroups) (f := fun m s => s.clearModels m) (fun _ _ _ => rfl)
    Steady.clearModels)
  exact (cleared.comp (Steady.recoverFrom .station)).comp
    (Steady.on (fun s => (s.srGroups, s.sq.srCount)) (f := fun x s => s.startFrame
      { kind := 3#4, addr := 0#4, payload := [0#4 ++ x.1, x.2.extractLsb' 0 8] }) (fun _ _ _ => rfl)
      fun _ => Steady.startFrame _) s p e

theorem Steady.startPrepare (g : RefGen) : Steady (·.startPrepare g) :=
  (Steady.prepare g).comp (Steady.on (·.refCode g) (f := fun c s =>
    s.startFrame { kind := 4#4, addr := 0#4, payload := [BitVec.ofNat 8 (refBit g + 1), c] })
    (fun _ _ _ => by cases g <;> rfl) fun _ => Steady.startFrame _)

theorem Steady.startUser : Steady State.startUser :=
  Steady.comp (f := fun s => { s with sl := { s.sl with userRequest := false } }) (fun _ _ _ => rfl)
    (Steady.on (·.reg .slUserWord) (f := fun w s => s.startFrame
      { kind := 5#4, addr := w.extractLsb' 16 4, payload := [w.extractLsb' 8 8, w.extractLsb' 0 8] }) (fun _ _ _ => rfl)
      fun _ => Steady.startFrame _)

theorem Steady.startSlot (i : SlotId) : Steady (·.startSlot i) := by
  have sent : Steady (·.sendSlot i) := fun _ _ _ => by cases i <;> rfl
  cases i with
  | cycleMark => exact sent.comp Steady.startMark
  | fullReset => exact sent.comp Steady.startFullReset
  | stationReset => exact sent.comp Steady.startStationReset
  | user => exact sent.comp Steady.startUser
  | refA => exact sent.comp (Steady.startPrepare .a)
  | refB => exact sent.comp (Steady.startPrepare .b)
  | refC => exact sent.comp (Steady.startPrepare .c)

theorem Steady.takePoll : Steady State.takePoll :=
  Steady.comp (f := fun s => { s with sl := { s.sl with pollDue := false } }) (fun _ _ _ => rfl)
    (Steady.on (fun s => (s.pollSearch, s.sl.pollSeq)) (f := fun x s => match x.1 with
        | none => { s with sl := { s.sl with turn := (s.sl.turn + 1) % 16, pollTimer := some s.pollUs } }
        | some (a, turn) => (({ s with sl := { s.sl with
            lastPolled := a
            turn := turn
            polled := a
            pollSent := x.2
            pollSeq := x.2 + 1#8
            discard := false
            reply := [] } } : State).bump .polls).startFrame
          { kind := 9#4, addr := BitVec.ofNat 4 a, payload := [x.2, 0#8] }) (fun _ _ _ => rfl)
      fun (found, n) => match found with
        | none => fun _ _ _ => rfl
        | some (a, turn) => Steady.comp (f := fun s => ({ s with sl := { s.sl with
            lastPolled := a
            turn := turn
            polled := a
            pollSent := n
            pollSeq := n + 1#8
            discard := false
            reply := [] } } : State).bump .polls) (fun _ _ _ => rfl) (Steady.startFrame _))

/-- The head of a queue that was startable goes out as a frame; otherwise what comes after the queue is done (R146). -/
theorem Steady.headOr {g : List (List Byte) → State → State} (hg : ∀ q, Steady (g q)) (q : List (List Byte))
    (ready : Bool)
    (kind : BitVec 4) {h : State → State} (hh : Steady h) : Steady fun s => match q, ready with
      | m :: rest, true => (g rest s).startFrame { kind := kind, addr := 0#4, payload := m }
      | _, _ => h s := by
  cases q with
  | nil => exact hh
  | cons m rest =>
    cases ready with
    | true => exact (hg rest).comp (Steady.startFrame _)
    | false => exact hh

theorem Steady.startFree (old : Startable) : Steady (·.startFree old) :=
  Steady.on (fun s => (s.sl.routeQ, s.sl.tagQ, s.sl.noticeQ)) (f := fun x s =>
      match x.1, old.route with
      | m :: rest, true =>
        ({ s with sl := { s.sl with routeQ := rest } } : State).startFrame { kind := 6#4, addr := 0#4, payload := m }
      | _, _ =>
        match x.2.1, old.tag with
        | m :: rest, true =>
          ({ s with sl := { s.sl with tagQ := rest } } : State).startFrame { kind := 7#4, addr := 0#4, payload := m }
        | _, _ =>
          match x.2.2, old.notice with
          | m :: rest, true =>
            ({ s with sl := { s.sl with noticeQ := rest } } : State).startFrame
              { kind := 8#4, addr := 0#4, payload := m }
          | _, _ => if s.sl.pollDue then s.takePoll else s) (fun _ _ _ => rfl) fun (r, t, n) => by
    have poll : Steady fun s => if s.sl.pollDue then s.takePoll else s :=
      Steady.when (c := fun s => s.sl.pollDue = true) (fun _ _ _ => Iff.rfl) Steady.takePoll
    have notice :=
      Steady.headOr (g := fun rest s => { s with sl := { s.sl with noticeQ := rest } }) (fun _ _ _ _ => rfl)
      n old.notice 8#4 poll
    have tag := Steady.headOr (g := fun rest s => { s with sl := { s.sl with tagQ := rest } }) (fun _ _ _ _ => rfl)
      t old.tag 7#4 notice
    exact Steady.headOr (g := fun rest s => { s with sl := { s.sl with routeQ := rest } }) (fun _ _ _ _ => rfl)
      r old.route 6#4 tag

theorem Steady.select (old : Startable) : Steady (·.select old) :=
  Steady.when (c := fun s => s.sl.link = .idle ∧ s.linkEnabled = true) (fun _ _ _ => Iff.rfl)
    (Steady.on (fun s => allSlots.find? (s.startable old)) (f := fun x s => match x with
        | some i => s.startSlot i
        | none => if allSlots.any s.guards then s else s.startFree old)
      (fun s p e => by
        have each : (s.placed p e).startable old = s.startable old := funext fun i => by cases i <;> rfl
        rw [each])
      fun x => match x with
        | some i => Steady.startSlot i
        | none => Steady.ite (c := fun s => allSlots.any s.guards = true)
            (fun s p e => by
              have each : (s.placed p e).guards = s.guards := funext fun i => by cases i <;> rfl
              rw [each]) Steady.id (Steady.startFree old))

/-! ### The expiries (R6, R28) -/

theorem Steady.drainModel (g : Group) : Steady (·.drainModel g) :=
  Steady.on (fun s =>
      let m := s.model g
      let m' : Model := { occ := m.occ - 1, drain := if m.occ ≤ 1 then none else some (s.drainUs g), hold := m.hold }
      m'.settle (s.modelHigh g) (s.modelLow g))
    (f := fun m s => s.setModel g m) (fun _ _ _ => by cases g <;> rfl) fun m => Steady.setModel g m

theorem Steady.expirePoll : Steady State.expirePoll := fun _ _ _ => rfl

theorem Steady.expireSilence : Steady State.expireSilence :=
  Steady.comp (f := fun s => { s with vc := { s.vc with silent := true, silence := none } }) (fun _ _ _ => rfl)
    (Steady.raiseFault .verdictSilent)

theorem Steady.expireStall : Steady State.expireStall :=
  Steady.comp (f := fun s => { s with lp := { s.lp with lineMoving := false, stallTimer := none } }) (fun _ _ _ => rfl)
    (Steady.raiseFault .lineAnomaly)

theorem Steady.endReadiness : Steady State.endReadiness := fun _ _ _ => rfl

end Sys2Proof.Machine
end

section
/-! SUPPORT. An edge of the clock as the rows whose time has come, in their order (R28, R32, R93, R146). -/

namespace Sys2Proof.Machine

/-! ### States that differ by the place of their row alone -/

/-- The states are one but for the place of the row and what stood startable before it. -/
def State.Alike (s t : State) : Prop := ∀ (p : Place) (e : Startable), s.placed p e = t.placed p e

theorem State.Alike.refl (s : State) : s.Alike s := fun _ _ => rfl

theorem State.Alike.of_eq {s t : State} (h : s = t) : s.Alike t := h ▸ .refl s

theorem State.Alike.trans {s t u : State} (h : s.Alike t) (h' : t.Alike u) : s.Alike u :=
  fun p e => (h p e).trans (h' p e)

theorem State.placed_alike (s : State) (p : Place) (e : Startable) : (s.placed p e).Alike s := fun _ _ => rfl

theorem State.arrive_alike (s : State) (p : Place) : (s.arrive p).Alike s := by
  rw [State.arrive_eq_placed]
  exact s.placed_alike _ _

/-- What does not look at the place is the same of alike states. -/
theorem State.Alike.same {α : Type} {s t : State} (h : s.Alike t) (q : State → α)
    (hq : ∀ s p e, q (State.placed s p e) = q s) : q s = q t := by
  have both := congrArg q (h .late s.sl.earlier)
  rwa [hq, hq] at both

theorem Steady.alike {f : State → State} (hf : Steady f) {s t : State} (h : s.Alike t) : (f s).Alike (f t) :=
    fun p e => by
  rw [← hf, ← hf, h p e]

/-- A row performed where its time has come, on a state alike: what its operation makes of it. -/
theorem State.Alike.doing {s t : State} {c : Instr} {f : State → State} {p : Place} (h : s.Alike t) (hf : Steady f)
    (row : exec c s = .next (f (s.arrive p))) (due : Bool) : (s.doing due c).Alike (if due then f t else t) := by
  unfold State.doing
  rw [row]
  cases due with
  | false => exact h
  | true => exact hf.alike ((s.arrive_alike p).trans h)

/-! ### The parts of an edge -/

section
variable {s t : State}

/-- The position event of an edge is its row (R21). -/
theorem State.Alike.positionEvent (h : s.Alike t) (ready : Bool)
    (waits : ready = true → s.lp.acc ≠ 0) :
    (s.doing ready (.positionEvent s.pins)).Alike (if ready then t.positionEvent else t) := by
  cases ready with
  | false => exact h
  | true =>
    have row : exec (.positionEvent s.pins) s = .next (s.arrive .position).positionEvent :=
      congrArg Host.Outcome.next (if_neg (waits rfl))
    unfold State.doing
    rw [row]
    exact Steady.positionEvent.alike ((s.arrive_alike .position).trans h)

theorem Steady.keepSample : Steady State.keepSample := fun _ _ _ => rfl

/-- The inputs recognised at an edge are their rows (R17, R24, R34). -/
theorem State.Alike.recognise (h : s.Alike t) {c : State}
    (hc : c =
      ((s.keepSample.doing (s.sampled.encStep == some false && s.lines.encStep) (.encoderStep s.lines.encDir)).doing
      (s.sampled.encIndex == some false && s.lines.encIndex) .indexEdge).doing
      (s.sampled.sense == some false && s.lines.sense) .senseEdge) : c.Alike t.recognise := by
  have seen : s.sampled = t.sampled := h.same (·.sampled) fun _ _ _ => rfl
  have lines : s.lines = t.lines := h.same (·.lines) fun _ _ _ => rfl
  have steps := (Steady.keepSample.alike h).doing (c := .encoderStep s.lines.encDir) (p := .encoder)
    (Steady.takeStep s.lines.encDir) rfl (s.sampled.encStep == some false && s.lines.encStep)
  have indices := steps.doing (c := .indexEdge) (p := .index) Steady.takeIndexEdge rfl
    (s.sampled.encIndex == some false && s.lines.encIndex)
  have senses := indices.doing (c := .senseEdge) (p := .sense) Steady.takeSense rfl
    (s.sampled.sense == some false && s.lines.sense)
  rw [← hc, seen, lines] at senses
  refine senses.trans (.of_eq ?_)
  obtain ⟨x, hx⟩ : ∃ x, x = if risen t.sampled.encStep t.lines.encStep then t.keepSample.takeStep t.lines.encDir
    else t.keepSample := ⟨_, rfl⟩
  obtain ⟨y, hy⟩ : ∃ y, y = if risen t.sampled.encIndex x.lines.encIndex then x.takeIndexEdge else x := ⟨_, rfl⟩
  have whole : t.recognise = if risen t.sampled.sense y.lines.sense then y.takeSense else y := by rw [hy, hx]; rfl
  have first : x.lines = t.lines := hx ▸ leaves_ite (p := (·.lines)) _ (by simp)
  have second : y.lines = t.lines := hy ▸ (leaves_ite (p := (·.lines)) _ (by simp)).trans first
  rw [whole, second, hy, first, hx]
  rfl

/-- The row GENERATOR_STEP, wherever it stands. -/
def State.generatorRow (s : State) : State :=
  if s.lp.genTimer.isSome then ({ s with lp := { s.lp with genTimer := some 0 } } : State).forwardStep else s

theorem Steady.generatorRow : Steady State.generatorRow :=
  Steady.when (c := fun s => s.lp.genTimer.isSome = true) (fun _ _ _ => Iff.rfl)
    (Steady.comp (f := fun s => { s with lp := { s.lp with genTimer := some 0 } })
      (fun _ _ _ => rfl) Steady.forwardStep)

/-- The generator's step at a boundary is its row (R18). -/
theorem State.Alike.genTick (h : s.Alike t) (boundary : Bool) : ((if boundary then
      { s with lp := { s.lp with genTimer := s.lp.genTimer.map (· + 1) } } else s).doing
      (boundary && s.lp.genTimer.any fun n => decide (s.genPeriod ≤ n + 1)) .generatorStep).Alike
    (if boundary then t.genTick else t) := by
  cases boundary with
  | false => exact h
  | true =>
    have timer : s.lp.genTimer = t.lp.genTimer := h.same (·.lp.genTimer) fun _ _ _ => rfl
    have period : s.genPeriod = t.genPeriod := h.same State.genPeriod fun _ _ _ => rfl
    have counted : Steady fun x => ({ x with lp := { x.lp with genTimer := x.lp.genTimer.map (· + 1) } } : State) :=
      fun _ _ _ => rfl
    have steps := (counted.alike h).doing (c := .generatorStep) (p := .generator) Steady.generatorRow rfl
      (s.lp.genTimer.any fun n => decide (s.genPeriod ≤ n + 1))
    rw [Bool.true_and]
    refine steps.trans (.of_eq ?_)
    rw [timer, period, if_pos rfl, State.genTick]
    cases running : t.lp.genTimer with
    | none =>
      have same : ({ t with lp := { t.lp with genTimer := t.lp.genTimer } } : State) = t := rfl
      rw [running] at same
      exact same
    | some n =>
      by_cases due : t.genPeriod ≤ n + 1
      · simp only [Option.any_some, due, decide_true, if_true]
        rfl
      · simp only [Option.any_some, due, decide_false, if_false]
        rfl

/-- The end of a character on VC_TX is its row (R106). -/
theorem State.Alike.completeTx (h : s.Alike t) :
    (s.doing (s.vc.tx.any fun y => y.left == 0) .vcTxComplete).Alike (if t.txDone then t.completeTx else t) := by
  have done : (s.vc.tx.any fun y => y.left == 0) = t.txDone := by
    rw [h.same (·.vc.tx) fun _ _ _ => rfl, State.txDone]
    cases t.vc.tx <;> rfl
  rw [done]
  exact h.doing (p := .txEnd) Steady.completeTx rfl _

/-- A completion leaves the receiver at rest with the stop bit it sampled, and tells the gap flag of its start (R90). -/
theorem Receiver.edge_completes {r : Receiver} {level gap g : Bool} {b : Nat} {k : LineChar}
    (h : (r.edge level b gap).2 = some (k, g)) :
    (r.edge level b gap).1 = Receiver.rested k.stop ∧ ∃ x, r.char = some x ∧ g = x.gap := by
  cases char : r.char with
  | none =>
    rw [Receiver.edge_of_quiet level gap b char] at h
    cases h
  | some x =>
    rw [Receiver.edge_of_char level gap b char] at h ⊢
    simp only [Reception.sample] at h ⊢
    split at h
    · cases h
    · split at h
      · split at h
        · cases h
        · next late confirmed full =>
          cases h
          simp only [late, confirmed, full, if_false, if_true]
          exact ⟨rfl, x, rfl, rfl⟩
      · split at h <;> cases h

/-- The receiver of the channel at an edge, by whether a character completes (R90). -/
theorem State.vcReceive_eq (t : State) : t.vcReceive =
    match (t.vc.rx.edge t.lines.vcRx t.vcBitTime (t.gapFlag 0)).2 with
    | none => { t with vc := { t.vc with rx := (t.vc.rx.edge t.lines.vcRx t.vcBitTime (t.gapFlag 0)).1 } }
    | some (c, gap) => ({ t with vc := { t.vc with
        rx := (t.vc.rx.edge t.lines.vcRx t.vcBitTime (t.gapFlag 0)).1 } } : State).receive c gap := rfl

/-- The receiver of the link at an edge, by whether a character completes (R125). -/
theorem State.linkReceive_eq (t : State) : t.linkReceive = if t.sl.link = .sending then t else
    match (t.sl.rx.edge t.lines.linkRx t.sl.bitTime false).2 with
    | some (c, _) =>
      ({ t with sl := { t.sl with rx := (t.sl.rx.edge t.lines.linkRx t.sl.bitTime false).1 } } : State).linkTake c
    | none =>
      ({ t with sl := { t.sl with rx := (t.sl.rx.edge t.lines.linkRx t.sl.bitTime false).1 } } : State).replyExpiry :=
        rfl

/-- A character received ends the idle time (R91). -/
theorem State.receive_idle (t : State) (c : LineChar) (gap : Bool) : (t.receive c gap).vc.idle = 0 := by
  have requested : ∀ (x : State) (f : FlowChar), (x.requestTx f).vc.idle = x.vc.idle := fun x f => by
    rw [State.requestTx_eq]
  have taken : (t.taken c gap).vc.idle = 0 := by
    unfold State.taken
    split <;> rfl
  rw [State.receive_eq, ← taken, State.countResend]
  split
  · split
    · rw [requested]
    · rfl
  · rfl

/-- A character that completes at an edge is the row's (R90 to R93). -/
theorem State.characterEdge_of_completion {k : LineChar} {g : Bool}
    (done : (t.vc.rx.edge t.lines.vcRx t.vcBitTime (t.gapFlag 0)).2 = some (k, g)) :
    t.vcReceive.gapCheck.parserTake.evalFlow = t.characterEdge k 0 := by
  obtain ⟨rested, x, char, gap⟩ := Receiver.edge_completes done
  have flag : t.commandGap 0 = g := by
    rw [State.commandGap, char]
    exact gap.symm
  obtain ⟨w, hw⟩ : ∃ w, w = ({ t with vc := { t.vc with rx := Receiver.rested k.stop } } : State).receive k g :=
    ⟨_, rfl⟩
  have received : t.vcReceive = w := by
    rw [State.vcReceive_eq, done, rested, hw]
  have fresh : w.vc.idle = 0 := by
    rw [hw, State.receive_idle]
  have watched : w.gapCheck = w := if_neg fun ⟨_, beyond⟩ => by
    rw [fresh] at beyond
    exact absurd beyond (Nat.not_lt_zero _)
  rw [received, watched, State.characterEdge, flag, hw]

/-- A line that has been silent for too long drops its packet as the row does (R100). -/
theorem State.gapCheck_eq (w : State) : w.gapCheck =
    if decide (w.gapLimit < w.vc.idle) = true then (if w.gapWatched = true then w.truncate else w) else w := by
  unfold State.gapCheck
  by_cases beyond : w.gapLimit < w.vc.idle
  · by_cases watched : w.gapWatched = true
    · have same : max w.vc.idle (w.gapLimit + 1) = w.vc.idle := by omega
      simp only [beyond, watched, and_self, if_true, decide_true, State.truncate, same]
    · simp only [beyond, watched, Bool.false_eq_true, false_and, if_false, decide_true, if_true]
  · simp only [beyond, and_false, if_false, decide_false, Bool.false_eq_true]

/-- The channel's work at an edge is the row of the character that completes, or the discard of a packet on a silent
line and then the row of the parser (R90 to R93, R100). -/
theorem State.Alike.channel (h : s.Alike t) {u e : State} {silent : Bool}
    (hsilent : silent = decide (s.gapLimit < s.vc.idle))
    (hu : u =
      ({ s with vc := { s.vc with rx := (s.vc.rx.edge s.lines.vcRx s.vcBitTime silent).1 } } : State).doing silent
      .truncatedGap)
    (he : e = match (s.vc.rx.edge s.lines.vcRx s.vcBitTime silent).2 with
      | some (k, _) => s.doing true (.vcCharacter k 0)
      | none => if u.parserReady then u.doing true .parseEntry else u.evalFlow) :
    e.Alike t.vcReceive.gapCheck.parserTake.evalFlow := by
  have rx : s.vc = t.vc := h.same (·.vc) fun _ _ _ => rfl
  have line : s.lines = t.lines := h.same (·.lines) fun _ _ _ => rfl
  have bitTime : s.vcBitTime = t.vcBitTime := h.same State.vcBitTime fun _ _ _ => rfl
  have limit : s.gapLimit = t.gapLimit := h.same State.gapLimit fun _ _ _ => rfl
  have flag : t.gapFlag 0 = silent := by rw [hsilent, rx, limit]; rfl
  have sample : s.vc.rx.edge s.lines.vcRx s.vcBitTime silent = t.vc.rx.edge t.lines.vcRx t.vcBitTime silent := by
    rw [rx, line, bitTime]
  rw [sample] at hu he
  cases done : (t.vc.rx.edge t.lines.vcRx t.vcBitTime silent).2 with
  | some kg =>
    obtain ⟨k, g⟩ := kg
    rw [done] at he
    rw [he, State.characterEdge_of_completion (by rw [flag]; exact done)]
    exact h.doing (p := .parse) (Steady.characterEdge k 0) rfl true
  | none =>
    rw [done] at he
    obtain ⟨w, hw⟩ : ∃ w, w = ({ t with vc := { t.vc with
      rx := (t.vc.rx.edge t.lines.vcRx t.vcBitTime silent).1 } } : State) := ⟨_, rfl⟩
    have received : t.vcReceive = w := by
      rw [State.vcReceive_eq, flag, done, hw]
    have sampled : Steady fun x => ({ x with vc := { x.vc with
        rx := (t.vc.rx.edge t.lines.vcRx t.vcBitTime silent).1 } } : State) := fun _ _ _ => rfl
    have beyond : silent = decide (w.gapLimit < w.vc.idle) := by rw [hsilent, rx, limit, hw]; rfl
    have checked : u.Alike w.gapCheck := by
      rw [hu, State.gapCheck_eq, ← beyond, hw]
      exact (sampled.alike h).doing (c := .truncatedGap) (p := .parse)
        (Steady.when (c := fun x => x.gapWatched = true) (fun _ _ _ => Iff.rfl)
        Steady.truncate) rfl silent
    have ready : u.parserReady = w.gapCheck.parserReady := checked.same State.parserReady fun _ _ _ => rfl
    rw [received, he]
    generalize w.gapCheck = y at *
    rw [ready]
    cases go : y.parserReady with
    | true =>
      have worked := checked.doing (c := .parseEntry) (p := .parse)
        (Steady.when (c := fun x => x.parserReady = true) (fun _ _ _ => Iff.rfl)
          (Steady.parserTake.comp Steady.evalFlow)) rfl true
      rw [if_pos rfl, if_pos go] at worked
      exact worked
    | false =>
      have idle : y.parserTake = y := by
        unfold State.parserTake
        cases on : y.suspended with
        | true => rfl
        | false =>
          cases fifo : y.vc.fifo with
          | nil => rfl
          | cons e rest => simp [State.parserReady, on, fifo] at go
      rw [idle]
      exact Steady.evalFlow.alike checked

/-- The link's receiver at an edge is the row of the character that completes, or of the count that runs out (R125,
R134). -/
theorem State.Alike.linkReceive (h : s.Alike t) {u f : State}
    (hu : u = { s with sl := { s.sl with rx := (s.sl.rx.edge s.lines.linkRx s.sl.bitTime false).1 } })
    (hf : f = if s.sl.link = .sending then s
      else match (s.sl.rx.edge s.lines.linkRx s.sl.bitTime false).2 with
        | some (k, _) => s.doing true (.replyCharacter k)
        | none => (u.doing (s.sl.left == 0 && s.sl.reply == []) .replyTimeout).doing
            (s.sl.left == 0 && s.sl.reply != []) .shortReply) : f.Alike t.linkReceive := by
  have link : s.sl.link = t.sl.link := h.same (·.sl.link) fun _ _ _ => rfl
  have rx : s.sl.rx = t.sl.rx := h.same (·.sl.rx) fun _ _ _ => rfl
  have time : s.sl.bitTime = t.sl.bitTime := h.same (·.sl.bitTime) fun _ _ _ => rfl
  have left : s.sl.left = t.sl.left := h.same (·.sl.left) fun _ _ _ => rfl
  have reply : s.sl.reply = t.sl.reply := h.same (·.sl.reply) fun _ _ _ => rfl
  have line : s.lines = t.lines := h.same (·.lines) fun _ _ _ => rfl
  have sample : s.sl.rx.edge s.lines.linkRx s.sl.bitTime false = t.sl.rx.edge t.lines.linkRx t.sl.bitTime false := by
    rw [rx, line, time]
  rw [link, sample, left, reply] at hf
  rw [sample] at hu
  rw [hf, State.linkReceive_eq]
  split
  · exact h
  · next free =>
    cases done : (t.sl.rx.edge t.lines.linkRx t.sl.bitTime false).2 with
    | some kg =>
      obtain ⟨k, g⟩ := kg
      obtain ⟨rested, -⟩ := Receiver.edge_completes done
      have whole :
        ({ t with sl := { t.sl with rx := (t.sl.rx.edge t.lines.linkRx t.sl.bitTime false).1 } } : State).linkTake
          k = t.linkCharacter k := by
        rw [rested, State.linkCharacter, if_neg free]
      dsimp only
      rw [whole]
      exact h.doing (p := s.characterPlace) (Steady.linkCharacter k) rfl true
    | none =>
      dsimp only
      obtain ⟨v, hv⟩ : ∃ v, v = ({ t with sl := { t.sl with
        rx := (t.sl.rx.edge t.lines.linkRx t.sl.bitTime false).1 } } : State) := ⟨_, rfl⟩
      have begun : u.Alike v := by
        have sampled : Steady fun x => ({ x with sl := { x.sl with
          rx := (t.sl.rx.edge t.lines.linkRx t.sl.bitTime false).1 } } : State) := fun _ _ _ => rfl
        rw [hu, hv]
        exact sampled.alike h
      have left' : v.sl.left = t.sl.left := by rw [hv]
      have reply' : v.sl.reply = t.sl.reply := by rw [hv]
      have timeout : Steady fun x : State => if x.replyAwaited = true ∧ x.sl.reply = [] then x.endWithMiss 1 else x :=
        Steady.when (c := fun x => x.replyAwaited = true ∧ x.sl.reply = [])
          (fun _ _ _ => Iff.rfl) (Steady.endWithMiss 1)
      have short : Steady fun x : State => if x.replyAwaited = true ∧ x.sl.reply ≠ [] then x.endWithMiss 2 else x :=
        Steady.when (c := fun x => x.replyAwaited = true ∧ x.sl.reply ≠ [])
          (fun _ _ _ => Iff.rfl) (Steady.endWithMiss 2)
      have both := (begun.doing (c := .replyTimeout) (p := .linkEnd) timeout rfl
        (t.sl.left == 0 && t.sl.reply == [])).doing (c := .shortReply) (p := .linkEnd) short rfl
        (t.sl.left == 0 && t.sl.reply != [])
      rw [← hv]
      refine both.trans (.of_eq ?_)
      rw [State.replyExpiry, left']
      by_cases ended : t.sl.left = 0
      · cases chars : t.sl.reply with
        | nil => simp [ended, reply', chars]
        | cons x l => simp [ended, reply', chars]
      · simp [ended]

end

end Sys2Proof.Machine
end

section
/-! SUPPORT. An edge of the clock as a whole (R28, R32). -/

namespace Sys2Proof.Machine

section
variable {s t : State}

/-! ### The end of a frame and of Spacing, and the selection (R124, R129, R146) -/

/-- The row FRAME_END, wherever it stands. -/
def State.frameEndRow (s : State) : State := if s.sl.link = .sending then s.endFrame else s

/-- The row SPACING_END, wherever it stands. -/
def State.spacingEndRow (s : State) : State := if s.sl.link = .spacing then s.endSpacing else s

theorem Steady.frameEndRow : Steady State.frameEndRow :=
  Steady.when (c := fun s => s.sl.link = .sending) (fun _ _ _ => Iff.rfl) Steady.endFrame

theorem Steady.spacingEndRow : Steady State.spacingEndRow :=
  Steady.when (c := fun s => s.sl.link = .spacing) (fun _ _ _ => Iff.rfl) Steady.endSpacing

/-- After its receiver the link ends what has run out and selects, by the rows; `old` is the state at the edge's
start. -/
theorem State.Alike.linkEnds (h : s.Alike t.linkReceive) (old : State) :
    (((s.doing (old.sl.link == .sending && s.sl.left == 0) .frameEnd).doing
      (old.sl.link == .spacing && s.sl.left == 0) .spacingEnd).select old.startableNow).Alike (t.linkEdge old) := by
  unfold State.linkEdge
  dsimp only
  generalize t.linkReceive = r at *
  have left : s.sl.left = r.sl.left := h.same (·.sl.left) fun _ _ _ => rfl
  have ends := (h.doing (c := .frameEnd) (p := .linkEnd) Steady.frameEndRow rfl
    (old.sl.link == .sending && s.sl.left == 0)).doing (c := .spacingEnd) (p := .linkEnd) Steady.spacingEndRow rfl
    (old.sl.link == .spacing && s.sl.left == 0)
  refine ((Steady.select old.startableNow).alike ends).trans (.of_eq (congrArg (State.select · old.startableNow) ?_))
  rw [left]
  unfold State.frameEndRow State.spacingEndRow
  cases was : old.sl.link with
  | sending =>
    by_cases sends : r.sl.link = .sending <;> by_cases done : r.sl.left = 0 <;> simp [sends, done]
  | spacing =>
    by_cases spaces : r.sl.link = .spacing <;> by_cases done : r.sl.left = 0 <;> simp [spaces, done]
  | _ => simp

/-! ### The expiries of a boundary (R28) -/

theorem State.Alike.fire (h : s.Alike t) (g : Group) {due : Bool} (hdue : due = (t.fire g == some 0)) :
    (s.doing due (.firePulseEnd g)).Alike (t.fireBoundary g) := by
  have ends := h.doing (c := .firePulseEnd g) (p := .late) (Steady.setFire g none) rfl due
  refine ends.trans (.of_eq ?_)
  rw [hdue, State.fireBoundary]
  simp

theorem State.Alike.drain (h : s.Alike t) (g : Group) {due : Bool} (hdue : due = ((t.model g).drain == some 0)) :
    (s.doing due (.modelDrain g)).Alike (t.drainBoundary g) := by
  have ends :=
    h.doing (c := .modelDrain g) (f := fun s => if (s.model g).drain.isSome then s.drainModel g else s) (p := .late)
    (Steady.when (c := fun s => (s.model g).drain.isSome = true) (fun _ _ _ => by cases g <;> exact Iff.rfl)
      (Steady.drainModel g)) rfl due
  refine ends.trans (.of_eq ?_)
  rw [hdue, State.drainBoundary]
  by_cases due : (t.model g).drain = some 0 <;> simp [due]

theorem State.Alike.poll (h : s.Alike t) {due : Bool} (hdue : due = (t.sl.pollTimer == some 0)) :
    (s.doing due .pollTimerExpiry).Alike t.pollBoundary := by
  have ends :=
    h.doing (c := .pollTimerExpiry) (f := fun s => if s.sl.pollTimer.isSome then s.expirePoll else s) (p := .late)
    (Steady.when (c := fun s => s.sl.pollTimer.isSome = true) (fun _ _ _ => Iff.rfl) Steady.expirePoll) rfl due
  refine ends.trans (.of_eq ?_)
  rw [hdue, State.pollBoundary]
  by_cases due : t.sl.pollTimer = some 0 <;> simp [due]

/-- A limit is reached as a row of the clock's asks it. -/
theorem msReached_eq (ms : Nat) (x : Option Nat) :
    msReached ms x = (ms != 0 && x.any fun n => decide (ms * 1000 ≤ n)) := by
  cases x with
  | none => simp [msReached]
  | some n => by_cases off : ms = 0 <;> simp [msReached, off]

theorem State.Alike.silence (h : s.Alike t) {due : Bool}
    (hdue : due = (t.silenceMs != 0 && t.vc.silence.any fun n => decide (t.silenceMs * 1000 ≤ n))) :
    (s.doing due .silenceExpiry).Alike t.silenceBoundary := by
  have ends :=
    h.doing (c := .silenceExpiry) (f := fun s => if s.vc.silence.isSome then s.expireSilence else s) (p := .late)
    (Steady.when (c := fun s => s.vc.silence.isSome = true) (fun _ _ _ => Iff.rfl) Steady.expireSilence) rfl due
  refine ends.trans (.of_eq ?_)
  rw [hdue, State.silenceBoundary, msReached_eq]
  cases runs : t.vc.silence <;> simp

theorem State.Alike.stall (h : s.Alike t) {due : Bool}
    (hdue : due = (t.stallMs != 0 && t.lp.stallTimer.any fun n => decide (t.stallMs * 1000 ≤ n))) :
    (s.doing due .stallExpiry).Alike t.stallBoundary := by
  have ends :=
    h.doing (c := .stallExpiry) (f := fun s => if s.lp.stallTimer.isSome then s.expireStall else s) (p := .late)
    (Steady.when (c := fun s => s.lp.stallTimer.isSome = true) (fun _ _ _ => Iff.rfl) Steady.expireStall) rfl due
  refine ends.trans (.of_eq ?_)
  rw [hdue, State.stallBoundary, msReached_eq]
  cases runs : t.lp.stallTimer <;> simp

theorem State.Alike.ready (h : s.Alike t) {due : Bool} (hdue : due = (!t.port.ready && t.port.readyLeft == 0)) :
    (s.doing due .readinessEnd).Alike t.readyBoundary := by
  have ends := h.doing (c := .readinessEnd) (p := .late) Steady.endReadiness rfl due
  refine ends.trans (.of_eq ?_)
  rw [hdue, State.readyBoundary]
  simp

/-- A fire line's expiry leaves all but that line (R66). -/
theorem State.fireBoundary_leaves (x : State) (g : Group) : (x.fireBoundary g).model = x.model ∧
    (∀ k, k ≠ g → (x.fireBoundary g).fire k = x.fire k) ∧ (x.fireBoundary g).sl = x.sl ∧ (x.fireBoundary g).vc = x.vc ∧
    (x.fireBoundary g).lp = x.lp ∧ (x.fireBoundary g).regs = x.regs ∧ (x.fireBoundary g).port = x.port ∧
    (x.fireBoundary g).lines = x.lines := by
  unfold State.fireBoundary
  split
  · refine ⟨?_, fun k other => ?_, ?_, ?_, ?_, ?_, ?_, ?_⟩
    · funext k
      cases g <;> rfl
    · cases g <;> cases k <;> first | rfl | exact absurd rfl other
    all_goals cases g <;> rfl
  · exact ⟨rfl, fun _ _ => rfl, rfl, rfl, rfl, rfl, rfl, rfl⟩

/-- A model's drain expiry leaves all but that model (R70). -/
theorem State.drainBoundary_leaves (x : State) (g : Group) :
    (∀ k, k ≠ g → (x.drainBoundary g).model k = x.model k) ∧ (x.drainBoundary g).sl = x.sl ∧
    (x.drainBoundary g).vc = x.vc ∧ (x.drainBoundary g).lp = x.lp ∧ (x.drainBoundary g).regs = x.regs ∧
    (x.drainBoundary g).port = x.port ∧ (x.drainBoundary g).lines = x.lines := by
  unfold State.drainBoundary
  split
  · refine ⟨fun k other => ?_, ?_, ?_, ?_, ?_, ?_, ?_⟩
    · cases g <;> cases k <;> first | rfl | exact absurd rfl other
    all_goals simp
  · exact ⟨fun _ _ => rfl, rfl, rfl, rfl, rfl, rfl, rfl⟩

theorem State.Alike.fires {l : List Group} (distinct : l.Nodup) {due : Group → Bool} {s t : State} (h : s.Alike t)
    (hdue : ∀ g ∈ l, due g = (t.fire g == some 0)) :
    (l.foldl (fun s g => s.doing (due g) (.firePulseEnd g)) s).Alike (l.foldl State.fireBoundary t) := by
  induction l generalizing s t with
  | nil => exact h
  | cons g l ih =>
    obtain ⟨new, rest⟩ := List.nodup_cons.mp distinct
    refine ih rest (h.fire g (hdue g List.mem_cons_self)) fun k mem => ?_
    rw [(t.fireBoundary_leaves g).2.1 k fun same => new (same ▸ mem)]
    exact hdue k (List.mem_cons_of_mem g mem)

theorem State.Alike.drains {l : List Group} (distinct : l.Nodup) {due : Group → Bool} {s t : State} (h : s.Alike t)
    (hdue : ∀ g ∈ l, due g = ((t.model g).drain == some 0)) :
    (l.foldl (fun s g => s.doing (due g) (.modelDrain g)) s).Alike (l.foldl State.drainBoundary t) := by
  induction l generalizing s t with
  | nil => exact h
  | cons g l ih =>
    obtain ⟨new, rest⟩ := List.nodup_cons.mp distinct
    refine ih rest (h.drain g (hdue g List.mem_cons_self)) fun k mem => ?_
    rw [(t.drainBoundary_leaves g).1 k fun same => new (same ▸ mem)]
    exact hdue k (List.mem_cons_of_mem g mem)

/-- The rows of a boundary's expiries, in the order of R28. -/
def State.expiryRows (s : State) : State :=
  (((((((((((s.doing (s.fire .a == some 0) (.firePulseEnd .a)).doing
    (s.fire .b == some 0) (.firePulseEnd .b)).doing
    (s.fire .c == some 0) (.firePulseEnd .c)).doing
    (s.fire .d == some 0) (.firePulseEnd .d)).doing
    ((s.model .a).drain == some 0) (.modelDrain .a)).doing
    ((s.model .b).drain == some 0) (.modelDrain .b)).doing
    ((s.model .c).drain == some 0) (.modelDrain .c)).doing
    ((s.model .d).drain == some 0) (.modelDrain .d)).doing
    (s.sl.pollTimer == some 0) .pollTimerExpiry).doing
    (s.silenceMs != 0 && s.vc.silence.any fun n => decide (s.silenceMs * 1000 ≤ n)) .silenceExpiry).doing
    (s.stallMs != 0 && s.lp.stallTimer.any fun n => decide (s.stallMs * 1000 ≤ n)) .stallExpiry).doing
    (!s.port.ready && s.port.readyLeft == 0) .readinessEnd

/-- The expiries of a boundary are their rows (R28). -/
theorem State.Alike.boundary (h : s.Alike t) : s.expiryRows.Alike t.boundary := by
  have fires : s.fire = t.fire := h.same State.fire fun _ _ _ => funext fun g => by cases g <;> rfl
  have models : s.model = t.model := h.same State.model fun _ _ _ => funext fun g => by cases g <;> rfl
  have poll : s.sl.pollTimer = t.sl.pollTimer := h.same (·.sl.pollTimer) fun _ _ _ => rfl
  have silenceMs : s.silenceMs = t.silenceMs := h.same State.silenceMs fun _ _ _ => rfl
  have silence : s.vc.silence = t.vc.silence := h.same (·.vc.silence) fun _ _ _ => rfl
  have stallMs : s.stallMs = t.stallMs := h.same State.stallMs fun _ _ _ => rfl
  have stall : s.lp.stallTimer = t.lp.stallTimer := h.same (·.lp.stallTimer) fun _ _ _ => rfl
  have port : s.port = t.port := h.same (·.port) fun _ _ _ => rfl
  unfold State.expiryRows
  rw [fires, models, poll, silenceMs, silence, stallMs, stall, port]
  obtain ⟨d, hd⟩ : ∃ d, d = allGroups.foldl State.fireBoundary t := ⟨_, rfl⟩
  have leaves : d.model = t.model ∧ d.sl = t.sl ∧ d.vc = t.vc ∧ d.lp = t.lp ∧ d.regs = t.regs ∧ d.port = t.port := by
    rw [hd]
    refine ⟨?_, ?_, ?_, ?_, ?_, ?_⟩ <;> exact State.foldl_leaves (fun x g => by simp [x.fireBoundary_leaves g]) _ _
  obtain ⟨k, hk⟩ : ∃ k, k = allGroups.foldl State.drainBoundary d := ⟨_, rfl⟩
  have leaves' : k.sl = d.sl ∧ k.vc = d.vc ∧ k.lp = d.lp ∧ k.regs = d.regs ∧ k.port = d.port := by
    rw [hk]
    refine ⟨?_, ?_, ?_, ?_, ?_⟩ <;> exact State.foldl_leaves (fun x g => by simp [x.drainBoundary_leaves g]) _ _
  have whole : t.boundary = k.pollBoundary.silenceBoundary.stallBoundary.readyBoundary := by
    rw [hk, hd]
    rfl
  obtain ⟨model, sl, vc, lp, regs, port'⟩ := leaves
  obtain ⟨sl', vc', lp', regs', port''⟩ := leaves'
  have pulses := State.Alike.fires (l := allGroups) (by decide) h (due := fun g => t.fire g == some 0) fun _ _ => rfl
  rw [← hd] at pulses
  have drained := State.Alike.drains (l := allGroups) (by decide) pulses (due := fun g => (t.model g).drain == some 0)
    fun _ _ => by rw [model]
  rw [← hk] at drained
  rw [whole]
  have same : ∀ {x : State}, x.regs = t.regs → x.silenceMs = t.silenceMs ∧ x.stallMs = t.stallMs := fun regs => by
    simp only [State.silenceMs, State.stallMs, State.fieldOf, State.reg_congr regs, and_self]
  have polled : k.pollBoundary.vc = k.vc ∧ k.pollBoundary.lp = k.lp ∧ k.pollBoundary.regs = k.regs ∧
      k.pollBoundary.port = k.port := by
    unfold State.pollBoundary
    split <;> exact ⟨rfl, rfl, rfl, rfl⟩
  obtain ⟨pvc, plp, pregs, pport⟩ := polled
  have one := drained.poll (due := t.sl.pollTimer == some 0) (by rw [sl', sl])
  generalize k.pollBoundary = p at *
  have sregs : p.regs = t.regs := by rw [pregs, regs', regs]
  have two := one.silence (due := t.silenceMs != 0 && t.vc.silence.any fun n => decide (t.silenceMs * 1000 ≤ n))
    (by rw [(same sregs).1, pvc, vc', vc])
  have silenced : p.silenceBoundary.lp = p.lp ∧ p.silenceBoundary.regs = p.regs ∧ p.silenceBoundary.port = p.port := by
    unfold State.silenceBoundary
    split <;> simp
  obtain ⟨qlp, qregs, qport⟩ := silenced
  generalize p.silenceBoundary = q at *
  have three := two.stall (due := t.stallMs != 0 && t.lp.stallTimer.any fun n => decide (t.stallMs * 1000 ≤ n))
    (by rw [(same (qregs.trans sregs)).2, qlp, plp, lp', lp])
  have stalled : q.stallBoundary.port = q.port := by
    unfold State.stallBoundary
    split <;> simp
  exact three.ready (by rw [stalled, qport, pport, port'', port'])

/-! ### The edge as a whole -/

/-- No work of an edge touches the lines (log 28). -/
theorem State.edgeExpired_lines (s : State) : s.edgeExpired.lines = s.lines := by
  have boundary : ∀ x : State, x.boundary.lines = x.lines := fun x => by
    have poll : ∀ x : State, x.pollBoundary.lines = x.lines := fun x => leaves_ite (p := (·.lines)) _ rfl
    have silence : ∀ x : State, x.silenceBoundary.lines = x.lines := fun x => leaves_ite (p := (·.lines)) _ (by simp)
    have stall : ∀ x : State, x.stallBoundary.lines = x.lines := fun x => leaves_ite (p := (·.lines)) _ (by simp)
    have ready : ∀ x : State, x.readyBoundary.lines = x.lines := fun x => leaves_ite (p := (·.lines)) _ (by simp)
    unfold State.boundary
    dsimp only
    rw [ready, stall, silence, poll,
      State.foldl_leaves (p := (·.lines)) (fun x g => by simp [x.drainBoundary_leaves g]),
      State.foldl_leaves (p := (·.lines)) (fun x g => by simp [x.fireBoundary_leaves g])]
  have channel : ∀ x : State, x.channelEdge.lines = x.lines := fun x => by
    simp [State.channelEdge, apply_ite State.lines]
  have link : ∀ x old : State, (x.linkEdge old).lines = x.lines := fun x old => by
    unfold State.linkEdge
    dsimp only
    have selected : ∀ y : State, (y.select old.startableNow).lines = y.lines := fun y => by simp
    have ended : ∀ y : State, y.endFrame.lines = y.lines := fun y => by simp
    have received : x.linkReceive.lines = x.lines := by simp
    rw [selected]
    refine (leaves_ite (p := (·.lines)) _ ?_).trans ?_
    · rfl
    · exact (leaves_ite (p := (·.lines)) _ (ended _)).trans received
  have recognised : ∀ x : State, x.recognise.lines = x.lines := fun x =>
    x.recognise_leaves (p := (·.lines)) rfl (fun x f => by simp) (fun x => by simp) (fun x => by simp)
  have worked : s.edgeWorked.lines = s.lines := by
    unfold State.edgeWorked
    dsimp only
    rw [link, channel]
    refine (leaves_ite (p := (·.lines)) _ (by simp)).trans ?_
    rw [recognised]
    exact leaves_ite (p := (·.lines)) _ (by simp)
  unfold State.edgeExpired
  exact (leaves_ite (p := (·.lines)) _ (boundary _)).trans worked

/-- The port after an edge (R1, R2), from the state before its end. -/
def State.portFollowed (t : State) (before now turned : Bool) : Port :=
  if before = true ∧ now = false then { t.port with heading := true, txn := none, ignoring := false }
  else if before = false ∧ now = true then { t.port with heading := false, txn := none, ignoring := false }
  else { t.port with txn := t.port.txn.map fun y =>
    if turned = true ∧ y.read = true ∧ y.word = none ∧ 0 < y.left then { y with word := some (t.startWord y.addr) }
    else y }

theorem State.followed_eq (t : State) (before turned : Bool) :
    (if turned then t.endTurnaround else t).followSelect before =
      { t with port := t.portFollowed before t.lines.csN turned } := by
  obtain ⟨x, hx⟩ : ∃ x, x = if turned then t.endTurnaround else t := ⟨_, rfl⟩
  have turn : x = { t with port := { t.port with txn := t.port.txn.map fun y =>
      if turned = true ∧ y.read = true ∧ y.word = none ∧ 0 < y.left then { y with word := some (t.startWord y.addr) }
      else y } } := by
    rw [hx]
    have same : ({ t with port := { t.port with txn := t.port.txn } } : State) = t := rfl
    cases turned with
    | false =>
      cases txn : t.port.txn with
      | none =>
        rw [txn] at same
        exact same.symm
      | some y =>
        rw [txn] at same
        simpa using same.symm
    | true =>
      unfold State.endTurnaround
      cases txn : t.port.txn with
      | none =>
        rw [txn] at same
        exact same.symm
      | some y =>
        rw [txn] at same
        by_cases takes : y.read = true ∧ y.word = none ∧ 0 < y.left
        · simp [takes]
        · simpa [takes] using same.symm
  rw [← hx, State.followSelect, State.portFollowed]
  have lines : x.lines = t.lines := by rw [turn]
  rw [lines]
  split
  · rw [turn]
    rfl
  · split
    · rw [turn]
      rfl
    · exact turn

end

/-- A receiver on an idle line rests (R90). -/
theorem Receiver.edge_of_high {r : Receiver} (quiet : r.char = none) (b : Nat) (gap : Bool) :
    r.edge true b gap = (Receiver.rested true, none) := by
  rw [Receiver.edge_of_quiet _ _ _ quiet]
  simp [Receiver.rested]

/-- What an edge leaves when nothing is ready: the counts of R28 and R91 (log 2). -/
theorem State.tick_of_quiet {s : State} (inputs : s.inputs = []) (lines : s.lines = Lines.quiet)
    (within : s.clk.divider < 24)
    (empty : s.lp.acc = 0) (off : s.linkEnabled = false) (idle : s.sl.link = .idle) (fifo : s.vc.fifo = [])
    (tx : s.vc.tx = none) (flows : s.vc.flowPaused = false) (stall : s.vc.stall = false)
    (hunting : s.vc.parser.phase = .hunting) (vcRx : s.vc.rx.char = none) (slRx : s.sl.rx.char = none) :
      s.tick = { s with
      clk := { divider := s.clk.divider + 1, sincePosition := min 40 (s.clk.sincePosition + 1) }
      sampled := { encStep := some false, encIndex := some false, sense := some false }
      vc := { s.vc with idle := s.vc.idle + 1, rx := Receiver.rested true }
      sl := { s.sl with
        left := s.sl.left - 1, rx := Receiver.rested true, earlier := s.startableNow, place := .late } } := by
  obtain ⟨a, ha⟩ : ∃ a, a = ({ s with
    clk := { divider := s.clk.divider + 1, sincePosition := min 40 (s.clk.sincePosition + 1) }
    vc := { s.vc with idle := s.vc.idle + 1 }
    sl := { s.sl with left := s.sl.left - 1 } } : State) := ⟨_, rfl⟩
  have begun : s.edgeBegun = a := by
    have sample : s.takeSample = s := by rw [State.takeSample, inputs]
    have counted : s.takeSample.divide.countPeriods = a := by
      have next : (s.clk.divider + 1) % 25 = s.clk.divider + 1 := Nat.mod_eq_of_lt (by omega)
      have sending : ({ s.vc with tx := s.vc.tx } : Channel) = s.vc := rfl
      rw [tx] at sending
      rw [sample, State.countPeriods, State.divide, ha]
      simp [Config.microtick, Config.eventSpacing, next, tx]
    unfold State.edgeBegun
    rw [counted]
    exact if_neg (by simp [ha])
  have turn : s.turnsNow = false := by rw [State.turnsNow, inputs]
  obtain ⟨r, hr⟩ :
    ∃ r, r = ({ a with sampled := { encStep := some false, encIndex := some false, sense := some false } } :
    State) := ⟨_, rfl⟩
  have recognised : a.recognise = r := by
    have quiet : a.lines = Lines.quiet := by rw [ha]; exact lines
    have low : ∀ x, risen x false = false := fun x => by simp [risen]
    have step : a.lines.encStep = false := by rw [quiet]; rfl
    have index : a.lines.encIndex = false := by rw [quiet]; rfl
    have sense : a.lines.sense = false := by rw [quiet]; rfl
    have kept : a.keepSample.lines = a.lines := rfl
    unfold State.recognise
    simp only [kept, step, index, sense, low, Bool.false_eq_true, if_false]
    rw [State.keepSample, step, index, sense, hr]
  obtain ⟨v, hv⟩ : ∃ v, v = ({ r with vc := { r.vc with rx := Receiver.rested true } } : State) := ⟨_, rfl⟩
  have high : r.lines = Lines.quiet := by rw [hr, ha]; exact lines
  have channel : r.channelEdge = v := by
    have quiet : r.vc.rx.char = none := by rw [hr, ha]; exact vcRx
    have done : r.txDone = false := by simp [State.txDone, hr, ha, tx]
    have received : r.vcReceive = v := by
      have level : r.lines.vcRx = true := by rw [high]; rfl
      rw [State.vcReceive_eq, level, Receiver.edge_of_high quiet, hv]
    have phase : v.vc.parser.phase = .hunting := by rw [hv, hr, ha]; exact hunting
    have bare : v.vc.fifo = [] := by rw [hv, hr, ha]; exact fifo
    have unwatched : v.gapCheck = v := if_neg fun ⟨watched, _⟩ => (State.gapWatched_iff.mp watched).2.2.1 phase
    have parsed : v.parserTake = v := by
      unfold State.parserTake
      rw [bare]
      split <;> rfl
    have flow : v.evalFlow = v := by
      have running : v.vc.flowPaused = false := by rw [hv, hr, ha]; exact flows
      have clear : v.vc.stall = false := by rw [hv, hr, ha]; exact stall
      have pause : v.evalPause = v := by simp [State.evalPause, running, bare]
      rw [State.evalFlow, pause]
      simp [State.evalStall, clear, bare]
    unfold State.channelEdge
    dsimp only
    rw [done, if_neg (by decide), received, unwatched, parsed, flow]
  obtain ⟨l, hl⟩ : ∃ l, l = ({ v with sl := { v.sl with rx := Receiver.rested true } } : State) := ⟨_, rfl⟩
  have link : v.linkEdge a = l := by
    have rests : v.sl.link = .idle := by rw [hv, hr, ha]; exact idle
    have quiet : v.sl.rx.char = none := by rw [hv, hr, ha]; exact slRx
    have lines' : v.lines = Lines.quiet := by rw [hv]; exact high
    have rests' : l.sl.link = .idle := by rw [hl]; exact rests
    have off' : l.linkEnabled = false := by rw [hl, hv, hr, ha]; exact off
    have received : v.linkReceive = l := by
      have here : ({ v with sl := { v.sl with rx := Receiver.rested true } } : State).replyExpiry = l := by
        rw [← hl]
        exact if_neg fun ⟨awaited, _⟩ => by simp [State.replyAwaited, rests'] at awaited
      have level : v.lines.linkRx = true := by rw [lines']; rfl
      rw [State.linkReceive_eq, if_neg (by simp [rests]), level, Receiver.edge_of_high quiet]
      exact here
    unfold State.linkEdge
    dsimp only
    rw [received]
    simp [rests', State.select, off']
  have worked : a.edgeExpired = l := by
    have position : a.positionReady = false := by simp [State.positionReady, ha, empty]
    have boundary : (a.clk.divider == 0) = false := by simp [ha]
    unfold State.edgeExpired State.edgeWorked
    dsimp only
    rw [position, boundary]
    simp only [Bool.false_eq_true, if_false]
    rw [recognised, channel, link]
  rw [State.tick_eq, begun, worked, turn, State.followSelect]
  have level : l.lines.csN = s.lines.csN := by rw [hl, hv, hr, ha]
  have high' : s.lines.csN = true := by rw [lines]; rfl
  simp only [level, high', Bool.false_eq_true, Bool.true_eq_false, and_false, false_and, if_false]
  rw [State.closeEdge, hl, hv, hr, ha]
  rfl

/-- Settles O2: an edge at which nothing is ready, then the edge as its rows. -/
theorem emptyStepsAreClockEdges : Obligations.EmptyStepsAreClockEdges := by
  have edge : ∀ {s : State}, s.pending = [] → step s = .next s.tick := fun empty => by
    unfold step
    rw [empty]
  refine ⟨fun s empty inputs lines within acc off idle fifo tx flows stall hunting vcRx slRx => ?_, ?_⟩
  · rw [edge empty, State.tick_of_quiet inputs lines within acc off idle fifo tx flows stall hunting vcRx slRx]
  · intro s a b c d d₁ d₂ e e₁ f g t x rest boundary silent empty inputs hboundary ha hb hc hd hd₁ hsilent hd₂ he he₁ hf
      hg ht
    have sample : s.takeSample = { s with pins := x.pins, lines := x.lines, inputs := rest } := by
      rcases inputs with ⟨none, rfl, rfl⟩ | some
      · have same : ∀ l, s.inputs = l → s = { s with inputs := l } := fun l h => by rw [← h]
        rw [State.takeSample, none]
        exact same [] none
      · rw [State.takeSample, some]
    have begun : a = s.edgeBegun := by
      have next : (s.takeSample.divide.countPeriods.clk.divider == 0) = boundary := by
        rw [sample, hboundary]
        exact decide_eq_decide.mpr (by simp only [State.divide, State.countPeriods, Config.microtick]; omega)
      unfold State.edgeBegun
      dsimp only
      rw [next, ha, sample]
      cases boundary with
      | false => rfl
      | true => rfl
    have divider : a.clk.divider = (s.clk.divider + 1) % 25 := by rw [ha]
    have bound : (a.clk.divider == 0) = boundary := by
      rw [divider, hboundary]
      exact decide_eq_decide.mpr (by omega)
    have lines : a.lines = x.lines := by rw [ha]
    have turned : s.turnsNow = x.turned := by
      rcases inputs with ⟨none, rfl, -⟩ | some
      · rw [State.turnsNow, none]
      · rw [State.turnsNow, some]
    have event : b.Alike (if a.positionReady then a.positionEvent else a) := by
      rw [hb]
      exact (State.Alike.refl a).positionEvent _ fun ready => by
        simp only [Bool.and_eq_true, decide_eq_true_eq] at ready
        exact ready.1
    have recognised := event.recognise hc
    have generator := hd ▸ recognised.genTick boundary
    have sent := hd₁ ▸ generator.completeTx
    have channel := sent.channel hsilent hd₂ he
    have received := channel.linkReceive he₁ hf
    have linked := hg ▸ received.linkEnds a
    have worked : g.Alike a.edgeWorked := by
      rw [← bound] at linked
      exact linked
    have expired : t.Alike a.edgeExpired := by
      rw [ht]
      unfold State.edgeExpired
      rw [bound]
      cases boundary with
      | false => exact worked
      | true => exact worked.boundary
    have level : a.edgeExpired.lines.csN = x.lines.csN := by rw [a.edgeExpired_lines, lines]
    rw [edge empty, State.tick_eq, ← begun, State.followed_eq, level, turned]
    generalize a.edgeExpired = z at *
    have startable : t.startableNow = z.startableNow := expired.same State.startableNow fun _ _ _ => rfl
    have port : t.portFollowed s.lines.csN x.lines.csN x.turned = z.portFollowed s.lines.csN x.lines.csN x.turned :=
      expired.same (State.portFollowed · s.lines.csN x.lines.csN x.turned) fun _ _ _ => rfl
    have placed := expired .late z.startableNow
    rw [startable]
    refine Eq.trans (congrArg (fun u : State => Host.Outcome.next
      { u with port := z.portFollowed s.lines.csN x.lines.csN x.turned }) placed.symm) ?_
    rw [← port]
    rfl

end Sys2Proof.Machine
end

end
